-- ==== Sys2Proof/Word.lean ====
section
/-! DEFINITION. Words, unit numbers and the plainest arithmetic over them (R6, R11, R14 to R16). -/

namespace Sys2Proof

/-- A register (R16). -/
abbrev U32 := BitVec 32
/-- A frame word of an Eave link, or a timestamp in Tf (R11, R119). -/
abbrev U64 := BitVec 64
/-- A Thatch word (R15, R194). -/
abbrev Word := BitVec 128

/-- Eave port number (R6). -/
abbrev Port := Fin 512
/-- Octet number (R6, R7). -/
abbrev Octet := Fin 64
/-- Timing channel number (R6). -/
abbrev Channel := Fin 96
/-- Rafter core number (R6). -/
abbrev Core := Fin 64
/-- Shingle engine number (R6). -/
abbrev Engine := Fin 32
/-- Ridge lane number (R6). -/
abbrev Lane := Fin 32
/-- Lane group number (R360). -/
abbrev LaneGroup := Fin 16
/-- Hip link number (R6). -/
abbrev Link := Fin 8
/-- Half: 0 north, 1 south (R28). -/
abbrev Half := Fin 2
/-- Queue number (R6, R240). -/
abbrev QueueNo := Fin 16384
/-- Queue group number (R242). -/
abbrev QGroup := Fin 256
/-- Store bank, spares 256 to 263 (R6, R197). -/
abbrev Bank := Fin 264
/-- Bundle number (R194). -/
abbrev Bundle := Fin 32768
/-- A rafter-core general register g0 to g15 (R273). -/
abbrev GReg := Fin 16
/-- A Gauge input of one unit (R396). -/
abbrev GaugeInput := Fin 28
/-- A converter slice of one Gauge unit (R402). -/
abbrev Slice := Fin 5

/-- Bits [lo+w-1:lo] of a number (R14). -/
def bits (v lo w : Nat) : Nat := v / 2 ^ lo % 2 ^ w

/-- `v` with bits [lo+w-1:lo] replaced by the low `w` bits of `x`. -/
def setBits (v lo w x : Nat) : Nat :=
  v - bits v lo w * 2 ^ lo + x % 2 ^ w * 2 ^ lo

/-- Bit `i` of a number. -/
def bitAt (v i : Nat) : Bool := v.testBit i

/-- 1 for true, 0 for false. -/
def b2n (b : Bool) : Nat := if b then 1 else 0

/-- Two's complement reading of the low `w` bits. -/
def toSigned (w v : Nat) : Int :=
  let m := v % 2 ^ w
  if m < 2 ^ (w - 1) then (m : Int) else (m : Int) - (2 ^ w : Nat)

/-- Two's complement pattern of `x` in `w` bits. -/
def ofSigned (w : Nat) (x : Int) : Nat := (x % ((2 ^ w : Nat) : Int)).toNat

/-- Smallest natural number `q` with `b * q ≥ a` (0 when `b` is 0). -/
def ceilDiv (a b : Nat) : Nat := if b = 0 then 0 else (a + b - 1) / b

/-- One coarse tick Tc in fine steps Tf (R10). -/
def tcTf : Nat := 1024

/-- The modulus of a 64-bit timestamp (R11). -/
def tsMod : Nat := 2 ^ 64

end Sys2Proof
end

