-- ==== Sys2Proof/Syntax.lean ====
section
/-! DEFINITION. The commands of the block, one constructor for each row of spec/opcode_table.json,
and the small types of their operands. -/

namespace Sys2Proof

/-- The register access paths (R511), in the order in which accesses of one cycle are applied (R513). -/
inductive Path where
  | ridge | mcN | mcS | soffit
deriving DecidableEq, Repr

/-- A DIRECTIVE transaction as the entry node receives it (R369, R464): the lane it came on, its tag
and target, word 0 [127:96], and the argument words. -/
structure DirReq where
  lane   : Lane
  tag    : BitVec 16
  target : BitVec 16
  data   : U32
  args   : List Word
deriving DecidableEq, Repr

/-- What a full recalibration measured on one timing channel (R106): the skew and comparator offset
that go to TCH_SKEW, and whether the interval self-test failed each interpolator. -/
structure ChanCal where
  chan   : Channel
  skew   : BitVec 16
  cmpOfs : BitVec 16
  fail0  : Bool
  fail1  : Bool
deriving DecidableEq, Repr

/-- What a full calibration measured on one Gauge unit (R407): the slices that failed, and the current
of each source at each code in pA, as (8·source + code, current) pairs (R401, R427). -/
structure UnitCal where
  unit   : Half
  failed : BitVec 5
  pA     : List (Fin 64 × U32)
deriving DecidableEq, Repr

/-- The handshake FIFOs of R214, and one register-and-transaction FIFO of class CONTROL per half
(R212). -/
inductive FifoId where
  | eaveRx (p : Port)
  | octetWriter (o : Octet)
  | timingWriter (g : Fin 12)
  | shingleIn (e : Engine)
  | bridge (toSouth : Bool) (cls : Fin 5)
  | primitive (h : Half)
  | control (h : Half)
deriving DecidableEq, Repr

/-- The START header fields of a Hip data frame (R381). -/
structure HipHdr where
  first : Bool
  last  : Bool
  dest  : BitVec 16
  orig  : BitVec 16
deriving DecidableEq, Repr

/-- The commands. Each is one whole, indivisible step of the device (95_what_each_step_holds.md). -/
inductive Instr where
  /-- POWER_GOOD_RISE (R531): NODE_STRAP[7:0] as sampled at the release of cold reset (R518). -/
  | powerGoodRise (strap : BitVec 8)
  /-- POWER_GOOD_FALL (R531). -/
  | powerGoodFall
  /-- RESET_N_ASSERT (R46). -/
  | resetNAssert
  /-- PLL_LOCK (R445). -/
  | pllLock
  /-- IMAGE_READ_DONE (R443). -/
  | imageReadDone
  /-- STARTUP_CALIBRATION_DONE (R445): what the full timing and Gauge calibrations measured (R106, R407). -/
  | startupCalibrationDone (chans : List ChanCal) (units : List UnitCal)
  /-- RUN_ENTRY (R446). -/
  | runEntry
  /-- RUN_WRITE (R448): the value written to GLOBAL_CTRL. -/
  | runWrite (path : Path) (data : U32)
  /-- WARM_RESET (R46). -/
  | warmReset (r : DirReq)
  /-- WARM_RESET_END (R50). -/
  | warmResetEnd
  /-- UNIT_RESET (R46). -/
  | unitReset (r : DirReq)
  /-- THERMAL_TRIP (R500): the last diode readings, for the THERM_TRIP event (R488). -/
  | thermalTrip (temps : BitVec 96)
  /-- NVM_GRACE_END (R500). -/
  | nvmGraceEnd
  /-- PFAIL_ASSERT (R499). -/
  | pfailAssert
  /-- PFAIL_RELEASE (R499). -/
  | pfailRelease
  /-- VEXC_LOW (R532). -/
  | vexcLow
  /-- COURSE_BOUNDARY (R57). -/
  | courseBoundary
  /-- DORLOR_FRAME (R65): bits [119:0] of R63 and the device time of the reference edge. -/
  | dorlorFrame (markOk : Bool) (frame : BitVec 120) (dSyn : U64)
  /-- SYN_LOSS (R81). -/
  | synLoss
  /-- REF_LOSS (R80). -/
  | refLoss
  /-- PLL_RELOCK (R80). -/
  | pllRelock
  /-- FL_TRIGGER_WORD (R69): the 32 bits of R68 and the device time of the reference edge. -/
  | flTriggerWord (w : U32) (dRx : U64)
  /-- FL_SYNC_WORD (R69): as FL_TRIGGER_WORD. -/
  | flSyncWord (w : U32) (dRx : U64)
  /-- PROFILE_WORD (R69): as FL_TRIGGER_WORD. -/
  | profileWord (w : U32) (dRx : U64)
  /-- BAD_TRIGGER_WORD (R69): the word as received. -/
  | badTriggerWord (w : U32)
  /-- TRIGGER_WORD_ACT (R70). -/
  | triggerWordAct
  /-- FL_TRG_IDLE (R82). -/
  | flTrgIdle
  /-- FL_TRG_LAUNCH (R174). -/
  | flTrgLaunch
  /-- HIP_ALIGN_EXCHANGE (R73). -/
  | hipAlignExchange
  /-- TIME_PROBE_ITEM (R73): device time of the probe's arrival and of the reply's sending (R73). -/
  | timeProbeItem (link : Link) (seq : BitVec 8) (dArr dSend : U64)
  /-- TIME_REPLY_ITEM (R74): the parent's stamps and the arrival's device time (R73). -/
  | timeReplyItem (link : Link) (seq : BitVec 8) (t2 t3 t4 : U64)
  /-- TSET_ITEM (R77): switch in old master time, signed change of A in Tf (R378). -/
  | tsetItem (link : Link) (seq : BitVec 8) (switchM deltaA : U64)
  /-- SET_TIME (R76). -/
  | setTime (r : DirReq)
  /-- FL_COMP_WRITE (R84): the value written to FL_COMP. -/
  | flCompWrite (path : Path) (data : U32)
  /-- TIME_LO_READ (R84): a peek when consume is false (R321). -/
  | timeLoRead (path : Path) (consume : Bool)
  /-- TIN_TRANSITION (R90): comparator output after the transition, its coarse tick, the sampled gates, the interpolator code F (R91). -/
  | tinTransition (c : Channel) (level : Bool) (tick : BitVec 54) (gates : BitVec 12) (code : BitVec 12)
  /-- HOLDOFF_END (R87). -/
  | holdoffEnd (c : Channel)
  /-- TCH_WINDOW_OPEN (R89). -/
  | tchWindowOpen (c : Channel)
  /-- TCH_WINDOW_CLOSE (R89). -/
  | tchWindowClose (c : Channel)
  /-- CAL_PAIR_DONE (R95): interpolator and its calibration codes (R91). -/
  | calPairDone (c : Channel) (ip : Fin 2) (c1 c2 : BitVec 12)
  /-- IDLE_CALIBRATION_START (R93). -/
  | idleCalibrationStart (c : Channel) (ip : Fin 2)
  /-- TIMES_ENTRY_TAKE (R97). -/
  | timesEntryTake (c : Channel)
  /-- TIMES_RECORD_CLOSE (R100). -/
  | timesRecordClose (c : Channel)
  /-- TIMING_RECAL (R106). -/
  | timingRecal (r : DirReq)
  /-- RECAL_GROUP_DONE (R106): what the recalibration measured on the group's channels (R106). -/
  | recalGroupDone (g : Fin 12) (chans : List ChanCal)
  /-- ST_START (R107): the value written to ST_CTRL. -/
  | stStart (path : Path) (c : Channel) (data : U32)
  /-- ST_ABORT (R108): the value written to ST_CTRL. -/
  | stAbort (path : Path) (c : Channel) (data : U32)
  /-- SELF_TEST_DONE (R107): measured mean and RMS in 1/16 Tf (R107). -/
  | selfTestDone (c : Channel) (mean rms : U32)
  /-- TCH_EN_WRITE (R109): the value written to TCH_CTRL. -/
  | tchEnWrite (path : Path) (c : Channel) (data : U32)
  /-- EV3_CODEWORD (R117): symbols corrected; frames with a block in it whose header was read (R117, R121). -/
  | ev3Codeword (p : Port) (corrected : Nat) (uncorrectable : Bool) (headersRead : Nat)
  /-- SAMPLE_FRAME (R120): header, body words, CRC-8, and whether the end delimiter follows exactly LEN words (R121). -/
  | sampleFrame (p : Port) (header : U64) (body : List U64) (crc : BitVec 8) (endOk : Bool)
  /-- HIT_FRAME (R120): as SAMPLE_FRAME. -/
  | hitFrame (p : Port) (header : U64) (body : List U64) (crc : BitVec 8) (endOk : Bool)
  /-- REPLY_FRAME (R131): as SAMPLE_FRAME. -/
  | replyFrame (p : Port) (header : U64) (body : List U64) (crc : BitVec 8) (endOk : Bool)
  /-- STATUS_FRAME (R122): as SAMPLE_FRAME. -/
  | statusFrame (p : Port) (header : U64) (body : List U64) (crc : BitVec 8) (endOk : Bool)
  /-- TRAIN_FRAME (R133): the form in which PATTERN is correct (R135), then as SAMPLE_FRAME. -/
  | trainFrame (p : Port) (upright : Bool) (header : U64) (body : List U64) (crc : BitVec 8) (endOk : Bool)
  /-- FRAME_REDUCTION (R155). -/
  | frameReduction (p : Port)
  /-- EV_COURSE_CLOSE (R124). -/
  | evCourseClose (p : Port)
  /-- HOLD_REPEAT (R127). -/
  | holdRepeat (p : Port)
  /-- TRAINING_SEND (R132). -/
  | trainingSend (p : Port)
  /-- EV_TRIGGER_CMD (R128). -/
  | evTriggerCmd (p : Port)
  /-- EV_CMD_DROP (R128). -/
  | evCmdDrop (p : Port)
  /-- FE_READ (R370): request fields of R369. -/
  | feRead (lane : Lane) (tag target : BitVec 16) (port : Port) (addr : U32)
  /-- FE_WRITE (R370): request fields of R369. -/
  | feWrite (lane : Lane) (tag target : BitVec 16) (port : Port) (addr data : U32)
  /-- FE_RMW (R370): request fields of R369. -/
  | feRmw (lane : Lane) (tag target : BitVec 16) (port : Port) (addr data mask : U32)
  /-- RELAY_ISSUE (R129). -/
  | relayIssue (p : Port)
  /-- RELAY_TIMEOUT (R131). -/
  | relayTimeout (p : Port)
  /-- EV_CLOCKING_DONE (R134). -/
  | evClockingDone (p : Port)
  /-- EV_LOCK (R134). -/
  | evLock (p : Port)
  /-- EV_ALIGN_TIMEOUT (R134). -/
  | evAlignTimeout (p : Port)
  /-- EV_TRAIN_TIMEOUT (R134). -/
  | evTrainTimeout (p : Port)
  /-- EV_SWAP_TIMEOUT (R134). -/
  | evSwapTimeout (p : Port)
  /-- EV_LOCK_LOSS (R137). -/
  | evLockLoss (p : Port)
  /-- EV_ADMIT_TIMEOUT (R145). -/
  | evAdmitTimeout (p : Port)
  /-- EV_EN_WRITE (R145): the value written to EV_CTRL. -/
  | evEnWrite (path : Path) (p : Port) (data : U32)
  /-- EV_EQ_WRITE (R139): EV_EQ_HI when hi, else EV_EQ_LO. -/
  | evEqWrite (path : Path) (p : Port) (hi : Bool) (data : U32)
  /-- EV_PAT_START (R148): the value written to EV_PAT_CTRL. -/
  | evPatStart (path : Path) (p : Port) (data : U32)
  /-- EV_PAT_STOP (R148): the value written to EV_PAT_CTRL. -/
  | evPatStop (path : Path) (p : Port) (data : U32)
  /-- EV_PAT_INJ_ONE (R148): the value written to EV_PAT_CTRL. -/
  | evPatInjOne (path : Path) (p : Port) (data : U32)
  /-- EV_PAT_BITS_READ (R150): a peek when consume is false. -/
  | evPatBitsRead (path : Path) (consume : Bool) (p : Port)
  /-- CLUSTER_CLOSE (R165): the device primitive group (R164). -/
  | clusterClose (g : Fin 128)
  /-- PRIM_FRAME_LAUNCH (R167). -/
  | primFrameLaunch
  /-- PRIM_DEADLINE (R167): the half whose oldest waiting primitive misses its deadline. -/
  | primDeadline (h : Half)
  /-- HIP_PRIM_ITEM (R172): item of R378. -/
  | hipPrimItem (link : Link) (prim : Word) (wait : BitVec 16) (hops : BitVec 8) (last : Bool)
  /-- HIP_DEC_ITEM (R387): item of R378. -/
  | hipDecItem (link : Link) (dec : BitVec 96) (hops : BitVec 8) (root : BitVec 16)
  /-- TRIGGER (R175). -/
  | trigger (r : DirReq)
  /-- AUTO_TRIGGER (R179). -/
  | autoTrigger (k : Fin 16)
  /-- TRIGGER_ACCEPT (R176). -/
  | triggerAccept
  /-- TRIGGER_ACT (R175). -/
  | triggerAct
  /-- MARK_WRITE (R181). -/
  | markWrite (h : Half)
  /-- CIRC_WINDOW_PUSH (R182). -/
  | circWindowPush (h : Half) (g : Fin 16)
  /-- PRIMS_RECORD_CLOSE (R188). -/
  | primsRecordClose (h : Half)
  /-- BUNDLE_RECYCLE (R201). -/
  | bundleRecycle (b : Bundle)
  /-- FIFO_PUSH (R211): the item and its number of bits in error (R212). -/
  | fifoPush (f : FifoId) (item : Word) (errs : Nat)
  /-- FIFO_READ (R210): bits in error of the item read (R212). -/
  | fifoRead (f : FifoId) (errs : Nat)
  /-- FIFO_MARK (R210). -/
  | fifoMark (f : FifoId)
  /-- FIFO_REWIND (R210). -/
  | fifoRewind (f : FifoId)
  /-- FIFO_RELEASE (R210). -/
  | fifoRelease (f : FifoId)
  /-- ARBITER_WINDOW (R217). -/
  | arbiterWindow
  /-- STARVATION (R221). -/
  | starvation (b : Bank) (cls : Fin 12)
  /-- BANK_READ (R224): word address, requester class, bits in error (R224). -/
  | bankRead (addr : BitVec 23) (cls : Fin 12) (errs : Nat)
  /-- TH_WEIGHT_WRITE (R221). -/
  | thWeightWrite (path : Path) (h : Half) (cls : Fin 12) (data : U32)
  /-- WINDOW_READ (R237): word and quarter (R237). -/
  | windowRead (path : Path) (consume : Bool) (addr : BitVec 23) (q : Fin 4)
  /-- WINDOW_WRITE (R237): word and quarter (R237). -/
  | windowWrite (path : Path) (addr : BitVec 23) (q : Fin 4) (data : U32)
  /-- TH_SCRUB_START (R228): the value written to TH_SCRUB_CTRL. -/
  | thScrubStart (path : Path) (data : U32)
  /-- TH_SCRUB_ABORT (R230): the value written to TH_SCRUB_CTRL. -/
  | thScrubAbort (path : Path) (data : U32)
  /-- SCRUB (R228). -/
  | scrub (r : DirReq)
  /-- SCRUB_PASS_DONE (R230). -/
  | scrubPassDone
  /-- TH_MIG_START (R231): the value written to TH_MIG_CTRL. -/
  | thMigStart (path : Path) (data : U32)
  /-- BANK_MIGRATE (R231). -/
  | bankMigrate (r : DirReq)
  /-- MIGRATION_DONE (R232). -/
  | migrationDone
  /-- LOCK_BREAK (R219). -/
  | lockBreak (k : Core)
  /-- QUEUE_WAIT_TIMEOUT (R253). -/
  | queueWaitTimeout (q : QueueNo)
  /-- DISPATCH (R255). -/
  | dispatch (h : Half)
  /-- LEND_OFFER (R259): the owning half. -/
  | lendOffer (h : Half)
  /-- LEND_ACCEPT (R259): the accepting half. -/
  | lendAccept (h : Half)
  /-- QGROUP_EN_WRITE (R242): the value written to PD_QGEN. -/
  | qgroupEnWrite (path : Path) (j : QGroup) (data : U32)
  /-- DRAIN_TIMEOUT (R260). -/
  | drainTimeout (q : QueueNo)
  /-- PD_FLAG_SET (R252): the value written to PD_FLAG_SET. -/
  | pdFlagSet (path : Path) (h : Half) (data : U32)
  /-- PD_CORE_TASKS_READ (R269). -/
  | pdCoreTasksRead (path : Path) (consume : Bool) (k : Core)
  /-- ADD (R283). -/
  | add (k : Core) (d a b : GReg)
  /-- SUB (R283). -/
  | sub (k : Core) (d a b : GReg)
  /-- ADDC (R283). -/
  | addc (k : Core) (d a b : GReg)
  /-- SUBC (R283). -/
  | subc (k : Core) (d a b : GReg)
  /-- AND (R283). -/
  | andR (k : Core) (d a b : GReg)
  /-- OR (R283). -/
  | orR (k : Core) (d a b : GReg)
  /-- XOR (R283). -/
  | xorR (k : Core) (d a b : GReg)
  /-- SLL (R283). -/
  | sll (k : Core) (d a b : GReg)
  /-- SRL (R283). -/
  | srl (k : Core) (d a b : GReg)
  /-- SRA (R283). -/
  | sra (k : Core) (d a b : GReg)
  /-- SLT (R283). -/
  | slt (k : Core) (d a b : GReg)
  /-- SLTU (R283). -/
  | sltu (k : Core) (d a b : GReg)
  /-- MUL (R283). -/
  | mul (k : Core) (d a b : GReg)
  /-- MULHS (R283). -/
  | mulhs (k : Core) (d a b : GReg)
  /-- MULHU (R283). -/
  | mulhu (k : Core) (d a b : GReg)
  /-- MIN (R283). -/
  | minR (k : Core) (d a b : GReg)
  /-- MAX (R283). -/
  | maxR (k : Core) (d a b : GReg)
  /-- ABSD (R283). -/
  | absd (k : Core) (d a b : GReg)
  /-- CLZ (R283). -/
  | clz (k : Core) (d a : GReg)
  /-- JR (R285). -/
  | jr (k : Core) (a : GReg)
  /-- JALR (R285). -/
  | jalr (k : Core) (d a : GReg)
  /-- ADDI (R283). -/
  | addi (k : Core) (d a : GReg) (imm : BitVec 18)
  /-- ANDI (R283). -/
  | andi (k : Core) (d a : GReg) (imm : BitVec 18)
  /-- ORI (R283). -/
  | ori (k : Core) (d a : GReg) (imm : BitVec 18)
  /-- XORI (R283). -/
  | xori (k : Core) (d a : GReg) (imm : BitVec 18)
  /-- SLLI (R283): imm[4:0]; imm[17:5] is 0. -/
  | slli (k : Core) (d a : GReg) (imm : BitVec 5)
  /-- SRLI (R283): imm[4:0]; imm[17:5] is 0. -/
  | srli (k : Core) (d a : GReg) (imm : BitVec 5)
  /-- SRAI (R283): imm[4:0]; imm[17:5] is 0. -/
  | srai (k : Core) (d a : GReg) (imm : BitVec 5)
  /-- SLTI (R283). -/
  | slti (k : Core) (d a : GReg) (imm : BitVec 18)
  /-- SLTIU (R283). -/
  | sltiu (k : Core) (d a : GReg) (imm : BitVec 18)
  /-- LUI (R283). -/
  | lui (k : Core) (d : GReg) (imm : BitVec 16)
  /-- LDW (R283). -/
  | ldw (k : Core) (d a : GReg) (imm : BitVec 18)
  /-- LDH (R283). -/
  | ldh (k : Core) (d a : GReg) (imm : BitVec 18)
  /-- LDHU (R283). -/
  | ldhu (k : Core) (d a : GReg) (imm : BitVec 18)
  /-- LDB (R283). -/
  | ldb (k : Core) (d a : GReg) (imm : BitVec 18)
  /-- LDBU (R283). -/
  | ldbu (k : Core) (d a : GReg) (imm : BitVec 18)
  /-- LDQ (R277). -/
  | ldq (k : Core) (d a : GReg) (imm : BitVec 18)
  /-- STW (R283). -/
  | stw (k : Core) (d a : GReg) (imm : BitVec 18)
  /-- STH (R283). -/
  | sth (k : Core) (d a : GReg) (imm : BitVec 18)
  /-- STB (R283). -/
  | stb (k : Core) (d a : GReg) (imm : BitVec 18)
  /-- STQ (R277). -/
  | stq (k : Core) (d a : GReg) (imm : BitVec 18)
  /-- BEQ (R283). -/
  | beq (k : Core) (a b : GReg) (off : BitVec 18)
  /-- BNE (R283). -/
  | bne (k : Core) (a b : GReg) (off : BitVec 18)
  /-- BLT (R283). -/
  | blt (k : Core) (a b : GReg) (off : BitVec 18)
  /-- BGE (R283). -/
  | bge (k : Core) (a b : GReg) (off : BitVec 18)
  /-- BLTU (R283). -/
  | bltu (k : Core) (a b : GReg) (off : BitVec 18)
  /-- BGEU (R283). -/
  | bgeu (k : Core) (a b : GReg) (off : BitVec 18)
  /-- J (R283). -/
  | j (k : Core) (off : BitVec 26)
  /-- JAL (R283). -/
  | jal (k : Core) (off : BitVec 26)
  /-- LOOP (R295). -/
  | loop (k : Core) (level : Fin 2) (a : GReg) (cnt : BitVec 11) (off : BitVec 10)
  /-- MAC (R283). -/
  | mac (k : Core) (n : Fin 2) (a b : GReg)
  /-- MSU (R283). -/
  | msu (k : Core) (n : Fin 2) (a b : GReg)
  /-- MACD (R283). -/
  | macd (k : Core) (n : Fin 2) (a b : GReg)
  /-- MACP (R283). -/
  | macp (k : Core) (a b : GReg)
  /-- ACLR (R283). -/
  | aclr (k : Core) (n : Fin 2)
  /-- ALD (R283). -/
  | ald (k : Core) (n : Fin 2) (a : GReg)
  /-- AADD (R283). -/
  | aadd (k : Core) (n : Fin 2) (a : GReg) (sh : BitVec 6)
  /-- ASUB (R283). -/
  | asub (k : Core) (n : Fin 2) (a : GReg) (sh : BitVec 6)
  /-- ASHR (R283). -/
  | ashr (k : Core) (n : Fin 2) (sh : BitVec 5)
  /-- ASHL (R283). -/
  | ashl (k : Core) (n : Fin 2) (sh : BitVec 5)
  /-- MVAL (R283). -/
  | mval (k : Core) (d : GReg) (n : Fin 2)
  /-- MVAH (R283). -/
  | mvah (k : Core) (d : GReg) (n : Fin 2)
  /-- TAKE (R287). -/
  | take (k : Core) (d : GReg)
  /-- DONE (R292). -/
  | doneT (k : Core) (a : GReg) (opts : BitVec 10)
  /-- PUSH (R290). -/
  | push (k : Core) (d a : GReg)
  /-- ALLOC (R289). -/
  | alloc (k : Core) (d a : GReg)
  /-- LOCK (R305). -/
  | lock (k : Core) (d a : GReg) (n : BitVec 10)
  /-- RLS (R293). -/
  | rls (k : Core) (d a : GReg)
  /-- MFC (R274). -/
  | mfc (k : Core) (d : GReg) (csr : BitVec 10)
  /-- MTC (R275). -/
  | mtc (k : Core) (csr : BitVec 10) (a : GReg)
  /-- RETE (R302). -/
  | rete (k : Core)
  /-- TRAP (R283). -/
  | trap (k : Core) (imm : BitVec 10)
  /-- SYNC (R283). -/
  | sync (k : Core)
  /-- STORE_DRAIN (R309). -/
  | storeDrain (k : Core)
  /-- IMEM_SCRUB (R280): word number and bits in error found (R280). -/
  | imemScrub (k : Core) (w : BitVec 14) (errs : Nat)
  /-- DBG_HALT (R318): the value written to DBG_CTRL. -/
  | dbgHalt (path : Path) (k : Core) (data : U32)
  /-- DBG_RESUME (R318): the value written to DBG_CTRL. -/
  | dbgResume (path : Path) (k : Core) (data : U32)
  /-- DBG_STEP (R318): the value written to DBG_CTRL. -/
  | dbgStep (path : Path) (k : Core) (data : U32)
  /-- DBG_FORCE (R318): the value written to DBG_CTRL. -/
  | dbgForce (path : Path) (k : Core) (data : U32)
  /-- DBG_ACC_GO (R320): the value written to DBG_ACC. -/
  | dbgAccGo (path : Path) (k : Core) (data : U32)
  /-- RC_MEMD_ACCESS (R320). -/
  | rcMemdAccess (path : Path) (k : Core) (write : Bool) (data : U32)
  /-- RC_EN_WRITE (R313): the value written to RC_CTRL. -/
  | rcEnWrite (path : Path) (k : Core) (data : U32)
  /-- CORE_REFRESH (R316). -/
  | coreRefresh (r : DirReq)
  /-- CORE_PROGRAM_LOADED (R316): whether the second CRC-32C check passed (R316). -/
  | coreProgramLoaded (k : Core) (ok : Bool)
  /-- SHINGLE_BLOCK_OPEN (R328). -/
  | shingleBlockOpen (e : Engine)
  /-- SHINGLE_PASS_DONE (R338). -/
  | shinglePassDone (e : Engine)
  /-- SHINGLE_CONTAINER_PUSH (R343). -/
  | shingleContainerPush (e : Engine)
  /-- SH_FLUSH (R329): the value written to SH_FLUSH. -/
  | shFlush (path : Path) (data : U32)
  /-- SH_EN_WRITE (R345): the value written to SH_CTRL. -/
  | shEnWrite (path : Path) (e : Engine) (data : U32)
  /-- CT_READ (R370): request fields of R369. -/
  | ctRead (lane : Lane) (tag target : BitVec 16) (addr : U32)
  /-- CT_WRITE (R370): request fields of R369. -/
  | ctWrite (lane : Lane) (tag target : BitVec 16) (addr data : U32)
  /-- CT_RMW (R515): request fields of R369. -/
  | ctRmw (lane : Lane) (tag target : BitVec 16) (addr data mask : U32)
  /-- CT_PING (R370): request fields of R369. -/
  | ctPing (lane : Lane) (tag target : BitVec 16)
  /-- ACK_FRAME (R362). -/
  | ackFrame (lane : Lane) (g : LaneGroup) (gseq : BitVec 24)
  /-- RESEND_FRAME (R363). -/
  | resendFrame (lane : Lane) (g : LaneGroup) (first last : BitVec 24)
  /-- BE_STATUS_FRAME (R358). -/
  | beStatusFrame (lane : Lane) (locked : U32)
  /-- ACK_TIMEOUT (R363). -/
  | ackTimeout (g : LaneGroup)
  /-- STATUS_SEND (R358). -/
  | statusSend (lane : Lane)
  /-- RECORD_SEND (R361). -/
  | recordSend (g : LaneGroup)
  /-- RESPONSE_SEND (R361). -/
  | responseSend (g : LaneGroup)
  /-- LANE_READY (R364). -/
  | laneReady (lane : Lane)
  /-- LANE_TRAIN_TIMEOUT (R364). -/
  | laneTrainTimeout (lane : Lane)
  /-- LANE_FAIL (R365): whether block lock was lost (R365). -/
  | laneFail (lane : Lane) (lockLost : Bool)
  /-- LANE_SPARE (R365). -/
  | laneSpare (r : DirReq)
  /-- LANE_RETURN (R364). -/
  | laneReturn (r : DirReq)
  /-- RG_LANE_EN_WRITE (R364): the value written to RG_LANE_CTRL. -/
  | rgLaneEnWrite (path : Path) (lane : Lane) (data : U32)
  /-- RG_GRP_EN_WRITE (R360): the value written to RG_GRP_CTRL. -/
  | rgGrpEnWrite (path : Path) (g : LaneGroup) (data : U32)
  /-- HIP_LOCK (R383). -/
  | hipLock (link : Link)
  /-- HELLO_ITEM (R383): the HELLO data block (R383). -/
  | helloItem (link : Link) (data : U64)
  /-- HELLO_SEND (R383). -/
  | helloSend (link : Link)
  /-- HIP_NEIGHBOUR_LOSS (R383): whether lock was lost, or four HELLO periods passed. -/
  | hipNeighbourLoss (link : Link) (lockLost : Bool)
  /-- HIP_SLIP (R378). -/
  | hipSlip (link : Link)
  /-- CREDIT_ITEM (R381). -/
  | creditItem (link : Link) (credits : BitVec 8)
  /-- HIP_RECORD_FRAME (R382). -/
  | hipRecordFrame (link : Link) (hdr : HipHdr) (words : List Word)
  /-- HIP_REQUEST_FRAME (R386). -/
  | hipRequestFrame (link : Link) (hdr : HipHdr) (words : List Word)
  /-- HIP_RESPONSE_FRAME (R386). -/
  | hipResponseFrame (link : Link) (hdr : HipHdr) (words : List Word)
  /-- ANNOUNCE_FRAME (R386). -/
  | announceFrame (link : Link) (ids : List (BitVec 16))
  /-- WITHDRAW_FRAME (R386). -/
  | withdrawFrame (link : Link) (ids : List (BitVec 16))
  /-- FWD_ACK_FRAME (R382). -/
  | fwdAckFrame (link : Link) (hdr : HipHdr) (fseq : BitVec 24) (g : LaneGroup)
  /-- HIP_ITEM_FORWARD (R380): the transmitting link. -/
  | hipItemForward (link : Link)
  /-- REMOTE_TIMEOUT (R386). -/
  | remoteTimeout (tag : BitVec 16) (g : LaneGroup)
  /-- HIP_EN_WRITE (R394): the value written to HIP_CTRL. -/
  | hipEnWrite (path : Path) (link : Link) (data : U32)
  /-- GAUGE_DUE (R406). -/
  | gaugeDue (h : Half) (j : GaugeInput)
  /-- GAUGE_JOB_START (R406). -/
  | gaugeJobStart (h : Half)
  /-- GAUGE_PHASE_END (R398). -/
  | gaugePhaseEnd (h : Half) (sl : Slice)
  /-- GAUGE_CONVERSION_DONE (R398): signed V in 10 nV (R420). -/
  | gaugeConversionDone (h : Half) (sl : Slice) (raw : U32)
  /-- GAUGE_JOB_END (R398): whether the source stood at its compliance limit (R414). -/
  | gaugeJobEnd (h : Half) (sl : Slice) (compliance : Bool)
  /-- GAUGE_EXC_FAULT (R414). -/
  | gaugeExcFault (h : Half) (sl : Slice)
  /-- GAUGE_DIAG_END (R416): the diagnostic conversion (R416). -/
  | gaugeDiagEnd (h : Half) (sl : Slice) (raw : U32)
  /-- GA_URGENT_GO (R409): the value written to GA_URGENT. -/
  | gaUrgentGo (path : Path) (h : Half) (data : U32)
  /-- GAUGE_URGENT (R408). -/
  | gaugeUrgent (r : DirReq)
  /-- GAUGE_TWARN_CROSS (R408): input 16, or 17 when second. -/
  | gaugeTwarnCross (h : Half) (second : Bool)
  /-- SLICE_CAL_DONE (R403): whether R403 accepts it; the largest gain change (R486). -/
  | sliceCalDone (h : Half) (ok : Bool) (gainChangePpm : Nat)
  /-- SLICE_ROTATION (R403). -/
  | sliceRotation (h : Half)
  /-- GA_FULLCAL_START (R407): the value written to GA_FULLCAL. -/
  | gaFullcalStart (path : Path) (h : Half) (data : U32)
  /-- GAUGE_CAL (R407). -/
  | gaugeCal (r : DirReq)
  /-- GAUGE_FULLCAL_DONE (R407): what the calibration measured. -/
  | gaugeFullcalDone (u : UnitCal)
  /-- GAUGE_RECORD_CLOSE (R419). -/
  | gaugeRecordClose (h : Half)
  /-- GA_EN_WRITE (R421): the value written to GA_CTRL. -/
  | gaEnWrite (path : Path) (h : Half) (data : U32)
  /-- GA_INPUT_EN_WRITE (R421): the value written to GA_IN_A. -/
  | gaInputEnWrite (path : Path) (h : Half) (j : GaugeInput) (data : U32)
  /-- PROFILE (R460). -/
  | profile (r : DirReq)
  /-- PROFILE_SCHEDULE (R462): the schedule entry. -/
  | profileSchedule (n : Fin 8)
  /-- PROF_EN_WRITE (R459): the value written to PROF_CTRL. -/
  | profEnWrite (path : Path) (data : U32)
  /-- TRG_SRC_EN_WRITE (R451): the value written to TRG_CTRL. -/
  | trgSrcEnWrite (path : Path) (data : U32)
  /-- CONSISTENCY_CHECK_DONE (R453). -/
  | consistencyCheckDone
  /-- ADMIT (R464). -/
  | admitUnit (r : DirReq)
  /-- RETIRE (R464). -/
  | retire (r : DirReq)
  /-- LINK_RETRAIN (R548). -/
  | linkRetrain (r : DirReq)
  /-- LEDGER_COMPACT (R489). -/
  | ledgerCompact (r : DirReq)
  /-- DUMP (R505). -/
  | dump (r : DirReq)
  /-- DUMP_DONE (R504). -/
  | dumpDone
  /-- MAINT_ABORT (R498). -/
  | maintAbort (r : DirReq)
  /-- TENURE_MOVE (R477). -/
  | tenureMove (r : DirReq)
  /-- RELAY_OPEN (R466). -/
  | relayOpen (r : DirReq)
  /-- RELAY_WRITE (R467). -/
  | relayWrite (r : DirReq)
  /-- RELAY_PAGE_DONE (R467). -/
  | relayPageDone (readBackOk : Bool)
  /-- RELAY_CLOSE (R468). -/
  | relayClose (r : DirReq)
  /-- RELAY_CANCEL (R469). -/
  | relayCancel (r : DirReq)
  /-- RELAY_IDLE_TIMEOUT (R469). -/
  | relayIdleTimeout
  /-- MC_HEARTBEAT (R474). -/
  | mcHeartbeat (h : Half)
  /-- HEARTBEAT_SILENCE (R478). -/
  | heartbeatSilence (h : Half)
  /-- TN_REQ (R477): the value written to TN_CTRL. -/
  | tnReq (path : Path) (data : U32)
  /-- TN_GRANT (R477): the value written to TN_CTRL. -/
  | tnGrant (path : Path) (data : U32)
  /-- TENURE_REQ_TIMEOUT (R477). -/
  | tenureReqTimeout
  /-- TENURE_DISPUTE (R475): the three upset copies of the latch. -/
  | tenureDispute (copies : BitVec 6)
  /-- VOTER_REPAIR (R22): the voted register with a disagreeing copy. -/
  | voterRepair (addr : U32) (repairable : Bool)
  /-- MC_DEFERRAL (R473). -/
  | mcDeferral (h : Half) (level : Fin 5)
  /-- LEDGER_COMMIT (R489). -/
  | ledgerCommit
  /-- MAINT_SCHEDULE (R497): the schedule entry. -/
  | maintSchedule (n : Fin 16)
  /-- MG_PATCH_APPLY (R482): the value written to MG_PATCH_CTRL. -/
  | mgPatchApply (path : Path) (data : U32)
  /-- MG_PATCH_D_WRITE (R482): the value written to MG_PATCH_D. -/
  | mgPatchDWrite (path : Path) (data : U32)
  /-- REGISTER_WRITE (R18). -/
  | registerWrite (path : Path) (addr data : U32)
  /-- RC_COUNTER_READ (R21): a consume read. -/
  | rcCounterRead (path : Path) (addr : U32)
  /-- LG_CNT_LO_READ (R507). -/
  | lgCntLoRead (path : Path) (consume : Bool)
  /-- TAP_RESET (R543). -/
  | tapReset
  /-- EXTEST (R543). -/
  | extest
  /-- SAMPLE_PRELOAD (R543). -/
  | samplePreload
  /-- EXTEST_PULSE (R543). -/
  | extestPulse
  /-- EXTEST_TRAIN (R543). -/
  | extestTrain
  /-- CLAMP (R543). -/
  | clamp
  /-- HIGHZ (R543). -/
  | highz
  /-- BYPASS (R543): the instruction register: 0xFF or any code not listed (R543). -/
  | bypass (ir : BitVec 8)
  /-- DBG_REG (R543). -/
  | dbgReg
  /-- DBG_REG_UPDATE (R544): the data register at Update-DR (R544). -/
  | dbgRegUpdate (dr : BitVec 72)
  /-- RESET_N_RELEASE (R445): NODE_STRAP[7:0] as sampled at the release (R518). -/
  | resetNRelease (strap : BitVec 8)
  /-- VEXC_RETURN (R532). -/
  | vexcReturn
  /-- FL_TRG_ACTIVE (R82). -/
  | flTrgActive
  /-- LINK_RETRAIN_TIMEOUT (R548): the activity. -/
  | linkRetrainTimeout (id : BitVec 16)
  /-- LEDGER_RECORD_WRITTEN (R484). -/
  | ledgerRecordWritten
  /-- RELAY_VERIFIED (R468): whether page 0 was programmed and read back (R468). -/
  | relayVerified (programmed : Bool)
  /-- RELAY_ERASE_DONE (R466). -/
  | relayEraseDone
  /-- RG_BAD_RX (R357). -/
  | rgBadRx (lane : Lane)
  /-- BAD_REQUEST (R370): word 0 of the request and its argument words (R369). -/
  | badRequest (lane : Lane) (w0 : Word) (args : List Word)
  /-- ILLEGAL_INSTRUCTION (R284): the word fetched. -/
  | illegalInstruction (k : Core) (w : U32)
  /-- RX_LOCK_LOSS (R357). -/
  | rxLockLoss (lane : Lane)
deriving DecidableEq, Repr

end Sys2Proof
end

