-- ==== Sys2Proof/Decode.lean ====
section
/-! DEFINITION. The table gives its rows no bits: the block's commands arrive as events and accesses, not as words. -/

namespace Sys2Proof

/-- The command that a word of the table spells: none, since spec/opcode_table.json gives no row any bits.
(log 6: DEDUCED) -/
def decodeTableWord (_nbits _w : Nat) : Option Instr := none

end Sys2Proof
end

