-- ==== Sys2Proof/Config.lean ====
section
/-! DEFINITION. What the spec leaves to the silicon: free values, each a constant without a body. A free
value drawn by a step is applied to the counter of draws in State (entry 5 of the assumption log). -/

namespace Sys2Proof

/-- The `n`-th free value drawn: the low bits are taken as wide as the use needs. (log 5: DESIGN CHOICE) -/
opaque Config.freeBits : Nat → BitVec 128

/-- What a linearisation curve of R411 whose computation the spec gives by name only, or by a function it does not lay
down to the last bit, makes of a reading: curve, mean V in 10 nV, calibrated current in pA, coefficients C0 to C3, and the
reference reading; in units of the curve, before clamping. (log 5: DESIGN CHOICE; 99: DEDUCED) -/
opaque Config.curve : Nat → Int → Nat → List (BitVec 32) → Int → Int

/-- Receiver delay t_rx of FL_SYN and FL_TRG in Tf, fixed per device (R66, R70). (log 5: DESIGN CHOICE) -/
opaque Config.tRx : Nat

end Sys2Proof
end

