-- ==== Sys2Proof/Machine/RegMap.lean ====
section
/-! DEFINITION. The register map (R509, R525) and the fields of every register, written from the
register tables of the spec. A field is an address, its lowest bit and its width. -/

namespace Sys2Proof.Machine

/-- Access codes of R18. -/
inductive Access where
  | ro | rw | w1c | rc | wo | rwl | rwt
deriving DecidableEq, Repr

/-- One field of a register: byte address, lowest bit, width (R14). -/
structure Field where
  addr : Nat
  lo   : Nat
  w    : Nat
deriving DecidableEq, Repr

/-- One row of a register table (R17). -/
structure FieldRow where
  lo     : Nat
  w      : Nat
  access : Access
deriving DecidableEq, Repr

/-- A register, or a family of registers: base address, (stride, count) of each index, rows. -/
structure RegRow where
  base : Nat
  dims : List (Nat × Nat)
  rows : List FieldRow
deriving DecidableEq, Repr

/-- A block of R509: first and last byte address, and its registers. -/
structure Block where
  first : Nat
  last  : Nat
  regs  : List RegRow
deriving DecidableEq, Repr

/-- Address of IDENT (R2). -/
def Addr.IDENT : Nat := 0x0
/-- R2. -/
def IDENT.MINOR : Field := ⟨Addr.IDENT, 0, 4⟩
/-- R2. -/
def IDENT.MAJOR : Field := ⟨Addr.IDENT, 4, 4⟩
/-- R2. -/
def IDENT.VENDOR : Field := ⟨Addr.IDENT, 8, 8⟩
/-- R2. -/
def IDENT.PART : Field := ⟨Addr.IDENT, 16, 16⟩
/-- Address of NODE_ID (R470). -/
def Addr.NODE_ID : Nat := 0x4
/-- R470. -/
def NODE_ID.ID : Field := ⟨Addr.NODE_ID, 0, 16⟩
/-- Address of GLOBAL_CTRL (R470). -/
def Addr.GLOBAL_CTRL : Nat := 0x8
/-- R470. -/
def GLOBAL_CTRL.RUN : Field := ⟨Addr.GLOBAL_CTRL, 0, 1⟩
/-- Address of RST_CAUSE (R518). -/
def Addr.RST_CAUSE : Nat := 0xC
/-- R518. -/
def RST_CAUSE.KIND : Field := ⟨Addr.RST_CAUSE, 0, 3⟩
/-- R518. -/
def RST_CAUSE.UNCLEAN : Field := ⟨Addr.RST_CAUSE, 3, 1⟩
/-- R518. -/
def RST_CAUSE.FATAL : Field := ⟨Addr.RST_CAUSE, 4, 4⟩
/-- R518. -/
def RST_CAUSE.WARM : Field := ⟨Addr.RST_CAUSE, 16, 16⟩
/-- Address of BOOT_STAT (R470). -/
def Addr.BOOT_STAT : Nat := 0x10
/-- R470. -/
def BOOT_STAT.STAGE : Field := ⟨Addr.BOOT_STAT, 0, 4⟩
/-- R470. -/
def BOOT_STAT.ACTIVE : Field := ⟨Addr.BOOT_STAT, 4, 1⟩
/-- Address of IMG_A (R470). -/
def Addr.IMG_A : Nat := 0x14
/-- R470. -/
def IMG_A.SEQ : Field := ⟨Addr.IMG_A, 0, 32⟩
/-- Address of IMG_A_ERR (R470). -/
def Addr.IMG_A_ERR : Nat := 0x18
/-- R470. -/
def IMG_A_ERR.ERR : Field := ⟨Addr.IMG_A_ERR, 0, 8⟩
/-- R470. -/
def IMG_A_ERR.SECTION : Field := ⟨Addr.IMG_A_ERR, 8, 8⟩
/-- Address of IMG_B (R470). -/
def Addr.IMG_B : Nat := 0x1C
/-- R470. -/
def IMG_B.SEQ : Field := ⟨Addr.IMG_B, 0, 32⟩
/-- Address of IMG_B_ERR (R470). -/
def Addr.IMG_B_ERR : Nat := 0x20
/-- R470. -/
def IMG_B_ERR.ERR : Field := ⟨Addr.IMG_B_ERR, 0, 8⟩
/-- R470. -/
def IMG_B_ERR.SECTION : Field := ⟨Addr.IMG_B_ERR, 8, 8⟩
/-- Address of STRAP (R518). -/
def Addr.STRAP : Nat := 0x24
/-- R518. -/
def STRAP.NODE : Field := ⟨Addr.STRAP, 0, 8⟩
/-- R518. -/
def STRAP.PFAIL : Field := ⟨Addr.STRAP, 8, 1⟩
/-- R518. -/
def STRAP.ALERT : Field := ⟨Addr.STRAP, 9, 1⟩
/-- Address of REFUSE (R470). -/
def Addr.REFUSE : Nat := 0x28
/-- R470. -/
def REFUSE.REASON : Field := ⟨Addr.REFUSE, 0, 8⟩
/-- R470. -/
def REFUSE.DETAIL : Field := ⟨Addr.REFUSE, 8, 16⟩
/-- R470. -/
def REFUSE.NEW : Field := ⟨Addr.REFUSE, 31, 1⟩
/-- Address of REFUSE_UNIT (R470). -/
def Addr.REFUSE_UNIT : Nat := 0x2C
/-- R470. -/
def REFUSE_UNIT.INDEX : Field := ⟨Addr.REFUSE_UNIT, 0, 24⟩
/-- R470. -/
def REFUSE_UNIT.KIND : Field := ⟨Addr.REFUSE_UNIT, 24, 8⟩
/-- Address of REFUSE_CNT (R470). -/
def Addr.REFUSE_CNT : Nat := 0x30
/-- R470. -/
def REFUSE_CNT.N : Field := ⟨Addr.REFUSE_CNT, 0, 32⟩
/-- Address of ATTN_STAT (R519). -/
def Addr.ATTN_STAT : Nat := 0x34
/-- R519. -/
def ATTN_STAT.GLOBAL : Field := ⟨Addr.ATTN_STAT, 0, 1⟩
/-- R519. -/
def ATTN_STAT.TIME : Field := ⟨Addr.ATTN_STAT, 1, 1⟩
/-- R519. -/
def ATTN_STAT.TIMING : Field := ⟨Addr.ATTN_STAT, 2, 1⟩
/-- R519. -/
def ATTN_STAT.EAVE : Field := ⟨Addr.ATTN_STAT, 3, 1⟩
/-- R519. -/
def ATTN_STAT.TRIGGER : Field := ⟨Addr.ATTN_STAT, 4, 1⟩
/-- R519. -/
def ATTN_STAT.THATCH : Field := ⟨Addr.ATTN_STAT, 5, 1⟩
/-- R519. -/
def ATTN_STAT.PURLIN : Field := ⟨Addr.ATTN_STAT, 6, 1⟩
/-- R519. -/
def ATTN_STAT.CORES : Field := ⟨Addr.ATTN_STAT, 7, 1⟩
/-- R519. -/
def ATTN_STAT.SHINGLE : Field := ⟨Addr.ATTN_STAT, 8, 1⟩
/-- R519. -/
def ATTN_STAT.RIDGE : Field := ⟨Addr.ATTN_STAT, 9, 1⟩
/-- R519. -/
def ATTN_STAT.HIP : Field := ⟨Addr.ATTN_STAT, 10, 1⟩
/-- R519. -/
def ATTN_STAT.GAUGE : Field := ⟨Addr.ATTN_STAT, 11, 1⟩
/-- R519. -/
def ATTN_STAT.MGMT : Field := ⟨Addr.ATTN_STAT, 12, 1⟩
/-- R519. -/
def ATTN_STAT.MAINT : Field := ⟨Addr.ATTN_STAT, 13, 1⟩
/-- R519. -/
def ATTN_STAT.RESCUE : Field := ⟨Addr.ATTN_STAT, 14, 1⟩
/-- R519. -/
def ATTN_STAT.FATAL : Field := ⟨Addr.ATTN_STAT, 15, 1⟩
/-- Address of PROF_CTRL (R470). -/
def Addr.PROF_CTRL : Nat := 0x38
/-- R470. -/
def PROF_CTRL.EN : Field := ⟨Addr.PROF_CTRL, 0, 4⟩
/-- Address of PROF_STAT (R470). -/
def Addr.PROF_STAT : Nat := 0x3C
/-- R470. -/
def PROF_STAT.CUR : Field := ⟨Addr.PROF_STAT, 0, 2⟩
/-- R470. -/
def PROF_STAT.PEND : Field := ⟨Addr.PROF_STAT, 2, 2⟩
/-- R470. -/
def PROF_STAT.SWITCH_PEND : Field := ⟨Addr.PROF_STAT, 4, 1⟩
/-- R470. -/
def PROF_STAT.PITCH : Field := ⟨Addr.PROF_STAT, 5, 2⟩
/-- R470. -/
def PROF_STAT.N : Field := ⟨Addr.PROF_STAT, 7, 5⟩
/-- R470. -/
def PROF_STAT.REPLACED : Field := ⟨Addr.PROF_STAT, 12, 1⟩
/-- Address of RELAY_STAT (R470). -/
def Addr.RELAY_STAT : Nat := 0x40
/-- R470. -/
def RELAY_STAT.OPEN : Field := ⟨Addr.RELAY_STAT, 0, 1⟩
/-- R470. -/
def RELAY_STAT.BUSY : Field := ⟨Addr.RELAY_STAT, 1, 1⟩
/-- R470. -/
def RELAY_STAT.VERIFIED : Field := ⟨Addr.RELAY_STAT, 2, 1⟩
/-- R470. -/
def RELAY_STAT.FAILED : Field := ⟨Addr.RELAY_STAT, 3, 1⟩
/-- R470. -/
def RELAY_STAT.PAGES : Field := ⟨Addr.RELAY_STAT, 16, 16⟩
/-- Address of ATTN_MASK (R519). -/
def Addr.ATTN_MASK : Nat := 0x44
/-- R519. -/
def ATTN_MASK.EN : Field := ⟨Addr.ATTN_MASK, 0, 14⟩
/-- Address of NOTE_LAST_ADDR (R523). -/
def Addr.NOTE_LAST_ADDR : Nat := 0x48
/-- R523. -/
def NOTE_LAST_ADDR.A : Field := ⟨Addr.NOTE_LAST_ADDR, 0, 32⟩
/-- Address of NOTE_LAST_INFO (R523). -/
def Addr.NOTE_LAST_INFO : Nat := 0x4C
/-- R523. -/
def NOTE_LAST_INFO.BIT : Field := ⟨Addr.NOTE_LAST_INFO, 0, 5⟩
/-- R523. -/
def NOTE_LAST_INFO.KIND : Field := ⟨Addr.NOTE_LAST_INFO, 5, 3⟩
/-- R523. -/
def NOTE_LAST_INFO.HALF : Field := ⟨Addr.NOTE_LAST_INFO, 8, 1⟩
/-- R523. -/
def NOTE_LAST_INFO.FATE : Field := ⟨Addr.NOTE_LAST_INFO, 9, 2⟩
/-- R523. -/
def NOTE_LAST_INFO.COUNT : Field := ⟨Addr.NOTE_LAST_INFO, 16, 16⟩
/-- Address of ACC_ERR_ADDR (R524). -/
def Addr.ACC_ERR_ADDR : Nat := 0x50
/-- R524. -/
def ACC_ERR_ADDR.A : Field := ⟨Addr.ACC_ERR_ADDR, 0, 32⟩
/-- Address of ACC_ERR_INFO (R524). -/
def Addr.ACC_ERR_INFO : Nat := 0x54
/-- R524. -/
def ACC_ERR_INFO.STATUS : Field := ⟨Addr.ACC_ERR_INFO, 0, 8⟩
/-- R524. -/
def ACC_ERR_INFO.PATH : Field := ⟨Addr.ACC_ERR_INFO, 8, 2⟩
/-- R524. -/
def ACC_ERR_INFO.WRITE : Field := ⟨Addr.ACC_ERR_INFO, 10, 1⟩
/-- Address of ACC_ERR_CNT (R524). -/
def Addr.ACC_ERR_CNT : Nat := 0x58
/-- R524. -/
def ACC_ERR_CNT.N : Field := ⟨Addr.ACC_ERR_CNT, 0, 32⟩
/-- Address of ATTN_SH (R522). -/
def Addr.ATTN_SH : Nat := 0xB4
/-- R522. -/
def ATTN_SH.E : Field := ⟨Addr.ATTN_SH, 0, 32⟩
/-- Address of ATTN_LANE (R522). -/
def Addr.ATTN_LANE : Nat := 0xB8
/-- R522. -/
def ATTN_LANE.L : Field := ⟨Addr.ATTN_LANE, 0, 32⟩
/-- Address of ATTN_OTHER (R522). -/
def Addr.ATTN_OTHER : Nat := 0xBC
/-- R522. -/
def ATTN_OTHER.GRP : Field := ⟨Addr.ATTN_OTHER, 0, 16⟩
/-- R522. -/
def ATTN_OTHER.HIP : Field := ⟨Addr.ATTN_OTHER, 16, 8⟩
/-- R522. -/
def ATTN_OTHER.TREE : Field := ⟨Addr.ATTN_OTHER, 24, 1⟩
/-- R522. -/
def ATTN_OTHER.GAUGE : Field := ⟨Addr.ATTN_OTHER, 25, 2⟩
/-- R522. -/
def ATTN_OTHER.PURLIN : Field := ⟨Addr.ATTN_OTHER, 27, 2⟩
/-- Address of ATTN_PORT (R522). -/
def Addr.ATTN_PORT (i : Nat) : Nat := 0x60 + 0x4 * i
/-- R522. -/
def ATTN_PORT.P (i : Nat) : Field := ⟨Addr.ATTN_PORT i, 0, 32⟩
/-- Address of ATTN_TCH (R522). -/
def Addr.ATTN_TCH (i : Nat) : Nat := 0xA0 + 0x4 * i
/-- R522. -/
def ATTN_TCH.C (i : Nat) : Field := ⟨Addr.ATTN_TCH i, 0, 32⟩
/-- Address of ATTN_CORE (R522). -/
def Addr.ATTN_CORE (i : Nat) : Nat := 0xAC + 0x4 * i
/-- R522. -/
def ATTN_CORE.K (i : Nat) : Field := ⟨Addr.ATTN_CORE i, 0, 32⟩
/-- Address of TIME_LO (R84). -/
def Addr.TIME_LO : Nat := 0x10000
/-- R84. -/
def TIME_LO.D : Field := ⟨Addr.TIME_LO, 0, 32⟩
/-- Address of TIME_HI (R84). -/
def Addr.TIME_HI : Nat := 0x10004
/-- R84. -/
def TIME_HI.D : Field := ⟨Addr.TIME_HI, 0, 32⟩
/-- Address of EPOCH (R84). -/
def Addr.EPOCH : Nat := 0x10008
/-- R84. -/
def EPOCH.CUR : Field := ⟨Addr.EPOCH, 0, 16⟩
/-- R84. -/
def EPOCH.NEXT : Field := ⟨Addr.EPOCH, 16, 16⟩
/-- Address of COURSE (R84). -/
def Addr.COURSE : Nat := 0x1000C
/-- R84. -/
def COURSE.CUR : Field := ⟨Addr.COURSE, 0, 32⟩
/-- Address of TIME_CFG (R84). -/
def Addr.TIME_CFG : Nat := 0x10010
/-- R84. -/
def TIME_CFG.SOURCE : Field := ⟨Addr.TIME_CFG, 0, 2⟩
/-- R84. -/
def TIME_CFG.HIP_LINK : Field := ⟨Addr.TIME_CFG, 2, 3⟩
/-- R84. -/
def TIME_CFG.FL_DRIVER : Field := ⟨Addr.TIME_CFG, 5, 1⟩
/-- R84. -/
def TIME_CFG.FL_PROFILE : Field := ⟨Addr.TIME_CFG, 6, 1⟩
/-- Address of FL_COMP (R84). -/
def Addr.FL_COMP : Nat := 0x10014
/-- R84. -/
def FL_COMP.FINE : Field := ⟨Addr.FL_COMP, 0, 10⟩
/-- R84. -/
def FL_COMP.COARSE : Field := ⟨Addr.FL_COMP, 10, 12⟩
/-- Address of TRG_DELAY (R84). -/
def Addr.TRG_DELAY : Nat := 0x10018
/-- R84. -/
def TRG_DELAY.TC : Field := ⟨Addr.TRG_DELAY, 0, 12⟩
/-- Address of TIME_LEAD (R84). -/
def Addr.TIME_LEAD : Nat := 0x1001C
/-- R84. -/
def TIME_LEAD.UNITS : Field := ⟨Addr.TIME_LEAD, 0, 16⟩
/-- Address of ALIGN_LO (R84). -/
def Addr.ALIGN_LO : Nat := 0x10020
/-- R84. -/
def ALIGN_LO.A : Field := ⟨Addr.ALIGN_LO, 0, 32⟩
/-- Address of ALIGN_HI (R84). -/
def Addr.ALIGN_HI : Nat := 0x10024
/-- R84. -/
def ALIGN_HI.A : Field := ⟨Addr.ALIGN_HI, 0, 32⟩
/-- Address of HIP_ASYM (R84). -/
def Addr.HIP_ASYM : Nat := 0x10028
/-- R84. -/
def HIP_ASYM.TF : Field := ⟨Addr.HIP_ASYM, 0, 16⟩
/-- Address of ALIGN_TOL (R84). -/
def Addr.ALIGN_TOL : Nat := 0x1002C
/-- R84. -/
def ALIGN_TOL.TF : Field := ⟨Addr.ALIGN_TOL, 0, 10⟩
/-- Address of HIP_DELAY (R84). -/
def Addr.HIP_DELAY : Nat := 0x10030
/-- R84. -/
def HIP_DELAY.TF : Field := ⟨Addr.HIP_DELAY, 0, 32⟩
/-- Address of TIME_STAT (R84). -/
def Addr.TIME_STAT : Nat := 0x10034
/-- R84. -/
def TIME_STAT.PLL_LOCK : Field := ⟨Addr.TIME_STAT, 0, 1⟩
/-- R84. -/
def TIME_STAT.HOLDOVER : Field := ⟨Addr.TIME_STAT, 1, 1⟩
/-- R84. -/
def TIME_STAT.SYN_LOCK : Field := ⟨Addr.TIME_STAT, 2, 1⟩
/-- R84. -/
def TIME_STAT.ALIGNED : Field := ⟨Addr.TIME_STAT, 3, 1⟩
/-- R84. -/
def TIME_STAT.SWITCH_PEND : Field := ⟨Addr.TIME_STAT, 4, 1⟩
/-- R84. -/
def TIME_STAT.FL_TRG_ACTIVE : Field := ⟨Addr.TIME_STAT, 5, 1⟩
/-- R84. -/
def TIME_STAT.SYN_HOLD : Field := ⟨Addr.TIME_STAT, 6, 1⟩
/-- Address of TIME_EVT (R84). -/
def Addr.TIME_EVT : Nat := 0x10038
/-- R84. -/
def TIME_EVT.REF_LOSS : Field := ⟨Addr.TIME_EVT, 0, 1⟩
/-- R84. -/
def TIME_EVT.RELOCK : Field := ⟨Addr.TIME_EVT, 1, 1⟩
/-- R84. -/
def TIME_EVT.SYN_LOSS : Field := ⟨Addr.TIME_EVT, 2, 1⟩
/-- R84. -/
def TIME_EVT.JUMP_BACK : Field := ⟨Addr.TIME_EVT, 3, 1⟩
/-- R84. -/
def TIME_EVT.JUMP_FWD : Field := ⟨Addr.TIME_EVT, 4, 1⟩
/-- R84. -/
def TIME_EVT.GLITCH : Field := ⟨Addr.TIME_EVT, 5, 1⟩
/-- R84. -/
def TIME_EVT.ALIGN_DRIFT : Field := ⟨Addr.TIME_EVT, 6, 1⟩
/-- R84. -/
def TIME_EVT.TRG_OVERFLOW : Field := ⟨Addr.TIME_EVT, 7, 1⟩
/-- R84. -/
def TIME_EVT.TRG_LATE : Field := ⟨Addr.TIME_EVT, 8, 1⟩
/-- Address of SYN_ERR (R84). -/
def Addr.SYN_ERR : Nat := 0x1003C
/-- R84. -/
def SYN_ERR.CRC : Field := ⟨Addr.SYN_ERR, 0, 16⟩
/-- R84. -/
def SYN_ERR.GLITCH : Field := ⟨Addr.SYN_ERR, 16, 16⟩
/-- Address of TRG_ERR (R84). -/
def Addr.TRG_ERR : Nat := 0x10040
/-- R84. -/
def TRG_ERR.BAD : Field := ⟨Addr.TRG_ERR, 0, 16⟩
/-- R84. -/
def TRG_ERR.LOST : Field := ⟨Addr.TRG_ERR, 16, 16⟩
/-- Address of CAL_SEC (R84). -/
def Addr.CAL_SEC : Nat := 0x10044
/-- R84. -/
def CAL_SEC.SEC : Field := ⟨Addr.CAL_SEC, 0, 32⟩
/-- Address of CAL_D (R84). -/
def Addr.CAL_D : Nat := 0x10048
/-- R84. -/
def CAL_D.D : Field := ⟨Addr.CAL_D, 0, 32⟩
/-- Address of TCH_CTRL (R110). -/
def Addr.TCH_CTRL (i : Nat) : Nat := 0x20000 + 0x100 * i
/-- R110. -/
def TCH_CTRL.EN (i : Nat) : Field := ⟨Addr.TCH_CTRL i, 0, 1⟩
/-- R110. -/
def TCH_CTRL.EDGE (i : Nat) : Field := ⟨Addr.TCH_CTRL i, 1, 2⟩
/-- R110. -/
def TCH_CTRL.INVERT (i : Nat) : Field := ⟨Addr.TCH_CTRL i, 3, 1⟩
/-- R110. -/
def TCH_CTRL.ARM (i : Nat) : Field := ⟨Addr.TCH_CTRL i, 4, 2⟩
/-- R110. -/
def TCH_CTRL.GATE_SEL (i : Nat) : Field := ⟨Addr.TCH_CTRL i, 6, 4⟩
/-- R110. -/
def TCH_CTRL.GATE_POL (i : Nat) : Field := ⟨Addr.TCH_CTRL i, 10, 1⟩
/-- R110. -/
def TCH_CTRL.PRIM_EN (i : Nat) : Field := ⟨Addr.TCH_CTRL i, 11, 1⟩
/-- R110. -/
def TCH_CTRL.COARSE_FALLBACK (i : Nat) : Field := ⟨Addr.TCH_CTRL i, 12, 1⟩
/-- R110. -/
def TCH_CTRL.EMPTY (i : Nat) : Field := ⟨Addr.TCH_CTRL i, 13, 1⟩
/-- R110. -/
def TCH_CTRL.RATE (i : Nat) : Field := ⟨Addr.TCH_CTRL i, 14, 2⟩
/-- R110. -/
def TCH_CTRL.CALMODE (i : Nat) : Field := ⟨Addr.TCH_CTRL i, 16, 2⟩
/-- Address of TCH_THR (R110). -/
def Addr.TCH_THR (i : Nat) : Nat := 0x20004 + 0x100 * i
/-- R110. -/
def TCH_THR.THRESH (i : Nat) : Field := ⟨Addr.TCH_THR i, 0, 10⟩
/-- R110. -/
def TCH_THR.HYST (i : Nat) : Field := ⟨Addr.TCH_THR i, 16, 6⟩
/-- Address of TCH_HOLD (R110). -/
def Addr.TCH_HOLD (i : Nat) : Nat := 0x20008 + 0x100 * i
/-- R110. -/
def TCH_HOLD.TC (i : Nat) : Field := ⟨Addr.TCH_HOLD i, 0, 7⟩
/-- Address of TCH_WIN (R110). -/
def Addr.TCH_WIN (i : Nat) : Nat := 0x2000C + 0x100 * i
/-- R110. -/
def TCH_WIN.OFS (i : Nat) : Field := ⟨Addr.TCH_WIN i, 0, 16⟩
/-- R110. -/
def TCH_WIN.LEN (i : Nat) : Field := ⟨Addr.TCH_WIN i, 16, 16⟩
/-- Address of TCH_WINCLS (R110). -/
def Addr.TCH_WINCLS (i : Nat) : Nat := 0x20010 + 0x100 * i
/-- R110. -/
def TCH_WINCLS.MASK (i : Nat) : Field := ⟨Addr.TCH_WINCLS i, 0, 16⟩
/-- Address of TCH_ALIGN (R110). -/
def Addr.TCH_ALIGN (i : Nat) : Nat := 0x20014 + 0x100 * i
/-- R110. -/
def TCH_ALIGN.TF (i : Nat) : Field := ⟨Addr.TCH_ALIGN i, 0, 16⟩
/-- Address of TCH_QUEUE (R110). -/
def Addr.TCH_QUEUE (i : Nat) : Nat := 0x20018 + 0x100 * i
/-- R110. -/
def TCH_QUEUE.QBASE (i : Nat) : Field := ⟨Addr.TCH_QUEUE i, 0, 14⟩
/-- R110. -/
def TCH_QUEUE.QCOUNT (i : Nat) : Field := ⟨Addr.TCH_QUEUE i, 16, 4⟩
/-- Address of TCH_NOTE (R110). -/
def Addr.TCH_NOTE (i : Nat) : Nat := 0x2001C + 0x100 * i
/-- R110. -/
def TCH_NOTE.LOSS_NOTE (i : Nat) : Field := ⟨Addr.TCH_NOTE i, 0, 16⟩
/-- Address of TCH_STAT (R110). -/
def Addr.TCH_STAT (i : Nat) : Nat := 0x20020 + 0x100 * i
/-- R110. -/
def TCH_STAT.ACTIVE (i : Nat) : Field := ⟨Addr.TCH_STAT i, 0, 1⟩
/-- R110. -/
def TCH_STAT.ARMED (i : Nat) : Field := ⟨Addr.TCH_STAT i, 1, 1⟩
/-- R110. -/
def TCH_STAT.REFUSING (i : Nat) : Field := ⟨Addr.TCH_STAT i, 2, 1⟩
/-- R110. -/
def TCH_STAT.I0_FAULT (i : Nat) : Field := ⟨Addr.TCH_STAT i, 3, 1⟩
/-- R110. -/
def TCH_STAT.I1_FAULT (i : Nat) : Field := ⟨Addr.TCH_STAT i, 4, 1⟩
/-- R110. -/
def TCH_STAT.COARSE_ONLY (i : Nat) : Field := ⟨Addr.TCH_STAT i, 5, 1⟩
/-- R110. -/
def TCH_STAT.MAINT (i : Nat) : Field := ⟨Addr.TCH_STAT i, 6, 1⟩
/-- R110. -/
def TCH_STAT.LEVEL (i : Nat) : Field := ⟨Addr.TCH_STAT i, 7, 1⟩
/-- Address of TCH_EVT (R110). -/
def Addr.TCH_EVT (i : Nat) : Nat := 0x20024 + 0x100 * i
/-- R110. -/
def TCH_EVT.LOSS (i : Nat) : Field := ⟨Addr.TCH_EVT i, 0, 1⟩
/-- R110. -/
def TCH_EVT.CAL_FAULT (i : Nat) : Field := ⟨Addr.TCH_EVT i, 1, 1⟩
/-- R110. -/
def TCH_EVT.ST_DONE (i : Nat) : Field := ⟨Addr.TCH_EVT i, 2, 1⟩
/-- R110. -/
def TCH_EVT.RECAL_DONE (i : Nat) : Field := ⟨Addr.TCH_EVT i, 3, 1⟩
/-- Address of TCH_SKEW (R110). -/
def Addr.TCH_SKEW (i : Nat) : Nat := 0x20028 + 0x100 * i
/-- R110. -/
def TCH_SKEW.TF (i : Nat) : Field := ⟨Addr.TCH_SKEW i, 0, 16⟩
/-- R110. -/
def TCH_SKEW.CMP_OFS (i : Nat) : Field := ⟨Addr.TCH_SKEW i, 16, 16⟩
/-- Address of TCH_CAL0 (R110). -/
def Addr.TCH_CAL0 (i : Nat) : Nat := 0x2002C + 0x100 * i
/-- R110. -/
def TCH_CAL0.GAIN (i : Nat) : Field := ⟨Addr.TCH_CAL0 i, 0, 12⟩
/-- R110. -/
def TCH_CAL0.OFFSET (i : Nat) : Field := ⟨Addr.TCH_CAL0 i, 16, 12⟩
/-- Address of TCH_CAL1 (R110). -/
def Addr.TCH_CAL1 (i : Nat) : Nat := 0x20030 + 0x100 * i
/-- R110. -/
def TCH_CAL1.GAIN (i : Nat) : Field := ⟨Addr.TCH_CAL1 i, 0, 12⟩
/-- R110. -/
def TCH_CAL1.OFFSET (i : Nat) : Field := ⟨Addr.TCH_CAL1 i, 16, 12⟩
/-- Address of EDGES (R110). -/
def Addr.EDGES (i : Nat) : Nat := 0x20034 + 0x100 * i
/-- R110. -/
def EDGES.N (i : Nat) : Field := ⟨Addr.EDGES i, 0, 32⟩
/-- Address of LOST_FULL (R110). -/
def Addr.LOST_FULL (i : Nat) : Nat := 0x20038 + 0x100 * i
/-- R110. -/
def LOST_FULL.N (i : Nat) : Field := ⟨Addr.LOST_FULL i, 0, 32⟩
/-- Address of LOST_CLOSE (R110). -/
def Addr.LOST_CLOSE (i : Nat) : Nat := 0x2003C + 0x100 * i
/-- R110. -/
def LOST_CLOSE.N (i : Nat) : Field := ⟨Addr.LOST_CLOSE i, 0, 32⟩
/-- Address of LOST_OOS (R110). -/
def Addr.LOST_OOS (i : Nat) : Nat := 0x20040 + 0x100 * i
/-- R110. -/
def LOST_OOS.N (i : Nat) : Field := ⟨Addr.LOST_OOS i, 0, 32⟩
/-- Address of HOLDOFF_CNT (R110). -/
def Addr.HOLDOFF_CNT (i : Nat) : Nat := 0x20044 + 0x100 * i
/-- R110. -/
def HOLDOFF_CNT.N (i : Nat) : Field := ⟨Addr.HOLDOFF_CNT i, 0, 32⟩
/-- Address of DISARMED_CNT (R110). -/
def Addr.DISARMED_CNT (i : Nat) : Nat := 0x20048 + 0x100 * i
/-- R110. -/
def DISARMED_CNT.N (i : Nat) : Field := ⟨Addr.DISARMED_CNT i, 0, 32⟩
/-- Address of ST_CTRL (R110). -/
def Addr.ST_CTRL (i : Nat) : Nat := 0x2004C + 0x100 * i
/-- R110. -/
def ST_CTRL.START (i : Nat) : Field := ⟨Addr.ST_CTRL i, 0, 1⟩
/-- R110. -/
def ST_CTRL.ABORT (i : Nat) : Field := ⟨Addr.ST_CTRL i, 1, 1⟩
/-- R110. -/
def ST_CTRL.K (i : Nat) : Field := ⟨Addr.ST_CTRL i, 4, 7⟩
/-- R110. -/
def ST_CTRL.LOG2N (i : Nat) : Field := ⟨Addr.ST_CTRL i, 12, 4⟩
/-- Address of ST_MEAN (R110). -/
def Addr.ST_MEAN (i : Nat) : Nat := 0x20050 + 0x100 * i
/-- R110. -/
def ST_MEAN.V (i : Nat) : Field := ⟨Addr.ST_MEAN i, 0, 32⟩
/-- Address of ST_RMS (R110). -/
def Addr.ST_RMS (i : Nat) : Nat := 0x20054 + 0x100 * i
/-- R110. -/
def ST_RMS.V (i : Nat) : Field := ⟨Addr.ST_RMS i, 0, 32⟩
/-- Address of ST_STAT (R110). -/
def Addr.ST_STAT (i : Nat) : Nat := 0x20058 + 0x100 * i
/-- R110. -/
def ST_STAT.BUSY (i : Nat) : Field := ⟨Addr.ST_STAT i, 0, 1⟩
/-- R110. -/
def ST_STAT.PASS (i : Nat) : Field := ⟨Addr.ST_STAT i, 1, 1⟩
/-- R110. -/
def ST_STAT.FAIL (i : Nat) : Field := ⟨Addr.ST_STAT i, 2, 1⟩
/-- R110. -/
def ST_STAT.ABORTED (i : Nat) : Field := ⟨Addr.ST_STAT i, 3, 1⟩
/-- R110. -/
def ST_STAT.PAIRS (i : Nat) : Field := ⟨Addr.ST_STAT i, 16, 16⟩
/-- Address of TGATE_CFG (R111). -/
def Addr.TGATE_CFG (i : Nat) : Nat := 0x26000 + 0x4 * i
/-- R111. -/
def TGATE_CFG.DLY (i : Nat) : Field := ⟨Addr.TGATE_CFG i, 0, 6⟩
/-- Address of TGATE_LVL (R111). -/
def Addr.TGATE_LVL : Nat := 0x26030
/-- R111. -/
def TGATE_LVL.LVL : Field := ⟨Addr.TGATE_LVL, 0, 12⟩
/-- Address of EV_CTRL (R150). -/
def Addr.EV_CTRL (i : Nat) : Nat := 0x100000 + 0x100 * i
/-- R150. -/
def EV_CTRL.EN (i : Nat) : Field := ⟨Addr.EV_CTRL i, 0, 1⟩
/-- R150. -/
def EV_CTRL.PRESENT (i : Nat) : Field := ⟨Addr.EV_CTRL i, 1, 1⟩
/-- R150. -/
def EV_CTRL.GEN (i : Nat) : Field := ⟨Addr.EV_CTRL i, 2, 2⟩
/-- R150. -/
def EV_CTRL.PWRDN (i : Nat) : Field := ⟨Addr.EV_CTRL i, 4, 1⟩
/-- R150. -/
def EV_CTRL.AUTO_SWAP (i : Nat) : Field := ⟨Addr.EV_CTRL i, 5, 1⟩
/-- R150. -/
def EV_CTRL.TRG_FWD (i : Nat) : Field := ⟨Addr.EV_CTRL i, 6, 1⟩
/-- Address of EV_EQ_LO (R150). -/
def Addr.EV_EQ_LO (i : Nat) : Nat := 0x100004 + 0x100 * i
/-- R150. -/
def EV_EQ_LO.E (i : Nat) : Field := ⟨Addr.EV_EQ_LO i, 0, 32⟩
/-- Address of EV_EQ_HI (R150). -/
def Addr.EV_EQ_HI (i : Nat) : Nat := 0x100008 + 0x100 * i
/-- R150. -/
def EV_EQ_HI.E (i : Nat) : Field := ⟨Addr.EV_EQ_HI i, 0, 32⟩
/-- Address of EV_FIFO (R150). -/
def Addr.EV_FIFO (i : Nat) : Nat := 0x10000C + 0x100 * i
/-- R150. -/
def EV_FIFO.HIGH (i : Nat) : Field := ⟨Addr.EV_FIFO i, 0, 10⟩
/-- R150. -/
def EV_FIFO.LOW (i : Nat) : Field := ⟨Addr.EV_FIFO i, 16, 10⟩
/-- Address of EV_QUEUE (R150). -/
def Addr.EV_QUEUE (i : Nat) : Nat := 0x100010 + 0x100 * i
/-- R150. -/
def EV_QUEUE.QBASE (i : Nat) : Field := ⟨Addr.EV_QUEUE i, 0, 14⟩
/-- R150. -/
def EV_QUEUE.QCOUNT (i : Nat) : Field := ⟨Addr.EV_QUEUE i, 16, 5⟩
/-- Address of EV_TRG (R150). -/
def Addr.EV_TRG (i : Nat) : Nat := 0x100014 + 0x100 * i
/-- R150. -/
def EV_TRG.MASK (i : Nat) : Field := ⟨Addr.EV_TRG i, 0, 16⟩
/-- R150. -/
def EV_TRG.DLY (i : Nat) : Field := ⟨Addr.EV_TRG i, 16, 16⟩
/-- Address of EV_CLOSE (R150). -/
def Addr.EV_CLOSE (i : Nat) : Nat := 0x100018 + 0x100 * i
/-- R150. -/
def EV_CLOSE.TMO (i : Nat) : Field := ⟨Addr.EV_CLOSE i, 0, 16⟩
/-- Address of EV_RLY (R150). -/
def Addr.EV_RLY (i : Nat) : Nat := 0x10001C + 0x100 * i
/-- R150. -/
def EV_RLY.TMO (i : Nat) : Field := ⟨Addr.EV_RLY i, 0, 16⟩
/-- R150. -/
def EV_RLY.MAXOUT (i : Nat) : Field := ⟨Addr.EV_RLY i, 16, 3⟩
/-- Address of EV_TIME (R150). -/
def Addr.EV_TIME (i : Nat) : Nat := 0x100020 + 0x100 * i
/-- R150. -/
def EV_TIME.TOFS (i : Nat) : Field := ⟨Addr.EV_TIME i, 0, 16⟩
/-- Address of EV_STAT (R150). -/
def Addr.EV_STAT (i : Nat) : Nat := 0x100024 + 0x100 * i
/-- R150. -/
def EV_STAT.STATE (i : Nat) : Field := ⟨Addr.EV_STAT i, 0, 4⟩
/-- R150. -/
def EV_STAT.UL_INV (i : Nat) : Field := ⟨Addr.EV_STAT i, 4, 1⟩
/-- R150. -/
def EV_STAT.DL_INV (i : Nat) : Field := ⟨Addr.EV_STAT i, 5, 1⟩
/-- R150. -/
def EV_STAT.SWAPPED (i : Nat) : Field := ⟨Addr.EV_STAT i, 6, 1⟩
/-- R150. -/
def EV_STAT.HOLDING (i : Nat) : Field := ⟨Addr.EV_STAT i, 7, 1⟩
/-- R150. -/
def EV_STAT.ADMIT_PEND (i : Nat) : Field := ⟨Addr.EV_STAT i, 8, 1⟩
/-- R150. -/
def EV_STAT.OUTSTANDING (i : Nat) : Field := ⟨Addr.EV_STAT i, 9, 3⟩
/-- Address of EV_EVT (R150). -/
def Addr.EV_EVT (i : Nat) : Nat := 0x100028 + 0x100 * i
/-- R150. -/
def EV_EVT.RETRAIN (i : Nat) : Field := ⟨Addr.EV_EVT i, 0, 1⟩
/-- R150. -/
def EV_EVT.POL (i : Nat) : Field := ⟨Addr.EV_EVT i, 1, 1⟩
/-- R150. -/
def EV_EVT.SWAP (i : Nat) : Field := ⟨Addr.EV_EVT i, 2, 1⟩
/-- R150. -/
def EV_EVT.LOSS (i : Nat) : Field := ⟨Addr.EV_EVT i, 3, 1⟩
/-- R150. -/
def EV_EVT.TRG_DROP (i : Nat) : Field := ⟨Addr.EV_EVT i, 4, 1⟩
/-- R150. -/
def EV_EVT.FE_STATUS (i : Nat) : Field := ⟨Addr.EV_EVT i, 5, 1⟩
/-- R150. -/
def EV_EVT.FAULT (i : Nat) : Field := ⟨Addr.EV_EVT i, 6, 1⟩
/-- Address of EV_FESTAT (R150). -/
def Addr.EV_FESTAT (i : Nat) : Nat := 0x10002C + 0x100 * i
/-- R150. -/
def EV_FESTAT.S (i : Nat) : Field := ⟨Addr.EV_FESTAT i, 0, 32⟩
/-- Address of EV_FEID (R150). -/
def Addr.EV_FEID (i : Nat) : Nat := 0x100030 + 0x100 * i
/-- R150. -/
def EV_FEID.ID (i : Nat) : Field := ⟨Addr.EV_FEID i, 0, 32⟩
/-- Address of EV_FRAMES (R150). -/
def Addr.EV_FRAMES (i : Nat) : Nat := 0x100034 + 0x100 * i
/-- R150. -/
def EV_FRAMES.N (i : Nat) : Field := ⟨Addr.EV_FRAMES i, 0, 32⟩
/-- Address of EV_LOST_FULL (R150). -/
def Addr.EV_LOST_FULL (i : Nat) : Nat := 0x100038 + 0x100 * i
/-- R150. -/
def EV_LOST_FULL.N (i : Nat) : Field := ⟨Addr.EV_LOST_FULL i, 0, 32⟩
/-- Address of EV_LOST_OOS (R150). -/
def Addr.EV_LOST_OOS (i : Nat) : Nat := 0x10003C + 0x100 * i
/-- R150. -/
def EV_LOST_OOS.N (i : Nat) : Field := ⟨Addr.EV_LOST_OOS i, 0, 32⟩
/-- Address of EV_BADFRM (R150). -/
def Addr.EV_BADFRM (i : Nat) : Nat := 0x100040 + 0x100 * i
/-- R150. -/
def EV_BADFRM.N (i : Nat) : Field := ⟨Addr.EV_BADFRM i, 0, 32⟩
/-- Address of EV_SEQGAP (R150). -/
def Addr.EV_SEQGAP (i : Nat) : Nat := 0x100044 + 0x100 * i
/-- R150. -/
def EV_SEQGAP.N (i : Nat) : Field := ⟨Addr.EV_SEQGAP i, 0, 32⟩
/-- Address of EV_CODE_ERR (R150). -/
def Addr.EV_CODE_ERR (i : Nat) : Nat := 0x100048 + 0x100 * i
/-- R150. -/
def EV_CODE_ERR.N (i : Nat) : Field := ⟨Addr.EV_CODE_ERR i, 0, 32⟩
/-- Address of EV_FEC_CORR (R150). -/
def Addr.EV_FEC_CORR (i : Nat) : Nat := 0x10004C + 0x100 * i
/-- R150. -/
def EV_FEC_CORR.N (i : Nat) : Field := ⟨Addr.EV_FEC_CORR i, 0, 32⟩
/-- Address of EV_FEC_UNCORR (R150). -/
def Addr.EV_FEC_UNCORR (i : Nat) : Nat := 0x100050 + 0x100 * i
/-- R150. -/
def EV_FEC_UNCORR.N (i : Nat) : Field := ⟨Addr.EV_FEC_UNCORR i, 0, 32⟩
/-- Address of EV_LATE (R150). -/
def Addr.EV_LATE (i : Nat) : Nat := 0x100054 + 0x100 * i
/-- R150. -/
def EV_LATE.N (i : Nat) : Field := ⟨Addr.EV_LATE i, 0, 32⟩
/-- Address of EV_HOLDS (R150). -/
def Addr.EV_HOLDS (i : Nat) : Nat := 0x100058 + 0x100 * i
/-- R150. -/
def EV_HOLDS.N (i : Nat) : Field := ⟨Addr.EV_HOLDS i, 0, 32⟩
/-- Address of EV_HOLD_TIME (R150). -/
def Addr.EV_HOLD_TIME (i : Nat) : Nat := 0x10005C + 0x100 * i
/-- R150. -/
def EV_HOLD_TIME.N (i : Nat) : Field := ⟨Addr.EV_HOLD_TIME i, 0, 32⟩
/-- Address of EV_RETRAINS (R150). -/
def Addr.EV_RETRAINS (i : Nat) : Nat := 0x100060 + 0x100 * i
/-- R150. -/
def EV_RETRAINS.N (i : Nat) : Field := ⟨Addr.EV_RETRAINS i, 0, 32⟩
/-- Address of EV_RLY_ORPHAN (R150). -/
def Addr.EV_RLY_ORPHAN (i : Nat) : Nat := 0x100064 + 0x100 * i
/-- R150. -/
def EV_RLY_ORPHAN.N (i : Nat) : Field := ⟨Addr.EV_RLY_ORPHAN i, 0, 32⟩
/-- Address of EV_TRG_DROP (R150). -/
def Addr.EV_TRG_DROP (i : Nat) : Nat := 0x100068 + 0x100 * i
/-- R150. -/
def EV_TRG_DROP.N (i : Nat) : Field := ⟨Addr.EV_TRG_DROP i, 0, 32⟩
/-- Address of EV_PAT_CTRL (R150). -/
def Addr.EV_PAT_CTRL (i : Nat) : Nat := 0x10006C + 0x100 * i
/-- R150. -/
def EV_PAT_CTRL.START (i : Nat) : Field := ⟨Addr.EV_PAT_CTRL i, 0, 1⟩
/-- R150. -/
def EV_PAT_CTRL.STOP (i : Nat) : Field := ⟨Addr.EV_PAT_CTRL i, 1, 1⟩
/-- R150. -/
def EV_PAT_CTRL.INJ_ONE (i : Nat) : Field := ⟨Addr.EV_PAT_CTRL i, 2, 1⟩
/-- R150. -/
def EV_PAT_CTRL.POLY (i : Nat) : Field := ⟨Addr.EV_PAT_CTRL i, 4, 2⟩
/-- R150. -/
def EV_PAT_CTRL.INJ_LOG2 (i : Nat) : Field := ⟨Addr.EV_PAT_CTRL i, 8, 5⟩
/-- Address of EV_PAT_STAT (R150). -/
def Addr.EV_PAT_STAT (i : Nat) : Nat := 0x100070 + 0x100 * i
/-- R150. -/
def EV_PAT_STAT.SYNC (i : Nat) : Field := ⟨Addr.EV_PAT_STAT i, 0, 1⟩
/-- R150. -/
def EV_PAT_STAT.BUSY (i : Nat) : Field := ⟨Addr.EV_PAT_STAT i, 1, 1⟩
/-- Address of EV_PAT_BITS_LO (R150). -/
def Addr.EV_PAT_BITS_LO (i : Nat) : Nat := 0x100074 + 0x100 * i
/-- R150. -/
def EV_PAT_BITS_LO.LO (i : Nat) : Field := ⟨Addr.EV_PAT_BITS_LO i, 0, 32⟩
/-- Address of EV_PAT_BITS_HI (R150). -/
def Addr.EV_PAT_BITS_HI (i : Nat) : Nat := 0x100078 + 0x100 * i
/-- R150. -/
def EV_PAT_BITS_HI.HI (i : Nat) : Field := ⟨Addr.EV_PAT_BITS_HI i, 0, 16⟩
/-- Address of EV_PAT_ERR (R150). -/
def Addr.EV_PAT_ERR (i : Nat) : Nat := 0x10007C + 0x100 * i
/-- R150. -/
def EV_PAT_ERR.N (i : Nat) : Field := ⟨Addr.EV_PAT_ERR i, 0, 32⟩
/-- Address of RD_CTRL (R191). -/
def Addr.RD_CTRL (i : Nat) : Nat := 0x100080 + 0x100 * i
/-- R191. -/
def RD_CTRL.MODE (i : Nat) : Field := ⟨Addr.RD_CTRL i, 0, 2⟩
/-- R191. -/
def RD_CTRL.PR_EN (i : Nat) : Field := ⟨Addr.RD_CTRL i, 2, 1⟩
/-- R191. -/
def RD_CTRL.KIND (i : Nat) : Field := ⟨Addr.RD_CTRL i, 3, 1⟩
/-- R191. -/
def RD_CTRL.GROUP (i : Nat) : Field := ⟨Addr.RD_CTRL i, 4, 4⟩
/-- R191. -/
def RD_CTRL.QROT (i : Nat) : Field := ⟨Addr.RD_CTRL i, 8, 5⟩
/-- R191. -/
def RD_CTRL.KEY (i : Nat) : Field := ⟨Addr.RD_CTRL i, 16, 8⟩
/-- Address of RD_DB (R191). -/
def Addr.RD_DB (i : Nat) : Nat := 0x100084 + 0x100 * i
/-- R191. -/
def RD_DB.DB (i : Nat) : Field := ⟨Addr.RD_DB i, 0, 16⟩
/-- R191. -/
def RD_DB.BASE (i : Nat) : Field := ⟨Addr.RD_DB i, 16, 16⟩
/-- Address of RD_PR (R191). -/
def Addr.RD_PR (i : Nat) : Nat := 0x100088 + 0x100 * i
/-- R191. -/
def RD_PR.THR (i : Nat) : Field := ⟨Addr.RD_PR i, 0, 16⟩
/-- R191. -/
def RD_PR.PGRP (i : Nat) : Field := ⟨Addr.RD_PR i, 16, 6⟩
/-- Address of RD_STORED (R191). -/
def Addr.RD_STORED (i : Nat) : Nat := 0x100090 + 0x100 * i
/-- R191. -/
def RD_STORED.N (i : Nat) : Field := ⟨Addr.RD_STORED i, 0, 32⟩
/-- Address of RD_FULL (R191). -/
def Addr.RD_FULL (i : Nat) : Nat := 0x100094 + 0x100 * i
/-- R191. -/
def RD_FULL.N (i : Nat) : Field := ⟨Addr.RD_FULL i, 0, 32⟩
/-- Address of RD_SUPP (R191). -/
def Addr.RD_SUPP (i : Nat) : Nat := 0x100098 + 0x100 * i
/-- R191. -/
def RD_SUPP.N (i : Nat) : Field := ⟨Addr.RD_SUPP i, 0, 32⟩
/-- Address of RD_OFFER (R191). -/
def Addr.RD_OFFER (i : Nat) : Nat := 0x10009C + 0x100 * i
/-- R191. -/
def RD_OFFER.N (i : Nat) : Field := ⟨Addr.RD_OFFER i, 0, 32⟩
/-- Address of RD_LOSTFR (R191). -/
def Addr.RD_LOSTFR (i : Nat) : Nat := 0x1000A0 + 0x100 * i
/-- R191. -/
def RD_LOSTFR.N (i : Nat) : Field := ⟨Addr.RD_LOSTFR i, 0, 32⟩
/-- Address of OCT_STAT (R151). -/
def Addr.OCT_STAT (i : Nat) : Nat := 0x180000 + 0x40 * i
/-- R151. -/
def OCT_STAT.ACTIVE (i : Nat) : Field := ⟨Addr.OCT_STAT i, 0, 8⟩
/-- R151. -/
def OCT_STAT.SWAP (i : Nat) : Field := ⟨Addr.OCT_STAT i, 8, 4⟩
/-- Address of OCT_INTAKE (R151). -/
def Addr.OCT_INTAKE (i : Nat) : Nat := 0x180004 + 0x40 * i
/-- R151. -/
def OCT_INTAKE.N (i : Nat) : Field := ⟨Addr.OCT_INTAKE i, 0, 32⟩
/-- Address of TRG_CTRL (R192). -/
def Addr.TRG_CTRL : Nat := 0x200000
/-- R192. -/
def TRG_CTRL.SRC_EN : Field := ⟨Addr.TRG_CTRL, 0, 5⟩
/-- R192. -/
def TRG_CTRL.PRIMS_COPY : Field := ⟨Addr.TRG_CTRL, 5, 1⟩
/-- R192. -/
def TRG_CTRL.MERGE_TOL : Field := ⟨Addr.TRG_CTRL, 8, 8⟩
/-- R192. -/
def TRG_CTRL.DIR_DLY : Field := ⟨Addr.TRG_CTRL, 16, 16⟩
/-- Address of PR_TIMING (R192). -/
def Addr.PR_TIMING : Nat := 0x200004
/-- R192. -/
def PR_TIMING.HOLD : Field := ⟨Addr.PR_TIMING, 0, 10⟩
/-- R192. -/
def PR_TIMING.BATCH : Field := ⟨Addr.PR_TIMING, 16, 10⟩
/-- Address of TRG_PQ (R192). -/
def Addr.TRG_PQ : Nat := 0x200008
/-- R192. -/
def TRG_PQ.N : Field := ⟨Addr.TRG_PQ, 0, 14⟩
/-- R192. -/
def TRG_PQ.S : Field := ⟨Addr.TRG_PQ, 16, 14⟩
/-- Address of TRG_STAT (R192). -/
def Addr.TRG_STAT : Nat := 0x200014
/-- R192. -/
def TRG_STAT.ROOT : Field := ⟨Addr.TRG_STAT, 0, 1⟩
/-- R192. -/
def TRG_STAT.PARENT : Field := ⟨Addr.TRG_STAT, 1, 1⟩
/-- Address of TRG_EVT (R192). -/
def Addr.TRG_EVT : Nat := 0x200018
/-- R192. -/
def TRG_EVT.PRIM_LATE : Field := ⟨Addr.TRG_EVT, 0, 1⟩
/-- R192. -/
def TRG_EVT.PRIM_LOST : Field := ⟨Addr.TRG_EVT, 1, 1⟩
/-- R192. -/
def TRG_EVT.TRG_LOST : Field := ⟨Addr.TRG_EVT, 2, 1⟩
/-- R192. -/
def TRG_EVT.RING_REFUSE : Field := ⟨Addr.TRG_EVT, 3, 1⟩
/-- R192. -/
def TRG_EVT.DEC_EVICT : Field := ⟨Addr.TRG_EVT, 4, 1⟩
/-- Address of PRIM_SENT (R192). -/
def Addr.PRIM_SENT : Nat := 0x200020
/-- R192. -/
def PRIM_SENT.N : Field := ⟨Addr.PRIM_SENT, 0, 32⟩
/-- Address of PRIM_LATE (R192). -/
def Addr.PRIM_LATE : Nat := 0x200024
/-- R192. -/
def PRIM_LATE.N : Field := ⟨Addr.PRIM_LATE, 0, 32⟩
/-- Address of PRIM_LOST (R192). -/
def Addr.PRIM_LOST : Nat := 0x200028
/-- R192. -/
def PRIM_LOST.N : Field := ⟨Addr.PRIM_LOST, 0, 32⟩
/-- Address of PRIM_SUPP (R192). -/
def Addr.PRIM_SUPP : Nat := 0x20002C
/-- R192. -/
def PRIM_SUPP.N : Field := ⟨Addr.PRIM_SUPP, 0, 32⟩
/-- Address of DEC_FIRED (R192). -/
def Addr.DEC_FIRED : Nat := 0x200030
/-- R192. -/
def DEC_FIRED.N : Field := ⟨Addr.DEC_FIRED, 0, 32⟩
/-- Address of DEC_HELD (R192). -/
def Addr.DEC_HELD : Nat := 0x200034
/-- R192. -/
def DEC_HELD.N : Field := ⟨Addr.DEC_HELD, 0, 32⟩
/-- Address of DEC_PRESC_CNT (R192). -/
def Addr.DEC_PRESC_CNT : Nat := 0x200038
/-- R192. -/
def DEC_PRESC_CNT.N : Field := ⟨Addr.DEC_PRESC_CNT, 0, 32⟩
/-- Address of TRG_ACCEPT (R192). -/
def Addr.TRG_ACCEPT : Nat := 0x20003C
/-- R192. -/
def TRG_ACCEPT.N : Field := ⟨Addr.TRG_ACCEPT, 0, 32⟩
/-- Address of TRG_MERGED (R192). -/
def Addr.TRG_MERGED : Nat := 0x200040
/-- R192. -/
def TRG_MERGED.N : Field := ⟨Addr.TRG_MERGED, 0, 32⟩
/-- Address of TRG_LOST (R192). -/
def Addr.TRG_LOST : Nat := 0x200044
/-- R192. -/
def TRG_LOST.N : Field := ⟨Addr.TRG_LOST, 0, 32⟩
/-- Address of TRG_LATE_CNT (R192). -/
def Addr.TRG_LATE_CNT : Nat := 0x200048
/-- R192. -/
def TRG_LATE_CNT.N : Field := ⟨Addr.TRG_LATE_CNT, 0, 32⟩
/-- Address of AUTO_FIRED (R192). -/
def Addr.AUTO_FIRED : Nat := 0x20004C
/-- R192. -/
def AUTO_FIRED.N : Field := ⟨Addr.AUTO_FIRED, 0, 32⟩
/-- Address of DEC_EVICT (R192). -/
def Addr.DEC_EVICT : Nat := 0x200050
/-- R192. -/
def DEC_EVICT.N : Field := ⟨Addr.DEC_EVICT, 0, 32⟩
/-- Address of TCH_ACQ (R192). -/
def Addr.TCH_ACQ (i : Nat) : Nat := 0x200100 + 0x4 * i
/-- R192. -/
def TCH_ACQ.GROUP (i : Nat) : Field := ⟨Addr.TCH_ACQ i, 0, 4⟩
/-- R192. -/
def TCH_ACQ.PGRP (i : Nat) : Field := ⟨Addr.TCH_ACQ i, 4, 6⟩
/-- Address of PR_GRP (R192). -/
def Addr.PR_GRP (i : Nat) : Nat := 0x200400 + 0x4 * i
/-- R192. -/
def PR_GRP.LABEL (i : Nat) : Field := ⟨Addr.PR_GRP i, 0, 4⟩
/-- R192. -/
def PR_GRP.MINCNT (i : Nat) : Field := ⟨Addr.PR_GRP i, 4, 8⟩
/-- R192. -/
def PR_GRP.MINSUM (i : Nat) : Field := ⟨Addr.PR_GRP i, 12, 20⟩
/-- Address of DEC_COND (R193). -/
def Addr.DEC_COND (i : Nat) : Nat := 0x200600 + 0x20 * i
/-- R193. -/
def DEC_COND.LMASK (i : Nat) : Field := ⟨Addr.DEC_COND i, 0, 16⟩
/-- R193. -/
def DEC_COND.MINCNT (i : Nat) : Field := ⟨Addr.DEC_COND i, 16, 8⟩
/-- Address of DEC_SUM (R193). -/
def Addr.DEC_SUM (i : Nat) : Nat := 0x200604 + 0x20 * i
/-- R193. -/
def DEC_SUM.MINSUM (i : Nat) : Field := ⟨Addr.DEC_SUM i, 0, 20⟩
/-- Address of DEC_WIN (R193). -/
def Addr.DEC_WIN (i : Nat) : Nat := 0x200608 + 0x20 * i
/-- R193. -/
def DEC_WIN.TC (i : Nat) : Field := ⟨Addr.DEC_WIN i, 0, 16⟩
/-- Address of DEC_DELAY (R193). -/
def Addr.DEC_DELAY (i : Nat) : Nat := 0x20060C + 0x20 * i
/-- R193. -/
def DEC_DELAY.TC (i : Nat) : Field := ⟨Addr.DEC_DELAY i, 0, 24⟩
/-- Address of DEC_PRESC (R193). -/
def Addr.DEC_PRESC (i : Nat) : Nat := 0x200610 + 0x20 * i
/-- R193. -/
def DEC_PRESC.N (i : Nat) : Field := ⟨Addr.DEC_PRESC i, 0, 16⟩
/-- Address of DEC_HOLD (R193). -/
def Addr.DEC_HOLD (i : Nat) : Nat := 0x200614 + 0x20 * i
/-- R193. -/
def DEC_HOLD.TC (i : Nat) : Field := ⟨Addr.DEC_HOLD i, 0, 24⟩
/-- Address of TRG_AUTO (R193). -/
def Addr.TRG_AUTO (i : Nat) : Nat := 0x200618 + 0x20 * i
/-- R193. -/
def TRG_AUTO.TMO (i : Nat) : Field := ⟨Addr.TRG_AUTO i, 0, 16⟩
/-- Address of ACQ_CTRL (R193). -/
def Addr.ACQ_CTRL (i : Nat) : Nat := 0x200800 + 0x40 * i
/-- R193. -/
def ACQ_CTRL.MODE (i : Nat) : Field := ⟨Addr.ACQ_CTRL i, 0, 1⟩
/-- R193. -/
def ACQ_CTRL.CLSMASK (i : Nat) : Field := ⟨Addr.ACQ_CTRL i, 16, 16⟩
/-- Address of ACQ_PRE (R193). -/
def Addr.ACQ_PRE (i : Nat) : Nat := 0x200804 + 0x40 * i
/-- R193. -/
def ACQ_PRE.U (i : Nat) : Field := ⟨Addr.ACQ_PRE i, 0, 16⟩
/-- Address of ACQ_POST (R193). -/
def Addr.ACQ_POST (i : Nat) : Nat := 0x200808 + 0x40 * i
/-- R193. -/
def ACQ_POST.U (i : Nat) : Field := ⟨Addr.ACQ_POST i, 0, 16⟩
/-- Address of ACQ_RING_N (R193). -/
def Addr.ACQ_RING_N (i : Nat) : Nat := 0x20080C + 0x40 * i
/-- R193. -/
def ACQ_RING_N.BASE (i : Nat) : Field := ⟨Addr.ACQ_RING_N i, 0, 15⟩
/-- R193. -/
def ACQ_RING_N.LEN (i : Nat) : Field := ⟨Addr.ACQ_RING_N i, 16, 16⟩
/-- Address of ACQ_RING_S (R193). -/
def Addr.ACQ_RING_S (i : Nat) : Nat := 0x200810 + 0x40 * i
/-- R193. -/
def ACQ_RING_S.BASE (i : Nat) : Field := ⟨Addr.ACQ_RING_S i, 0, 15⟩
/-- R193. -/
def ACQ_RING_S.LEN (i : Nat) : Field := ⟨Addr.ACQ_RING_S i, 16, 16⟩
/-- Address of ACQ_MQ (R193). -/
def Addr.ACQ_MQ (i : Nat) : Nat := 0x200814 + 0x40 * i
/-- R193. -/
def ACQ_MQ.N (i : Nat) : Field := ⟨Addr.ACQ_MQ i, 0, 14⟩
/-- R193. -/
def ACQ_MQ.S (i : Nat) : Field := ⟨Addr.ACQ_MQ i, 16, 14⟩
/-- Address of ACQ_STAT (R193). -/
def Addr.ACQ_STAT (i : Nat) : Nat := 0x200818 + 0x40 * i
/-- R193. -/
def ACQ_STAT.OPEN_N (i : Nat) : Field := ⟨Addr.ACQ_STAT i, 0, 1⟩
/-- R193. -/
def ACQ_STAT.OPEN_S (i : Nat) : Field := ⟨Addr.ACQ_STAT i, 1, 1⟩
/-- R193. -/
def ACQ_STAT.REFUSING (i : Nat) : Field := ⟨Addr.ACQ_STAT i, 2, 1⟩
/-- Address of ACQ_RECLAIM (R193). -/
def Addr.ACQ_RECLAIM (i : Nat) : Nat := 0x20081C + 0x40 * i
/-- R193. -/
def ACQ_RECLAIM.N (i : Nat) : Field := ⟨Addr.ACQ_RECLAIM i, 0, 32⟩
/-- Address of TH_WEIGHT_N (R239). -/
def Addr.TH_WEIGHT_N (i : Nat) : Nat := 0x300000 + 0x4 * i
/-- R239. -/
def TH_WEIGHT_N.W (i : Nat) : Field := ⟨Addr.TH_WEIGHT_N i, 0, 10⟩
/-- Address of TH_WEIGHT_S (R239). -/
def Addr.TH_WEIGHT_S (i : Nat) : Nat := 0x300030 + 0x4 * i
/-- R239. -/
def TH_WEIGHT_S.W (i : Nat) : Field := ⟨Addr.TH_WEIGHT_S i, 0, 10⟩
/-- Address of TH_STARVE_LIMIT (R239). -/
def Addr.TH_STARVE_LIMIT : Nat := 0x300060
/-- R239. -/
def TH_STARVE_LIMIT.CYC : Field := ⟨Addr.TH_STARVE_LIMIT, 0, 16⟩
/-- Address of TH_STARVE_N (R239). -/
def Addr.TH_STARVE_N : Nat := 0x300064
/-- R239. -/
def TH_STARVE_N.CLS : Field := ⟨Addr.TH_STARVE_N, 0, 12⟩
/-- Address of TH_STARVE_S (R239). -/
def Addr.TH_STARVE_S : Nat := 0x300068
/-- R239. -/
def TH_STARVE_S.CLS : Field := ⟨Addr.TH_STARVE_S, 0, 12⟩
/-- Address of TH_STARVE_LAST (R239). -/
def Addr.TH_STARVE_LAST : Nat := 0x30006C
/-- R239. -/
def TH_STARVE_LAST.BANK : Field := ⟨Addr.TH_STARVE_LAST, 0, 9⟩
/-- R239. -/
def TH_STARVE_LAST.CLASS : Field := ⟨Addr.TH_STARVE_LAST, 12, 4⟩
/-- Address of TH_WFIFO (R239). -/
def Addr.TH_WFIFO : Nat := 0x300070
/-- R239. -/
def TH_WFIFO.OCT_HIGH : Field := ⟨Addr.TH_WFIFO, 0, 8⟩
/-- R239. -/
def TH_WFIFO.TIM_HIGH : Field := ⟨Addr.TH_WFIFO, 16, 8⟩
/-- Address of TH_SCRUB_START (R239). -/
def Addr.TH_SCRUB_START : Nat := 0x300080
/-- R239. -/
def TH_SCRUB_START.A : Field := ⟨Addr.TH_SCRUB_START, 0, 23⟩
/-- Address of TH_SCRUB_END (R239). -/
def Addr.TH_SCRUB_END : Nat := 0x300084
/-- R239. -/
def TH_SCRUB_END.A : Field := ⟨Addr.TH_SCRUB_END, 0, 23⟩
/-- Address of TH_SCRUB_CTRL (R239). -/
def Addr.TH_SCRUB_CTRL : Nat := 0x300088
/-- R239. -/
def TH_SCRUB_CTRL.START : Field := ⟨Addr.TH_SCRUB_CTRL, 0, 1⟩
/-- R239. -/
def TH_SCRUB_CTRL.ABORT : Field := ⟨Addr.TH_SCRUB_CTRL, 1, 1⟩
/-- Address of TH_SCRUB_STAT (R239). -/
def Addr.TH_SCRUB_STAT : Nat := 0x30008C
/-- R239. -/
def TH_SCRUB_STAT.BUSY : Field := ⟨Addr.TH_SCRUB_STAT, 0, 1⟩
/-- R239. -/
def TH_SCRUB_STAT.DONE : Field := ⟨Addr.TH_SCRUB_STAT, 1, 1⟩
/-- R239. -/
def TH_SCRUB_STAT.ABORTED : Field := ⟨Addr.TH_SCRUB_STAT, 2, 1⟩
/-- R239. -/
def TH_SCRUB_STAT.REFUSED : Field := ⟨Addr.TH_SCRUB_STAT, 3, 1⟩
/-- Address of TH_SCRUB_READ (R239). -/
def Addr.TH_SCRUB_READ : Nat := 0x300090
/-- R239. -/
def TH_SCRUB_READ.N : Field := ⟨Addr.TH_SCRUB_READ, 0, 32⟩
/-- Address of TH_SCRUB_CORR (R239). -/
def Addr.TH_SCRUB_CORR : Nat := 0x300094
/-- R239. -/
def TH_SCRUB_CORR.N : Field := ⟨Addr.TH_SCRUB_CORR, 0, 32⟩
/-- Address of TH_SCRUB_UNCORR (R239). -/
def Addr.TH_SCRUB_UNCORR : Nat := 0x300098
/-- R239. -/
def TH_SCRUB_UNCORR.N : Field := ⟨Addr.TH_SCRUB_UNCORR, 0, 32⟩
/-- Address of TH_SCRUB_UNWR (R239). -/
def Addr.TH_SCRUB_UNWR : Nat := 0x30009C
/-- R239. -/
def TH_SCRUB_UNWR.N : Field := ⟨Addr.TH_SCRUB_UNWR, 0, 32⟩
/-- Address of TH_SCRUB_TIME (R239). -/
def Addr.TH_SCRUB_TIME : Nat := 0x3000A0
/-- R239. -/
def TH_SCRUB_TIME.US : Field := ⟨Addr.TH_SCRUB_TIME, 0, 32⟩
/-- Address of TH_MIG_LIMIT (R239). -/
def Addr.TH_MIG_LIMIT : Nat := 0x3000C0
/-- R239. -/
def TH_MIG_LIMIT.CORR_LIMIT : Field := ⟨Addr.TH_MIG_LIMIT, 0, 16⟩
/-- R239. -/
def TH_MIG_LIMIT.UNCORR_LIMIT : Field := ⟨Addr.TH_MIG_LIMIT, 16, 8⟩
/-- R239. -/
def TH_MIG_LIMIT.AUTO : Field := ⟨Addr.TH_MIG_LIMIT, 24, 1⟩
/-- Address of TH_MIG_STAT (R239). -/
def Addr.TH_MIG_STAT : Nat := 0x3000C4
/-- R239. -/
def TH_MIG_STAT.BANK : Field := ⟨Addr.TH_MIG_STAT, 0, 9⟩
/-- R239. -/
def TH_MIG_STAT.SPARE : Field := ⟨Addr.TH_MIG_STAT, 16, 9⟩
/-- R239. -/
def TH_MIG_STAT.BUSY : Field := ⟨Addr.TH_MIG_STAT, 31, 1⟩
/-- Address of TH_MIG_PROG (R239). -/
def Addr.TH_MIG_PROG : Nat := 0x3000C8
/-- R239. -/
def TH_MIG_PROG.C : Field := ⟨Addr.TH_MIG_PROG, 0, 17⟩
/-- Address of TH_MIG_CTRL (R239). -/
def Addr.TH_MIG_CTRL : Nat := 0x3000CC
/-- R239. -/
def TH_MIG_CTRL.BANK : Field := ⟨Addr.TH_MIG_CTRL, 0, 9⟩
/-- R239. -/
def TH_MIG_CTRL.START : Field := ⟨Addr.TH_MIG_CTRL, 31, 1⟩
/-- Address of TH_EVT (R239). -/
def Addr.TH_EVT : Nat := 0x3000F0
/-- R239. -/
def TH_EVT.STARVE : Field := ⟨Addr.TH_EVT, 0, 1⟩
/-- R239. -/
def TH_EVT.MIG_DUE : Field := ⟨Addr.TH_EVT, 1, 1⟩
/-- R239. -/
def TH_EVT.MIG_DONE : Field := ⟨Addr.TH_EVT, 2, 1⟩
/-- R239. -/
def TH_EVT.SPARES_OUT : Field := ⟨Addr.TH_EVT, 3, 1⟩
/-- R239. -/
def TH_EVT.UNCORR : Field := ⟨Addr.TH_EVT, 4, 1⟩
/-- R239. -/
def TH_EVT.FIFO_UNCORR : Field := ⟨Addr.TH_EVT, 5, 1⟩
/-- R239. -/
def TH_EVT.SCRUB_DONE : Field := ⟨Addr.TH_EVT, 6, 1⟩
/-- Address of TH_FIFO_CORR (R239). -/
def Addr.TH_FIFO_CORR : Nat := 0x3000F4
/-- R239. -/
def TH_FIFO_CORR.N : Field := ⟨Addr.TH_FIFO_CORR, 0, 32⟩
/-- Address of TH_FIFO_UNCORR (R239). -/
def Addr.TH_FIFO_UNCORR : Nat := 0x3000F8
/-- R239. -/
def TH_FIFO_UNCORR.N : Field := ⟨Addr.TH_FIFO_UNCORR, 0, 32⟩
/-- Address of TH_REGION_WAIT (R239). -/
def Addr.TH_REGION_WAIT : Nat := 0x3000FC
/-- R239. -/
def TH_REGION_WAIT.N : Field := ⟨Addr.TH_REGION_WAIT, 0, 16⟩
/-- R239. -/
def TH_REGION_WAIT.S : Field := ⟨Addr.TH_REGION_WAIT, 16, 16⟩
/-- Address of TH_REMAP (R239). -/
def Addr.TH_REMAP (i : Nat) : Nat := 0x3000D0 + 0x4 * i
/-- R239. -/
def TH_REMAP.BANK (i : Nat) : Field := ⟨Addr.TH_REMAP i, 0, 9⟩
/-- R239. -/
def TH_REMAP.USED (i : Nat) : Field := ⟨Addr.TH_REMAP i, 31, 1⟩
/-- Address of TH_BANK_ERR (R239). -/
def Addr.TH_BANK_ERR (i : Nat) : Nat := 0x301000 + 0x4 * i
/-- R239. -/
def TH_BANK_ERR.CORR (i : Nat) : Field := ⟨Addr.TH_BANK_ERR i, 0, 16⟩
/-- R239. -/
def TH_BANK_ERR.UNCORR (i : Nat) : Field := ⟨Addr.TH_BANK_ERR i, 16, 8⟩
/-- Address of TH_REGION (R239). -/
def Addr.TH_REGION (i : Nat) : Nat := 0x302000 + 0x8 * i
/-- R239. -/
def TH_REGION.BASE (i : Nat) : Field := ⟨Addr.TH_REGION i, 0, 15⟩
/-- R239. -/
def TH_REGION.RETAIN (i : Nat) : Field := ⟨Addr.TH_REGION i, 15, 1⟩
/-- Address of TH_REGION_LEN (R239). -/
def Addr.TH_REGION_LEN (i : Nat) : Nat := 0x302004 + 0x8 * i
/-- R239. -/
def TH_REGION_LEN.LEN (i : Nat) : Field := ⟨Addr.TH_REGION_LEN i, 0, 16⟩
/-- Address of TH_REGION_STAT (R239). -/
def Addr.TH_REGION_STAT (i : Nat) : Nat := 0x304000 + 0x4 * i
/-- R239. -/
def TH_REGION_STAT.FREE (i : Nat) : Field := ⟨Addr.TH_REGION_STAT i, 0, 16⟩
/-- R239. -/
def TH_REGION_STAT.WAITING (i : Nat) : Field := ⟨Addr.TH_REGION_STAT i, 16, 1⟩
/-- R239. -/
def TH_REGION_STAT.WP (i : Nat) : Field := ⟨Addr.TH_REGION_STAT i, 17, 15⟩
/-- Address of PD_CTRL (R271). -/
def Addr.PD_CTRL (i : Nat) : Nat := 0x400000 + 0x800 * i
/-- R271. -/
def PD_CTRL.OBS (i : Nat) : Field := ⟨Addr.PD_CTRL i, 0, 1⟩
/-- Address of PD_LEND (R271). -/
def Addr.PD_LEND (i : Nat) : Nat := 0x400004 + 0x800 * i
/-- R271. -/
def PD_LEND.EN (i : Nat) : Field := ⟨Addr.PD_LEND i, 0, 1⟩
/-- R271. -/
def PD_LEND.WAIT (i : Nat) : Field := ⟨Addr.PD_LEND i, 4, 8⟩
/-- R271. -/
def PD_LEND.MAX (i : Nat) : Field := ⟨Addr.PD_LEND i, 16, 6⟩
/-- Address of PD_DRAIN (R271). -/
def Addr.PD_DRAIN (i : Nat) : Nat := 0x400008 + 0x800 * i
/-- R271. -/
def PD_DRAIN.TMO (i : Nat) : Field := ⟨Addr.PD_DRAIN i, 0, 16⟩
/-- Address of PD_TRACE_RING (R271). -/
def Addr.PD_TRACE_RING (i : Nat) : Nat := 0x40000C + 0x800 * i
/-- R271. -/
def PD_TRACE_RING.BASE (i : Nat) : Field := ⟨Addr.PD_TRACE_RING i, 0, 15⟩
/-- R271. -/
def PD_TRACE_RING.LEN (i : Nat) : Field := ⟨Addr.PD_TRACE_RING i, 16, 16⟩
/-- Address of PD_EVT (R271). -/
def Addr.PD_EVT (i : Nat) : Nat := 0x400010 + 0x800 * i
/-- R271. -/
def PD_EVT.LIMIT (i : Nat) : Field := ⟨Addr.PD_EVT i, 0, 1⟩
/-- R271. -/
def PD_EVT.TIMEOUT (i : Nat) : Field := ⟨Addr.PD_EVT i, 1, 1⟩
/-- R271. -/
def PD_EVT.DROP (i : Nat) : Field := ⟨Addr.PD_EVT i, 2, 1⟩
/-- R271. -/
def PD_EVT.ABANDON (i : Nat) : Field := ⟨Addr.PD_EVT i, 3, 1⟩
/-- R271. -/
def PD_EVT.TRACE_LOST (i : Nat) : Field := ⟨Addr.PD_EVT i, 4, 1⟩
/-- R271. -/
def PD_EVT.BADPUSH (i : Nat) : Field := ⟨Addr.PD_EVT i, 5, 1⟩
/-- Address of PD_STATUS (R271). -/
def Addr.PD_STATUS (i : Nat) : Nat := 0x400014 + 0x800 * i
/-- R271. -/
def PD_STATUS.IDLE (i : Nat) : Field := ⟨Addr.PD_STATUS i, 0, 6⟩
/-- R271. -/
def PD_STATUS.LENT_OUT (i : Nat) : Field := ⟨Addr.PD_STATUS i, 8, 6⟩
/-- R271. -/
def PD_STATUS.LENT_IN (i : Nat) : Field := ⟨Addr.PD_STATUS i, 16, 6⟩
/-- Address of PD_FLAG_SET (R271). -/
def Addr.PD_FLAG_SET (i : Nat) : Nat := 0x400018 + 0x800 * i
/-- R271. -/
def PD_FLAG_SET.F (i : Nat) : Field := ⟨Addr.PD_FLAG_SET i, 0, 8⟩
/-- Address of PD_DISPATCHED (R271). -/
def Addr.PD_DISPATCHED (i : Nat) : Nat := 0x400020 + 0x800 * i
/-- R271. -/
def PD_DISPATCHED.N (i : Nat) : Field := ⟨Addr.PD_DISPATCHED i, 0, 32⟩
/-- Address of PD_TIMEOUTS (R271). -/
def Addr.PD_TIMEOUTS (i : Nat) : Nat := 0x400024 + 0x800 * i
/-- R271. -/
def PD_TIMEOUTS.N (i : Nat) : Field := ⟨Addr.PD_TIMEOUTS i, 0, 32⟩
/-- Address of PD_DROPPED (R271). -/
def Addr.PD_DROPPED (i : Nat) : Nat := 0x400028 + 0x800 * i
/-- R271. -/
def PD_DROPPED.N (i : Nat) : Field := ⟨Addr.PD_DROPPED i, 0, 32⟩
/-- Address of PD_ABANDONED (R271). -/
def Addr.PD_ABANDONED (i : Nat) : Nat := 0x40002C + 0x800 * i
/-- R271. -/
def PD_ABANDONED.N (i : Nat) : Field := ⟨Addr.PD_ABANDONED i, 0, 32⟩
/-- Address of PD_TRACE_LOST (R271). -/
def Addr.PD_TRACE_LOST (i : Nat) : Nat := 0x400030 + 0x800 * i
/-- R271. -/
def PD_TRACE_LOST.N (i : Nat) : Field := ⟨Addr.PD_TRACE_LOST i, 0, 32⟩
/-- Address of PD_BADPUSH (R271). -/
def Addr.PD_BADPUSH (i : Nat) : Nat := 0x400034 + 0x800 * i
/-- R271. -/
def PD_BADPUSH.N (i : Nat) : Field := ⟨Addr.PD_BADPUSH i, 0, 32⟩
/-- Address of PD_LATE_MEMBER (R271). -/
def Addr.PD_LATE_MEMBER (i : Nat) : Nat := 0x400038 + 0x800 * i
/-- R271. -/
def PD_LATE_MEMBER.N (i : Nat) : Field := ⟨Addr.PD_LATE_MEMBER i, 0, 32⟩
/-- Address of PD_CLASS_MAP (R271). -/
def Addr.PD_CLASS_MAP (i : Nat) (j : Nat) : Nat := 0x400040 + 0x800 * i + 0x4 * j
/-- R271. -/
def PD_CLASS_MAP.CORES (i : Nat) (j : Nat) : Field := ⟨Addr.PD_CLASS_MAP i j, 0, 32⟩
/-- Address of PD_FLAG (R271). -/
def Addr.PD_FLAG (i : Nat) (j : Nat) : Nat := 0x400400 + 0x800 * i + 0x4 * j
/-- R271. -/
def PD_FLAG.COUNT (i : Nat) (j : Nat) : Field := ⟨Addr.PD_FLAG i j, 0, 8⟩
/-- Address of PD_CORE_TASKS (R269). -/
def Addr.PD_CORE_TASKS (i : Nat) : Nat := 0x401000 + 0x20 * i
/-- R269. -/
def PD_CORE_TASKS.TASKS (i : Nat) : Field := ⟨Addr.PD_CORE_TASKS i, 0, 32⟩
/-- Address of PD_CORE_BUSY (R269). -/
def Addr.PD_CORE_BUSY (i : Nat) : Nat := 0x401004 + 0x20 * i
/-- R269. -/
def PD_CORE_BUSY.BUSY (i : Nat) : Field := ⟨Addr.PD_CORE_BUSY i, 0, 32⟩
/-- Address of PD_CORE_WAIT_SUM (R269). -/
def Addr.PD_CORE_WAIT_SUM (i : Nat) : Nat := 0x401008 + 0x20 * i
/-- R269. -/
def PD_CORE_WAIT_SUM.WAIT_SUM (i : Nat) : Field := ⟨Addr.PD_CORE_WAIT_SUM i, 0, 32⟩
/-- Address of PD_CORE_WAIT_MAX (R269). -/
def Addr.PD_CORE_WAIT_MAX (i : Nat) : Nat := 0x40100C + 0x20 * i
/-- R269. -/
def PD_CORE_WAIT_MAX.WAIT_MAX (i : Nat) : Field := ⟨Addr.PD_CORE_WAIT_MAX i, 0, 32⟩
/-- Address of PD_CORE_DEPTH_MAX (R269). -/
def Addr.PD_CORE_DEPTH_MAX (i : Nat) : Nat := 0x401010 + 0x20 * i
/-- R269. -/
def PD_CORE_DEPTH_MAX.DEPTH_MAX (i : Nat) : Field := ⟨Addr.PD_CORE_DEPTH_MAX i, 0, 16⟩
/-- Address of PD_CORE_LENT_IN (R269). -/
def Addr.PD_CORE_LENT_IN (i : Nat) : Nat := 0x401014 + 0x20 * i
/-- R269. -/
def PD_CORE_LENT_IN.LENT_IN (i : Nat) : Field := ⟨Addr.PD_CORE_LENT_IN i, 0, 32⟩
/-- Address of PD_QGEN (R271). -/
def Addr.PD_QGEN (i : Nat) : Nat := 0x402000 + 0x4 * i
/-- R271. -/
def PD_QGEN.EN (i : Nat) : Field := ⟨Addr.PD_QGEN i, 0, 1⟩
/-- Address of PQ_CFG (R270). -/
def Addr.PQ_CFG (i : Nat) : Nat := 0x440000 + 0x10 * i
/-- R270. -/
def PQ_CFG.SINK (i : Nat) : Field := ⟨Addr.PQ_CFG i, 0, 2⟩
/-- R270. -/
def PQ_CFG.SERIAL (i : Nat) : Field := ⟨Addr.PQ_CFG i, 2, 1⟩
/-- R270. -/
def PQ_CFG.FOLLOW (i : Nat) : Field := ⟨Addr.PQ_CFG i, 3, 1⟩
/-- R270. -/
def PQ_CFG.LEND (i : Nat) : Field := ⟨Addr.PQ_CFG i, 4, 1⟩
/-- R270. -/
def PQ_CFG.FWPUSH (i : Nat) : Field := ⟨Addr.PQ_CFG i, 5, 1⟩
/-- R270. -/
def PQ_CFG.HALF (i : Nat) : Field := ⟨Addr.PQ_CFG i, 6, 1⟩
/-- R270. -/
def PQ_CFG.CLASS (i : Nat) : Field := ⟨Addr.PQ_CFG i, 7, 4⟩
/-- R270. -/
def PQ_CFG.PRIO (i : Nat) : Field := ⟨Addr.PQ_CFG i, 11, 3⟩
/-- R270. -/
def PQ_CFG.WAIT (i : Nat) : Field := ⟨Addr.PQ_CFG i, 14, 3⟩
/-- R270. -/
def PQ_CFG.ARG (i : Nat) : Field := ⟨Addr.PQ_CFG i, 17, 8⟩
/-- R270. -/
def PQ_CFG.TARGET (i : Nat) : Field := ⟨Addr.PQ_CFG i, 25, 6⟩
/-- Address of PQ_LIM (R270). -/
def Addr.PQ_LIM (i : Nat) : Nat := 0x440004 + 0x10 * i
/-- R270. -/
def PQ_LIM.CAP (i : Nat) : Field := ⟨Addr.PQ_LIM i, 0, 12⟩
/-- R270. -/
def PQ_LIM.TMO (i : Nat) : Field := ⟨Addr.PQ_LIM i, 16, 16⟩
/-- Address of PQ_JOIN (R270). -/
def Addr.PQ_JOIN (i : Nat) : Nat := 0x440008 + 0x10 * i
/-- R270. -/
def PQ_JOIN.JFIRST (i : Nat) : Field := ⟨Addr.PQ_JOIN i, 0, 14⟩
/-- R270. -/
def PQ_JOIN.JSTRIDE (i : Nat) : Field := ⟨Addr.PQ_JOIN i, 14, 6⟩
/-- R270. -/
def PQ_JOIN.JCOUNT (i : Nat) : Field := ⟨Addr.PQ_JOIN i, 20, 3⟩
/-- Address of PQ_STATE (R270). -/
def Addr.PQ_STATE (i : Nat) : Nat := 0x44000C + 0x10 * i
/-- R270. -/
def PQ_STATE.STATE (i : Nat) : Field := ⟨Addr.PQ_STATE i, 0, 3⟩
/-- R270. -/
def PQ_STATE.DEPTH (i : Nat) : Field := ⟨Addr.PQ_STATE i, 4, 12⟩
/-- R270. -/
def PQ_STATE.HWM (i : Nat) : Field := ⟨Addr.PQ_STATE i, 16, 12⟩
/-- R270. -/
def PQ_STATE.AT_LIMIT (i : Nat) : Field := ⟨Addr.PQ_STATE i, 28, 1⟩
/-- R270. -/
def PQ_STATE.DRAINING (i : Nat) : Field := ⟨Addr.PQ_STATE i, 29, 1⟩
/-- Address of RC_CTRL (R324). -/
def Addr.RC_CTRL (i : Nat) : Nat := 0x500000 + 0x1000 * i
/-- R324. -/
def RC_CTRL.EN (i : Nat) : Field := ⟨Addr.RC_CTRL i, 0, 1⟩
/-- R324. -/
def RC_CTRL.PROG (i : Nat) : Field := ⟨Addr.RC_CTRL i, 1, 4⟩
/-- R324. -/
def RC_CTRL.PWRDN (i : Nat) : Field := ⟨Addr.RC_CTRL i, 5, 1⟩
/-- Address of RC_STAT (R324). -/
def Addr.RC_STAT (i : Nat) : Nat := 0x500004 + 0x1000 * i
/-- R324. -/
def RC_STAT.STATE (i : Nat) : Field := ⟨Addr.RC_STAT i, 0, 3⟩
/-- R324. -/
def RC_STAT.EXL (i : Nat) : Field := ⟨Addr.RC_STAT i, 3, 1⟩
/-- R324. -/
def RC_STAT.LOCKED (i : Nat) : Field := ⟨Addr.RC_STAT i, 4, 1⟩
/-- R324. -/
def RC_STAT.TASK (i : Nat) : Field := ⟨Addr.RC_STAT i, 5, 1⟩
/-- R324. -/
def RC_STAT.AOV (i : Nat) : Field := ⟨Addr.RC_STAT i, 6, 1⟩
/-- R324. -/
def RC_STAT.PSN (i : Nat) : Field := ⟨Addr.RC_STAT i, 7, 1⟩
/-- R324. -/
def RC_STAT.KEPT (i : Nat) : Field := ⟨Addr.RC_STAT i, 8, 8⟩
/-- R324. -/
def RC_STAT.ALLOCS (i : Nat) : Field := ⟨Addr.RC_STAT i, 16, 4⟩
/-- Address of RC_PC (R324). -/
def Addr.RC_PC (i : Nat) : Nat := 0x500008 + 0x1000 * i
/-- R324. -/
def RC_PC.PC (i : Nat) : Field := ⟨Addr.RC_PC i, 0, 32⟩
/-- Address of RC_TASK (R324). -/
def Addr.RC_TASK (i : Nat) : Nat := 0x50000C + 0x1000 * i
/-- R324. -/
def RC_TASK.QUEUE (i : Nat) : Field := ⟨Addr.RC_TASK i, 0, 14⟩
/-- R324. -/
def RC_TASK.LENT (i : Nat) : Field := ⟨Addr.RC_TASK i, 14, 1⟩
/-- R324. -/
def RC_TASK.RESTARTED (i : Nat) : Field := ⟨Addr.RC_TASK i, 15, 1⟩
/-- Address of RC_TCOURSE (R324). -/
def Addr.RC_TCOURSE (i : Nat) : Nat := 0x500010 + 0x1000 * i
/-- R324. -/
def RC_TCOURSE.C (i : Nat) : Field := ⟨Addr.RC_TCOURSE i, 0, 32⟩
/-- Address of RC_EVT (R324). -/
def Addr.RC_EVT (i : Nat) : Nat := 0x500014 + 0x1000 * i
/-- R324. -/
def RC_EVT.DFAULT (i : Nat) : Field := ⟨Addr.RC_EVT i, 0, 1⟩
/-- R324. -/
def RC_EVT.IMEM_UNCORR (i : Nat) : Field := ⟨Addr.RC_EVT i, 1, 1⟩
/-- R324. -/
def RC_EVT.DMEM_UNCORR (i : Nat) : Field := ⟨Addr.RC_EVT i, 2, 1⟩
/-- R324. -/
def RC_EVT.EXC (i : Nat) : Field := ⟨Addr.RC_EVT i, 3, 1⟩
/-- R324. -/
def RC_EVT.LOCK_FAIL (i : Nat) : Field := ⟨Addr.RC_EVT i, 4, 1⟩
/-- R324. -/
def RC_EVT.PUSH_REFUSED (i : Nat) : Field := ⟨Addr.RC_EVT i, 5, 1⟩
/-- R324. -/
def RC_EVT.ALLOC_ABANDON (i : Nat) : Field := ⟨Addr.RC_EVT i, 6, 1⟩
/-- R324. -/
def RC_EVT.REFRESH_FAIL (i : Nat) : Field := ⟨Addr.RC_EVT i, 7, 1⟩
/-- Address of RC_INSTR (R324). -/
def Addr.RC_INSTR (i : Nat) : Nat := 0x500020 + 0x1000 * i
/-- R324. -/
def RC_INSTR.N (i : Nat) : Field := ⟨Addr.RC_INSTR i, 0, 32⟩
/-- Address of RC_TASKS (R324). -/
def Addr.RC_TASKS (i : Nat) : Nat := 0x500024 + 0x1000 * i
/-- R324. -/
def RC_TASKS.N (i : Nat) : Field := ⟨Addr.RC_TASKS i, 0, 32⟩
/-- Address of RC_EXC (R324). -/
def Addr.RC_EXC (i : Nat) : Nat := 0x500028 + 0x1000 * i
/-- R324. -/
def RC_EXC.N (i : Nat) : Field := ⟨Addr.RC_EXC i, 0, 32⟩
/-- Address of RC_LOCK_FAIL (R324). -/
def Addr.RC_LOCK_FAIL (i : Nat) : Nat := 0x50002C + 0x1000 * i
/-- R324. -/
def RC_LOCK_FAIL.N (i : Nat) : Field := ⟨Addr.RC_LOCK_FAIL i, 0, 32⟩
/-- Address of RC_MEM_CORR (R324). -/
def Addr.RC_MEM_CORR (i : Nat) : Nat := 0x500030 + 0x1000 * i
/-- R324. -/
def RC_MEM_CORR.N (i : Nat) : Field := ⟨Addr.RC_MEM_CORR i, 0, 32⟩
/-- Address of RC_PUSH_WAIT (R324). -/
def Addr.RC_PUSH_WAIT (i : Nat) : Nat := 0x500034 + 0x1000 * i
/-- R324. -/
def RC_PUSH_WAIT.N (i : Nat) : Field := ⟨Addr.RC_PUSH_WAIT i, 0, 32⟩
/-- Address of RC_ALLOC_WAIT (R324). -/
def Addr.RC_ALLOC_WAIT (i : Nat) : Nat := 0x500038 + 0x1000 * i
/-- R324. -/
def RC_ALLOC_WAIT.N (i : Nat) : Field := ⟨Addr.RC_ALLOC_WAIT i, 0, 32⟩
/-- Address of RC_ALLOC_ABANDON (R324). -/
def Addr.RC_ALLOC_ABANDON (i : Nat) : Nat := 0x50003C + 0x1000 * i
/-- R324. -/
def RC_ALLOC_ABANDON.N (i : Nat) : Field := ⟨Addr.RC_ALLOC_ABANDON i, 0, 32⟩
/-- Address of DBG_CTRL (R324). -/
def Addr.DBG_CTRL (i : Nat) : Nat := 0x500100 + 0x1000 * i
/-- R324. -/
def DBG_CTRL.HALT (i : Nat) : Field := ⟨Addr.DBG_CTRL i, 0, 1⟩
/-- R324. -/
def DBG_CTRL.RESUME (i : Nat) : Field := ⟨Addr.DBG_CTRL i, 1, 1⟩
/-- R324. -/
def DBG_CTRL.STEP (i : Nat) : Field := ⟨Addr.DBG_CTRL i, 2, 1⟩
/-- R324. -/
def DBG_CTRL.FORCE (i : Nat) : Field := ⟨Addr.DBG_CTRL i, 3, 1⟩
/-- Address of DBG_STAT (R324). -/
def Addr.DBG_STAT (i : Nat) : Nat := 0x500104 + 0x1000 * i
/-- R324. -/
def DBG_STAT.HALTED (i : Nat) : Field := ⟨Addr.DBG_STAT i, 0, 1⟩
/-- R324. -/
def DBG_STAT.DS (i : Nat) : Field := ⟨Addr.DBG_STAT i, 1, 1⟩
/-- R324. -/
def DBG_STAT.CAUSE (i : Nat) : Field := ⟨Addr.DBG_STAT i, 2, 2⟩
/-- R324. -/
def DBG_STAT.BP (i : Nat) : Field := ⟨Addr.DBG_STAT i, 4, 2⟩
/-- R324. -/
def DBG_STAT.LOCK_ABANDONED (i : Nat) : Field := ⟨Addr.DBG_STAT i, 6, 1⟩
/-- R324. -/
def DBG_STAT.ACC_STATUS (i : Nat) : Field := ⟨Addr.DBG_STAT i, 8, 2⟩
/-- Address of DBG_ACC (R324). -/
def Addr.DBG_ACC (i : Nat) : Nat := 0x500108 + 0x1000 * i
/-- R324. -/
def DBG_ACC.REG (i : Nat) : Field := ⟨Addr.DBG_ACC i, 0, 12⟩
/-- R324. -/
def DBG_ACC.WRITE (i : Nat) : Field := ⟨Addr.DBG_ACC i, 12, 1⟩
/-- R324. -/
def DBG_ACC.CONSUME (i : Nat) : Field := ⟨Addr.DBG_ACC i, 13, 1⟩
/-- R324. -/
def DBG_ACC.GO (i : Nat) : Field := ⟨Addr.DBG_ACC i, 16, 1⟩
/-- Address of DBG_DATA (R324). -/
def Addr.DBG_DATA (i : Nat) : Nat := 0x50010C + 0x1000 * i
/-- R324. -/
def DBG_DATA.D (i : Nat) : Field := ⟨Addr.DBG_DATA i, 0, 32⟩
/-- Address of RC_MEMA (R324). -/
def Addr.RC_MEMA (i : Nat) : Nat := 0x500200 + 0x1000 * i
/-- R324. -/
def RC_MEMA.A (i : Nat) : Field := ⟨Addr.RC_MEMA i, 0, 17⟩
/-- Address of RC_MEMD (R324). -/
def Addr.RC_MEMD (i : Nat) : Nat := 0x500204 + 0x1000 * i
/-- R324. -/
def RC_MEMD.D (i : Nat) : Field := ⟨Addr.RC_MEMD i, 0, 32⟩
/-- Address of BP_ADDR (R324). -/
def Addr.BP_ADDR (i : Nat) (j : Nat) : Nat := 0x500120 + 0x1000 * i + 0x8 * j
/-- R324. -/
def BP_ADDR.A (i : Nat) (j : Nat) : Field := ⟨Addr.BP_ADDR i j, 0, 32⟩
/-- Address of BP_CTRL (R324). -/
def Addr.BP_CTRL (i : Nat) (j : Nat) : Nat := 0x500124 + 0x1000 * i + 0x8 * j
/-- R324. -/
def BP_CTRL.EN (i : Nat) (j : Nat) : Field := ⟨Addr.BP_CTRL i j, 0, 1⟩
/-- R324. -/
def BP_CTRL.KIND (i : Nat) (j : Nat) : Field := ⟨Addr.BP_CTRL i j, 1, 2⟩
/-- Address of RC_SHARE_N (R325). -/
def Addr.RC_SHARE_N (i : Nat) : Nat := 0x540000 + 0x4 * i
/-- R325. -/
def RC_SHARE_N.BASE (i : Nat) : Field := ⟨Addr.RC_SHARE_N i, 0, 15⟩
/-- R325. -/
def RC_SHARE_N.LEN (i : Nat) : Field := ⟨Addr.RC_SHARE_N i, 16, 15⟩
/-- Address of RC_SHARE_S (R325). -/
def Addr.RC_SHARE_S (i : Nat) : Nat := 0x540020 + 0x4 * i
/-- R325. -/
def RC_SHARE_S.BASE (i : Nat) : Field := ⟨Addr.RC_SHARE_S i, 0, 15⟩
/-- R325. -/
def RC_SHARE_S.LEN (i : Nat) : Field := ⟨Addr.RC_SHARE_S i, 16, 15⟩
/-- Address of SH_CTRL (R350). -/
def Addr.SH_CTRL (i : Nat) : Nat := 0x600000 + 0x100 * i
/-- R350. -/
def SH_CTRL.EN (i : Nat) : Field := ⟨Addr.SH_CTRL i, 0, 1⟩
/-- R350. -/
def SH_CTRL.PWRDN (i : Nat) : Field := ⟨Addr.SH_CTRL i, 1, 1⟩
/-- Address of SH_STAT (R350). -/
def Addr.SH_STAT (i : Nat) : Nat := 0x600004 + 0x100 * i
/-- R350. -/
def SH_STAT.ACTIVE (i : Nat) : Field := ⟨Addr.SH_STAT i, 0, 1⟩
/-- R350. -/
def SH_STAT.BUSY (i : Nat) : Field := ⟨Addr.SH_STAT i, 1, 1⟩
/-- R350. -/
def SH_STAT.PASS2 (i : Nat) : Field := ⟨Addr.SH_STAT i, 2, 1⟩
/-- R350. -/
def SH_STAT.WAITING (i : Nat) : Field := ⟨Addr.SH_STAT i, 3, 1⟩
/-- R350. -/
def SH_STAT.QUEUE (i : Nat) : Field := ⟨Addr.SH_STAT i, 4, 14⟩
/-- R350. -/
def SH_STAT.CONTEXTS (i : Nat) : Field := ⟨Addr.SH_STAT i, 18, 6⟩
/-- Address of SH_EVT (R350). -/
def Addr.SH_EVT (i : Nat) : Nat := 0x600008 + 0x100 * i
/-- R350. -/
def SH_EVT.NOGAIN (i : Nat) : Field := ⟨Addr.SH_EVT i, 0, 1⟩
/-- R350. -/
def SH_EVT.CHAIN (i : Nat) : Field := ⟨Addr.SH_EVT i, 1, 1⟩
/-- R350. -/
def SH_EVT.CHAIN_WAIT (i : Nat) : Field := ⟨Addr.SH_EVT i, 2, 1⟩
/-- R350. -/
def SH_EVT.POISON (i : Nat) : Field := ⟨Addr.SH_EVT i, 3, 1⟩
/-- R350. -/
def SH_EVT.ABANDON (i : Nat) : Field := ⟨Addr.SH_EVT i, 4, 1⟩
/-- Address of SH_BLOCKS (R350). -/
def Addr.SH_BLOCKS (i : Nat) : Nat := 0x600010 + 0x100 * i
/-- R350. -/
def SH_BLOCKS.N (i : Nat) : Field := ⟨Addr.SH_BLOCKS i, 0, 32⟩
/-- Address of SH_IN_KIB (R350). -/
def Addr.SH_IN_KIB (i : Nat) : Nat := 0x600014 + 0x100 * i
/-- R350. -/
def SH_IN_KIB.N (i : Nat) : Field := ⟨Addr.SH_IN_KIB i, 0, 32⟩
/-- Address of SH_OUT_KIB (R350). -/
def Addr.SH_OUT_KIB (i : Nat) : Nat := 0x600018 + 0x100 * i
/-- R350. -/
def SH_OUT_KIB.N (i : Nat) : Field := ⟨Addr.SH_OUT_KIB i, 0, 32⟩
/-- Address of SH_NOGAIN (R350). -/
def Addr.SH_NOGAIN (i : Nat) : Nat := 0x60001C + 0x100 * i
/-- R350. -/
def SH_NOGAIN.N (i : Nat) : Field := ⟨Addr.SH_NOGAIN i, 0, 32⟩
/-- Address of SH_BYPASS (R350). -/
def Addr.SH_BYPASS (i : Nat) : Nat := 0x600020 + 0x100 * i
/-- R350. -/
def SH_BYPASS.N (i : Nat) : Field := ⟨Addr.SH_BYPASS i, 0, 32⟩
/-- Address of SH_RESETS (R350). -/
def Addr.SH_RESETS (i : Nat) : Nat := 0x600024 + 0x100 * i
/-- R350. -/
def SH_RESETS.N (i : Nat) : Field := ⟨Addr.SH_RESETS i, 0, 32⟩
/-- Address of SH_PASS2 (R350). -/
def Addr.SH_PASS2 (i : Nat) : Nat := 0x600028 + 0x100 * i
/-- R350. -/
def SH_PASS2.N (i : Nat) : Field := ⟨Addr.SH_PASS2 i, 0, 32⟩
/-- Address of SH_CHAINED (R350). -/
def Addr.SH_CHAINED (i : Nat) : Nat := 0x60002C + 0x100 * i
/-- R350. -/
def SH_CHAINED.N (i : Nat) : Field := ⟨Addr.SH_CHAINED i, 0, 32⟩
/-- Address of SH_CHAIN_WAIT (R350). -/
def Addr.SH_CHAIN_WAIT (i : Nat) : Nat := 0x600030 + 0x100 * i
/-- R350. -/
def SH_CHAIN_WAIT.N (i : Nat) : Field := ⟨Addr.SH_CHAIN_WAIT i, 0, 32⟩
/-- Address of SH_POISON (R350). -/
def Addr.SH_POISON (i : Nat) : Nat := 0x600034 + 0x100 * i
/-- R350. -/
def SH_POISON.N (i : Nat) : Field := ⟨Addr.SH_POISON i, 0, 32⟩
/-- Address of SH_ABANDON (R350). -/
def Addr.SH_ABANDON (i : Nat) : Nat := 0x600038 + 0x100 * i
/-- R350. -/
def SH_ABANDON.N (i : Nat) : Field := ⟨Addr.SH_ABANDON i, 0, 32⟩
/-- Address of SH_EFFORT (R351). -/
def Addr.SH_EFFORT : Nat := 0x602000
/-- R351. -/
def SH_EFFORT.STREAM : Field := ⟨Addr.SH_EFFORT, 0, 3⟩
/-- R351. -/
def SH_EFFORT.KEYED : Field := ⟨Addr.SH_EFFORT, 4, 3⟩
/-- Address of SH_FLUSH (R351). -/
def Addr.SH_FLUSH : Nat := 0x602004
/-- R351. -/
def SH_FLUSH.QUEUE : Field := ⟨Addr.SH_FLUSH, 0, 14⟩
/-- Address of SH_CHAIN_N (R351). -/
def Addr.SH_CHAIN_N : Nat := 0x602010
/-- R351. -/
def SH_CHAIN_N.BASE : Field := ⟨Addr.SH_CHAIN_N, 0, 15⟩
/-- R351. -/
def SH_CHAIN_N.LEN : Field := ⟨Addr.SH_CHAIN_N, 16, 15⟩
/-- Address of SH_CHAIN_S (R351). -/
def Addr.SH_CHAIN_S : Nat := 0x602014
/-- R351. -/
def SH_CHAIN_S.BASE : Field := ⟨Addr.SH_CHAIN_S, 0, 15⟩
/-- R351. -/
def SH_CHAIN_S.LEN : Field := ⟨Addr.SH_CHAIN_S, 16, 15⟩
/-- Address of SH_CHAIN_FREE (R351). -/
def Addr.SH_CHAIN_FREE : Nat := 0x602018
/-- R351. -/
def SH_CHAIN_FREE.N : Field := ⟨Addr.SH_CHAIN_FREE, 0, 16⟩
/-- R351. -/
def SH_CHAIN_FREE.S : Field := ⟨Addr.SH_CHAIN_FREE, 16, 16⟩
/-- Address of SH_KEYED (R351). -/
def Addr.SH_KEYED (i : Nat) : Nat := 0x602100 + 0x4 * i
/-- R351. -/
def SH_KEYED.SOURCE (i : Nat) : Field := ⟨Addr.SH_KEYED i, 0, 16⟩
/-- R351. -/
def SH_KEYED.VALID (i : Nat) : Field := ⟨Addr.SH_KEYED i, 16, 1⟩
/-- Address of SH_QCFG (R352). -/
def Addr.SH_QCFG (i : Nat) : Nat := 0x640000 + 0x8 * i
/-- R352. -/
def SH_QCFG.LANES (i : Nat) : Field := ⟨Addr.SH_QCFG i, 0, 2⟩
/-- R352. -/
def SH_QCFG.WIDTH (i : Nat) : Field := ⟨Addr.SH_QCFG i, 2, 1⟩
/-- R352. -/
def SH_QCFG.ORDER (i : Nat) : Field := ⟨Addr.SH_QCFG i, 3, 2⟩
/-- R352. -/
def SH_QCFG.BLKMAX (i : Nat) : Field := ⟨Addr.SH_QCFG i, 5, 5⟩
/-- R352. -/
def SH_QCFG.RESET_EVERY (i : Nat) : Field := ⟨Addr.SH_QCFG i, 16, 8⟩
/-- Address of SH_QCFG_OUTQ (R352). -/
def Addr.SH_QCFG_OUTQ (i : Nat) : Nat := 0x640004 + 0x8 * i
/-- R352. -/
def SH_QCFG_OUTQ.OUTQ (i : Nat) : Field := ⟨Addr.SH_QCFG_OUTQ i, 0, 14⟩
/-- Address of RG_LANE_CTRL (R391). -/
def Addr.RG_LANE_CTRL (i : Nat) : Nat := 0x700000 + 0x100 * i
/-- R391. -/
def RG_LANE_CTRL.EN (i : Nat) : Field := ⟨Addr.RG_LANE_CTRL i, 0, 1⟩
/-- R391. -/
def RG_LANE_CTRL.GEN (i : Nat) : Field := ⟨Addr.RG_LANE_CTRL i, 1, 2⟩
/-- Address of RG_EQ (R391). -/
def Addr.RG_EQ (i : Nat) : Nat := 0x700004 + 0x100 * i
/-- R391. -/
def RG_EQ.E (i : Nat) : Field := ⟨Addr.RG_EQ i, 0, 32⟩
/-- Address of RG_LANE_STAT (R391). -/
def Addr.RG_LANE_STAT (i : Nat) : Nat := 0x700008 + 0x100 * i
/-- R391. -/
def RG_LANE_STAT.STATE (i : Nat) : Field := ⟨Addr.RG_LANE_STAT i, 0, 3⟩
/-- R391. -/
def RG_LANE_STAT.GROUP (i : Nat) : Field := ⟨Addr.RG_LANE_STAT i, 4, 4⟩
/-- R391. -/
def RG_LANE_STAT.RX_LOCK (i : Nat) : Field := ⟨Addr.RG_LANE_STAT i, 8, 1⟩
/-- R391. -/
def RG_LANE_STAT.BE_LOCK (i : Nat) : Field := ⟨Addr.RG_LANE_STAT i, 9, 1⟩
/-- Address of RG_LANE_EVT (R391). -/
def Addr.RG_LANE_EVT (i : Nat) : Nat := 0x70000C + 0x100 * i
/-- R391. -/
def RG_LANE_EVT.FAIL (i : Nat) : Field := ⟨Addr.RG_LANE_EVT i, 0, 1⟩
/-- R391. -/
def RG_LANE_EVT.TRAIN_FAIL (i : Nat) : Field := ⟨Addr.RG_LANE_EVT i, 1, 1⟩
/-- Address of RG_FRAMES_TX (R391). -/
def Addr.RG_FRAMES_TX (i : Nat) : Nat := 0x700010 + 0x100 * i
/-- R391. -/
def RG_FRAMES_TX.N (i : Nat) : Field := ⟨Addr.RG_FRAMES_TX i, 0, 32⟩
/-- Address of RG_FRAMES_RX (R391). -/
def Addr.RG_FRAMES_RX (i : Nat) : Nat := 0x700014 + 0x100 * i
/-- R391. -/
def RG_FRAMES_RX.N (i : Nat) : Field := ⟨Addr.RG_FRAMES_RX i, 0, 32⟩
/-- Address of RG_BAD_RX (R391). -/
def Addr.RG_BAD_RX (i : Nat) : Nat := 0x700018 + 0x100 * i
/-- R391. -/
def RG_BAD_RX.N (i : Nat) : Field := ⟨Addr.RG_BAD_RX i, 0, 32⟩
/-- Address of RG_FILL_DEL (R391). -/
def Addr.RG_FILL_DEL (i : Nat) : Nat := 0x70001C + 0x100 * i
/-- R391. -/
def RG_FILL_DEL.N (i : Nat) : Field := ⟨Addr.RG_FILL_DEL i, 0, 32⟩
/-- Address of RG_CODE_ERR (R391). -/
def Addr.RG_CODE_ERR (i : Nat) : Nat := 0x700020 + 0x100 * i
/-- R391. -/
def RG_CODE_ERR.N (i : Nat) : Field := ⟨Addr.RG_CODE_ERR i, 0, 32⟩
/-- Address of RG_FEC_CORR (R391). -/
def Addr.RG_FEC_CORR (i : Nat) : Nat := 0x700024 + 0x100 * i
/-- R391. -/
def RG_FEC_CORR.N (i : Nat) : Field := ⟨Addr.RG_FEC_CORR i, 0, 32⟩
/-- Address of RG_FEC_UNCORR (R391). -/
def Addr.RG_FEC_UNCORR (i : Nat) : Nat := 0x700028 + 0x100 * i
/-- R391. -/
def RG_FEC_UNCORR.N (i : Nat) : Field := ⟨Addr.RG_FEC_UNCORR i, 0, 32⟩
/-- Address of RG_RESENT (R391). -/
def Addr.RG_RESENT (i : Nat) : Nat := 0x70002C + 0x100 * i
/-- R391. -/
def RG_RESENT.N (i : Nat) : Field := ⟨Addr.RG_RESENT i, 0, 32⟩
/-- Address of RG_GRP_CTRL (R392). -/
def Addr.RG_GRP_CTRL (i : Nat) : Nat := 0x704000 + 0x40 * i
/-- R392. -/
def RG_GRP_CTRL.EN (i : Nat) : Field := ⟨Addr.RG_GRP_CTRL i, 0, 1⟩
/-- R392. -/
def RG_GRP_CTRL.FWD (i : Nat) : Field := ⟨Addr.RG_GRP_CTRL i, 1, 1⟩
/-- R392. -/
def RG_GRP_CTRL.LANES (i : Nat) : Field := ⟨Addr.RG_GRP_CTRL i, 16, 16⟩
/-- Address of RG_GRP_SPARE (R392). -/
def Addr.RG_GRP_SPARE (i : Nat) : Nat := 0x704004 + 0x40 * i
/-- R392. -/
def RG_GRP_SPARE.MASK (i : Nat) : Field := ⟨Addr.RG_GRP_SPARE i, 0, 16⟩
/-- Address of RG_GRP_CFG (R392). -/
def Addr.RG_GRP_CFG (i : Nat) : Nat := 0x704008 + 0x40 * i
/-- R392. -/
def RG_GRP_CFG.MIN (i : Nat) : Field := ⟨Addr.RG_GRP_CFG i, 0, 4⟩
/-- R392. -/
def RG_GRP_CFG.FRAG (i : Nat) : Field := ⟨Addr.RG_GRP_CFG i, 4, 10⟩
/-- R392. -/
def RG_GRP_CFG.FILL (i : Nat) : Field := ⟨Addr.RG_GRP_CFG i, 14, 14⟩
/-- Address of RG_GRP_WIN (R392). -/
def Addr.RG_GRP_WIN (i : Nat) : Nat := 0x70400C + 0x40 * i
/-- R392. -/
def RG_GRP_WIN.WINDOW (i : Nat) : Field := ⟨Addr.RG_GRP_WIN i, 0, 16⟩
/-- R392. -/
def RG_GRP_WIN.ACK_TMO (i : Nat) : Field := ⟨Addr.RG_GRP_WIN i, 16, 16⟩
/-- Address of RG_GRP_FWD (R392). -/
def Addr.RG_GRP_FWD (i : Nat) : Nat := 0x704010 + 0x40 * i
/-- R392. -/
def RG_GRP_FWD.NODE (i : Nat) : Field := ⟨Addr.RG_GRP_FWD i, 0, 16⟩
/-- Address of RG_GRP_STAT (R392). -/
def Addr.RG_GRP_STAT (i : Nat) : Nat := 0x704014 + 0x40 * i
/-- R392. -/
def RG_GRP_STAT.ACTIVE (i : Nat) : Field := ⟨Addr.RG_GRP_STAT i, 0, 16⟩
/-- Address of RG_GRP_SEQ (R392). -/
def Addr.RG_GRP_SEQ (i : Nat) : Nat := 0x704018 + 0x40 * i
/-- R392. -/
def RG_GRP_SEQ.NEXT (i : Nat) : Field := ⟨Addr.RG_GRP_SEQ i, 0, 24⟩
/-- Address of RG_GRP_ACKED (R392). -/
def Addr.RG_GRP_ACKED (i : Nat) : Nat := 0x70401C + 0x40 * i
/-- R392. -/
def RG_GRP_ACKED.SEQ (i : Nat) : Field := ⟨Addr.RG_GRP_ACKED i, 0, 24⟩
/-- Address of RG_GRP_EVT (R392). -/
def Addr.RG_GRP_EVT (i : Nat) : Nat := 0x704020 + 0x40 * i
/-- R392. -/
def RG_GRP_EVT.ACK_TMO (i : Nat) : Field := ⟨Addr.RG_GRP_EVT i, 0, 1⟩
/-- R392. -/
def RG_GRP_EVT.FAILOVER (i : Nat) : Field := ⟨Addr.RG_GRP_EVT i, 1, 1⟩
/-- R392. -/
def RG_GRP_EVT.SPARE_OUT (i : Nat) : Field := ⟨Addr.RG_GRP_EVT i, 2, 1⟩
/-- R392. -/
def RG_GRP_EVT.NO_LANE (i : Nat) : Field := ⟨Addr.RG_GRP_EVT i, 3, 1⟩
/-- Address of RG_GRP_RECORDS (R392). -/
def Addr.RG_GRP_RECORDS (i : Nat) : Nat := 0x704024 + 0x40 * i
/-- R392. -/
def RG_GRP_RECORDS.N (i : Nat) : Field := ⟨Addr.RG_GRP_RECORDS i, 0, 32⟩
/-- Address of RG_GRP_KIB (R392). -/
def Addr.RG_GRP_KIB (i : Nat) : Nat := 0x704028 + 0x40 * i
/-- R392. -/
def RG_GRP_KIB.N (i : Nat) : Field := ⟨Addr.RG_GRP_KIB i, 0, 32⟩
/-- Address of RG_CTL_CFG (R393). -/
def Addr.RG_CTL_CFG : Nat := 0x706000
/-- R393. -/
def RG_CTL_CFG.MAXOUT : Field := ⟨Addr.RG_CTL_CFG, 0, 9⟩
/-- R393. -/
def RG_CTL_CFG.REMOTE_TMO : Field := ⟨Addr.RG_CTL_CFG, 16, 16⟩
/-- Address of RG_FWDIN (R393). -/
def Addr.RG_FWDIN : Nat := 0x706004
/-- R393. -/
def RG_FWDIN.GRP : Field := ⟨Addr.RG_FWDIN, 0, 4⟩
/-- R393. -/
def RG_FWDIN.VALID : Field := ⟨Addr.RG_FWDIN, 4, 1⟩
/-- Address of NT_CFG (R393). -/
def Addr.NT_CFG : Nat := 0x706008
/-- R393. -/
def NT_CFG.QN : Field := ⟨Addr.NT_CFG, 0, 14⟩
/-- R393. -/
def NT_CFG.QS : Field := ⟨Addr.NT_CFG, 16, 14⟩
/-- Address of RG_CTL_STAT (R393). -/
def Addr.RG_CTL_STAT : Nat := 0x70600C
/-- R393. -/
def RG_CTL_STAT.OUT : Field := ⟨Addr.RG_CTL_STAT, 0, 9⟩
/-- Address of RG_REQ (R393). -/
def Addr.RG_REQ : Nat := 0x706010
/-- R393. -/
def RG_REQ.N : Field := ⟨Addr.RG_REQ, 0, 32⟩
/-- Address of RG_BUSY (R393). -/
def Addr.RG_BUSY : Nat := 0x706014
/-- R393. -/
def RG_BUSY.N : Field := ⟨Addr.RG_BUSY, 0, 32⟩
/-- Address of RG_BADREQ (R393). -/
def Addr.RG_BADREQ : Nat := 0x706018
/-- R393. -/
def RG_BADREQ.N : Field := ⟨Addr.RG_BADREQ, 0, 32⟩
/-- Address of RG_LATE_RSP (R393). -/
def Addr.RG_LATE_RSP : Nat := 0x70601C
/-- R393. -/
def RG_LATE_RSP.N : Field := ⟨Addr.RG_LATE_RSP, 0, 32⟩
/-- Address of NT_SENT (R393). -/
def Addr.NT_SENT : Nat := 0x706020
/-- R393. -/
def NT_SENT.N : Field := ⟨Addr.NT_SENT, 0, 32⟩
/-- Address of NT_SUPP (R393). -/
def Addr.NT_SUPP : Nat := 0x706024
/-- R393. -/
def NT_SUPP.N : Field := ⟨Addr.NT_SUPP, 0, 32⟩
/-- Address of NT_LOST (R393). -/
def Addr.NT_LOST : Nat := 0x706028
/-- R393. -/
def NT_LOST.N : Field := ⟨Addr.NT_LOST, 0, 32⟩
/-- Address of HIP_CTRL (R394). -/
def Addr.HIP_CTRL (i : Nat) : Nat := 0x780000 + 0x100 * i
/-- R394. -/
def HIP_CTRL.EN (i : Nat) : Field := ⟨Addr.HIP_CTRL i, 0, 1⟩
/-- R394. -/
def HIP_CTRL.EXPECT (i : Nat) : Field := ⟨Addr.HIP_CTRL i, 1, 1⟩
/-- Address of HIP_EQ (R394). -/
def Addr.HIP_EQ (i : Nat) : Nat := 0x780004 + 0x100 * i
/-- R394. -/
def HIP_EQ.E (i : Nat) : Field := ⟨Addr.HIP_EQ i, 0, 32⟩
/-- Address of HIP_STAT (R394). -/
def Addr.HIP_STAT (i : Nat) : Nat := 0x780008 + 0x100 * i
/-- R394. -/
def HIP_STAT.STATE (i : Nat) : Field := ⟨Addr.HIP_STAT i, 0, 2⟩
/-- R394. -/
def HIP_STAT.ROLE (i : Nat) : Field := ⟨Addr.HIP_STAT i, 4, 2⟩
/-- R394. -/
def HIP_STAT.NEIGHBOUR (i : Nat) : Field := ⟨Addr.HIP_STAT i, 16, 16⟩
/-- Address of HIP_EVT (R394). -/
def Addr.HIP_EVT (i : Nat) : Nat := 0x78000C + 0x100 * i
/-- R394. -/
def HIP_EVT.LOST (i : Nat) : Field := ⟨Addr.HIP_EVT i, 0, 1⟩
/-- R394. -/
def HIP_EVT.FOUND (i : Nat) : Field := ⟨Addr.HIP_EVT i, 1, 1⟩
/-- R394. -/
def HIP_EVT.SLIP (i : Nat) : Field := ⟨Addr.HIP_EVT i, 2, 1⟩
/-- R394. -/
def HIP_EVT.DUP_ID (i : Nat) : Field := ⟨Addr.HIP_EVT i, 3, 1⟩
/-- Address of HIP_ITEMS_TX (R394). -/
def Addr.HIP_ITEMS_TX (i : Nat) : Nat := 0x780010 + 0x100 * i
/-- R394. -/
def HIP_ITEMS_TX.N (i : Nat) : Field := ⟨Addr.HIP_ITEMS_TX i, 0, 32⟩
/-- Address of HIP_ITEMS_RX (R394). -/
def Addr.HIP_ITEMS_RX (i : Nat) : Nat := 0x780014 + 0x100 * i
/-- R394. -/
def HIP_ITEMS_RX.N (i : Nat) : Field := ⟨Addr.HIP_ITEMS_RX i, 0, 32⟩
/-- Address of HIP_BAD (R394). -/
def Addr.HIP_BAD (i : Nat) : Nat := 0x780018 + 0x100 * i
/-- R394. -/
def HIP_BAD.N (i : Nat) : Field := ⟨Addr.HIP_BAD i, 0, 32⟩
/-- Address of HIP_ITEM_LOST (R394). -/
def Addr.HIP_ITEM_LOST (i : Nat) : Nat := 0x78001C + 0x100 * i
/-- R394. -/
def HIP_ITEM_LOST.N (i : Nat) : Field := ⟨Addr.HIP_ITEM_LOST i, 0, 32⟩
/-- Address of HIP_LATE (R394). -/
def Addr.HIP_LATE (i : Nat) : Nat := 0x780020 + 0x100 * i
/-- R394. -/
def HIP_LATE.N (i : Nat) : Field := ⟨Addr.HIP_LATE i, 0, 32⟩
/-- Address of HIP_WAIT_NS (R394). -/
def Addr.HIP_WAIT_NS (i : Nat) : Nat := 0x780024 + 0x100 * i
/-- R394. -/
def HIP_WAIT_NS.N (i : Nat) : Field := ⟨Addr.HIP_WAIT_NS i, 0, 32⟩
/-- Address of HIP_FWD_REJECT (R394). -/
def Addr.HIP_FWD_REJECT (i : Nat) : Nat := 0x780028 + 0x100 * i
/-- R394. -/
def HIP_FWD_REJECT.N (i : Nat) : Field := ⟨Addr.HIP_FWD_REJECT i, 0, 32⟩
/-- Address of HIP_CFG (R394). -/
def Addr.HIP_CFG : Nat := 0x781000
/-- R394. -/
def HIP_CFG.ROOT_PRIO : Field := ⟨Addr.HIP_CFG, 0, 4⟩
/-- R394. -/
def HIP_CFG.MAXDEPTH : Field := ⟨Addr.HIP_CFG, 4, 8⟩
/-- R394. -/
def HIP_CFG.FWD_LIMIT : Field := ⟨Addr.HIP_CFG, 16, 8⟩
/-- Address of HIP_PREF (R394). -/
def Addr.HIP_PREF : Nat := 0x781004
/-- R394. -/
def HIP_PREF.L : Field := ⟨Addr.HIP_PREF, 0, 32⟩
/-- Address of TREE_STAT (R394). -/
def Addr.TREE_STAT : Nat := 0x781008
/-- R394. -/
def TREE_STAT.ROOT : Field := ⟨Addr.TREE_STAT, 0, 16⟩
/-- R394. -/
def TREE_STAT.DIST : Field := ⟨Addr.TREE_STAT, 16, 8⟩
/-- R394. -/
def TREE_STAT.PARENT : Field := ⟨Addr.TREE_STAT, 24, 4⟩
/-- R394. -/
def TREE_STAT.IS_ROOT : Field := ⟨Addr.TREE_STAT, 28, 1⟩
/-- Address of TREE_EVT (R394). -/
def Addr.TREE_EVT : Nat := 0x78100C
/-- R394. -/
def TREE_EVT.CHANGE : Field := ⟨Addr.TREE_EVT, 0, 1⟩
/-- R394. -/
def TREE_EVT.NO_PARENT : Field := ⟨Addr.TREE_EVT, 1, 1⟩
/-- Address of TREE_CHANGES (R394). -/
def Addr.TREE_CHANGES : Nat := 0x781010
/-- R394. -/
def TREE_CHANGES.N : Field := ⟨Addr.TREE_CHANGES, 0, 32⟩
/-- Address of GA_CTRL (R425). -/
def Addr.GA_CTRL (i : Nat) : Nat := 0x800000 + 0x4000 * i
/-- R425. -/
def GA_CTRL.EN (i : Nat) : Field := ⟨Addr.GA_CTRL i, 0, 1⟩
/-- R425. -/
def GA_CTRL.PWRDN (i : Nat) : Field := ⟨Addr.GA_CTRL i, 1, 1⟩
/-- Address of GA_CFG (R425). -/
def Addr.GA_CFG (i : Nat) : Nat := 0x800004 + 0x4000 * i
/-- R425. -/
def GA_CFG.ROT (i : Nat) : Field := ⟨Addr.GA_CFG i, 0, 8⟩
/-- R425. -/
def GA_CFG.OW_EVERY (i : Nat) : Field := ⟨Addr.GA_CFG i, 8, 8⟩
/-- R425. -/
def GA_CFG.OW_CUR (i : Nat) : Field := ⟨Addr.GA_CFG i, 16, 1⟩
/-- R425. -/
def GA_CFG.STEP_DOWN (i : Nat) : Field := ⟨Addr.GA_CFG i, 17, 1⟩
/-- Address of GA_Q (R425). -/
def Addr.GA_Q (i : Nat) : Nat := 0x800008 + 0x4000 * i
/-- R425. -/
def GA_Q.N (i : Nat) : Field := ⟨Addr.GA_Q i, 0, 14⟩
/-- Address of GA_TWARN (R425). -/
def Addr.GA_TWARN (i : Nat) : Nat := 0x80000C + 0x4000 * i
/-- R425. -/
def GA_TWARN.DEG (i : Nat) : Field := ⟨Addr.GA_TWARN i, 0, 8⟩
/-- Address of GA_STAT (R425). -/
def Addr.GA_STAT (i : Nat) : Nat := 0x800010 + 0x4000 * i
/-- R425. -/
def GA_STAT.SLICE_FAULT (i : Nat) : Field := ⟨Addr.GA_STAT i, 0, 5⟩
/-- R425. -/
def GA_STAT.CAL_SLICE (i : Nat) : Field := ⟨Addr.GA_STAT i, 5, 3⟩
/-- R425. -/
def GA_STAT.MAINT (i : Nat) : Field := ⟨Addr.GA_STAT i, 8, 1⟩
/-- R425. -/
def GA_STAT.ACTIVE (i : Nat) : Field := ⟨Addr.GA_STAT i, 9, 1⟩
/-- R425. -/
def GA_STAT.BUSY (i : Nat) : Field := ⟨Addr.GA_STAT i, 10, 4⟩
/-- Address of GA_EVT (R425). -/
def Addr.GA_EVT (i : Nat) : Nat := 0x800014 + 0x4000 * i
/-- R425. -/
def GA_EVT.EXC_FAULT (i : Nat) : Field := ⟨Addr.GA_EVT i, 0, 1⟩
/-- R425. -/
def GA_EVT.OPEN (i : Nat) : Field := ⟨Addr.GA_EVT i, 1, 1⟩
/-- R425. -/
def GA_EVT.COMPLIANCE (i : Nat) : Field := ⟨Addr.GA_EVT i, 2, 1⟩
/-- R425. -/
def GA_EVT.STEPPED (i : Nat) : Field := ⟨Addr.GA_EVT i, 3, 1⟩
/-- R425. -/
def GA_EVT.ALARM (i : Nat) : Field := ⟨Addr.GA_EVT i, 4, 1⟩
/-- R425. -/
def GA_EVT.TWARN (i : Nat) : Field := ⟨Addr.GA_EVT i, 5, 1⟩
/-- R425. -/
def GA_EVT.SLICE_FAULT (i : Nat) : Field := ⟨Addr.GA_EVT i, 6, 1⟩
/-- R425. -/
def GA_EVT.SLICES_OUT (i : Nat) : Field := ⟨Addr.GA_EVT i, 7, 1⟩
/-- R425. -/
def GA_EVT.MISSED (i : Nat) : Field := ⟨Addr.GA_EVT i, 8, 1⟩
/-- R425. -/
def GA_EVT.CAL_DONE (i : Nat) : Field := ⟨Addr.GA_EVT i, 9, 1⟩
/-- Address of GA_URGENT (R425). -/
def Addr.GA_URGENT (i : Nat) : Nat := 0x800018 + 0x4000 * i
/-- R425. -/
def GA_URGENT.INPUT (i : Nat) : Field := ⟨Addr.GA_URGENT i, 0, 5⟩
/-- R425. -/
def GA_URGENT.GO (i : Nat) : Field := ⟨Addr.GA_URGENT i, 31, 1⟩
/-- Address of GA_FULLCAL (R425). -/
def Addr.GA_FULLCAL (i : Nat) : Nat := 0x80001C + 0x4000 * i
/-- R425. -/
def GA_FULLCAL.START (i : Nat) : Field := ⟨Addr.GA_FULLCAL i, 0, 1⟩
/-- Address of GA_CONV (R425). -/
def Addr.GA_CONV (i : Nat) : Nat := 0x800020 + 0x4000 * i
/-- R425. -/
def GA_CONV.N (i : Nat) : Field := ⟨Addr.GA_CONV i, 0, 32⟩
/-- Address of GA_MISSED (R425). -/
def Addr.GA_MISSED (i : Nat) : Nat := 0x800024 + 0x4000 * i
/-- R425. -/
def GA_MISSED.N (i : Nat) : Field := ⟨Addr.GA_MISSED i, 0, 32⟩
/-- Address of GA_ABORTED (R425). -/
def Addr.GA_ABORTED (i : Nat) : Nat := 0x800028 + 0x4000 * i
/-- R425. -/
def GA_ABORTED.N (i : Nat) : Field := ⟨Addr.GA_ABORTED i, 0, 32⟩
/-- Address of GA_EXCF (R425). -/
def Addr.GA_EXCF (i : Nat) : Nat := 0x80002C + 0x4000 * i
/-- R425. -/
def GA_EXCF.N (i : Nat) : Field := ⟨Addr.GA_EXCF i, 0, 32⟩
/-- Address of GA_OPENS (R425). -/
def Addr.GA_OPENS (i : Nat) : Nat := 0x800030 + 0x4000 * i
/-- R425. -/
def GA_OPENS.N (i : Nat) : Field := ⟨Addr.GA_OPENS i, 0, 32⟩
/-- Address of GA_COMPL (R425). -/
def Addr.GA_COMPL (i : Nat) : Nat := 0x800034 + 0x4000 * i
/-- R425. -/
def GA_COMPL.N (i : Nat) : Field := ⟨Addr.GA_COMPL i, 0, 32⟩
/-- Address of GA_CALS (R425). -/
def Addr.GA_CALS (i : Nat) : Nat := 0x800038 + 0x4000 * i
/-- R425. -/
def GA_CALS.N (i : Nat) : Field := ⟨Addr.GA_CALS i, 0, 32⟩
/-- Address of GA_LOST (R425). -/
def Addr.GA_LOST (i : Nat) : Nat := 0x80003C + 0x4000 * i
/-- R425. -/
def GA_LOST.N (i : Nat) : Field := ⟨Addr.GA_LOST i, 0, 32⟩
/-- Address of GA_IN_A (R426). -/
def Addr.GA_IN_A (i : Nat) (j : Nat) : Nat := 0x800400 + 0x4000 * i + 0x20 * j
/-- R426. -/
def GA_IN_A.EN (i : Nat) (j : Nat) : Field := ⟨Addr.GA_IN_A i j, 0, 1⟩
/-- R426. -/
def GA_IN_A.POS (i : Nat) (j : Nat) : Field := ⟨Addr.GA_IN_A i j, 1, 4⟩
/-- R426. -/
def GA_IN_A.NEG (i : Nat) (j : Nat) : Field := ⟨Addr.GA_IN_A i j, 5, 5⟩
/-- R426. -/
def GA_IN_A.RANGE (i : Nat) (j : Nat) : Field := ⟨Addr.GA_IN_A i j, 10, 2⟩
/-- R426. -/
def GA_IN_A.CURVE (i : Nat) (j : Nat) : Field := ⟨Addr.GA_IN_A i j, 12, 4⟩
/-- R426. -/
def GA_IN_A.COEF (i : Nat) (j : Nat) : Field := ⟨Addr.GA_IN_A i j, 16, 5⟩
/-- R426. -/
def GA_IN_A.URGENT (i : Nat) (j : Nat) : Field := ⟨Addr.GA_IN_A i j, 21, 1⟩
/-- R426. -/
def GA_IN_A.OW (i : Nat) (j : Nat) : Field := ⟨Addr.GA_IN_A i j, 22, 1⟩
/-- R426. -/
def GA_IN_A.AVG (i : Nat) (j : Nat) : Field := ⟨Addr.GA_IN_A i j, 23, 3⟩
/-- R426. -/
def GA_IN_A.CJ (i : Nat) (j : Nat) : Field := ⟨Addr.GA_IN_A i j, 26, 5⟩
/-- Address of GA_IN_B (R426). -/
def Addr.GA_IN_B (i : Nat) (j : Nat) : Nat := 0x800404 + 0x4000 * i + 0x20 * j
/-- R426. -/
def GA_IN_B.SRC (i : Nat) (j : Nat) : Field := ⟨Addr.GA_IN_B i j, 0, 4⟩
/-- R426. -/
def GA_IN_B.EXC_PIN (i : Nat) (j : Nat) : Field := ⟨Addr.GA_IN_B i j, 4, 4⟩
/-- R426. -/
def GA_IN_B.IEXC (i : Nat) (j : Nat) : Field := ⟨Addr.GA_IN_B i j, 8, 3⟩
/-- R426. -/
def GA_IN_B.SRC2 (i : Nat) (j : Nat) : Field := ⟨Addr.GA_IN_B i j, 11, 4⟩
/-- R426. -/
def GA_IN_B.EXC2_PIN (i : Nat) (j : Nat) : Field := ⟨Addr.GA_IN_B i j, 15, 4⟩
/-- R426. -/
def GA_IN_B.SETTLE (i : Nat) (j : Nat) : Field := ⟨Addr.GA_IN_B i j, 19, 7⟩
/-- R426. -/
def GA_IN_B.REFIN (i : Nat) (j : Nat) : Field := ⟨Addr.GA_IN_B i j, 26, 5⟩
/-- Address of GA_IN_P (R426). -/
def Addr.GA_IN_P (i : Nat) (j : Nat) : Nat := 0x800408 + 0x4000 * i + 0x20 * j
/-- R426. -/
def GA_IN_P.PERIOD (i : Nat) (j : Nat) : Field := ⟨Addr.GA_IN_P i j, 0, 24⟩
/-- Address of GA_IN_LO (R426). -/
def Addr.GA_IN_LO (i : Nat) (j : Nat) : Nat := 0x80040C + 0x4000 * i + 0x20 * j
/-- R426. -/
def GA_IN_LO.V (i : Nat) (j : Nat) : Field := ⟨Addr.GA_IN_LO i j, 0, 32⟩
/-- Address of GA_IN_HI (R426). -/
def Addr.GA_IN_HI (i : Nat) (j : Nat) : Nat := 0x800410 + 0x4000 * i + 0x20 * j
/-- R426. -/
def GA_IN_HI.V (i : Nat) (j : Nat) : Field := ⟨Addr.GA_IN_HI i j, 0, 32⟩
/-- Address of GA_IN_STAT (R426). -/
def Addr.GA_IN_STAT (i : Nat) (j : Nat) : Nat := 0x800414 + 0x4000 * i + 0x20 * j
/-- R426. -/
def GA_IN_STAT.OPEN (i : Nat) (j : Nat) : Field := ⟨Addr.GA_IN_STAT i j, 0, 1⟩
/-- R426. -/
def GA_IN_STAT.ALARM_LO (i : Nat) (j : Nat) : Field := ⟨Addr.GA_IN_STAT i j, 1, 1⟩
/-- R426. -/
def GA_IN_STAT.ALARM_HI (i : Nat) (j : Nat) : Field := ⟨Addr.GA_IN_STAT i j, 2, 1⟩
/-- R426. -/
def GA_IN_STAT.EXC_FAULT (i : Nat) (j : Nat) : Field := ⟨Addr.GA_IN_STAT i j, 3, 1⟩
/-- R426. -/
def GA_IN_STAT.IEXC_NOW (i : Nat) (j : Nat) : Field := ⟨Addr.GA_IN_STAT i j, 4, 3⟩
/-- R426. -/
def GA_IN_STAT.STEPPED (i : Nat) (j : Nat) : Field := ⟨Addr.GA_IN_STAT i j, 7, 1⟩
/-- Address of GA_IN_LAST (R426). -/
def Addr.GA_IN_LAST (i : Nat) (j : Nat) : Nat := 0x800418 + 0x4000 * i + 0x20 * j
/-- R426. -/
def GA_IN_LAST.VALUE (i : Nat) (j : Nat) : Field := ⟨Addr.GA_IN_LAST i j, 0, 32⟩
/-- Address of GA_IN_RAW (R426). -/
def Addr.GA_IN_RAW (i : Nat) (j : Nat) : Nat := 0x80041C + 0x4000 * i + 0x20 * j
/-- R426. -/
def GA_IN_RAW.V (i : Nat) (j : Nat) : Field := ⟨Addr.GA_IN_RAW i j, 0, 32⟩
/-- Address of GA_COEF (R427). -/
def Addr.GA_COEF (i : Nat) (j : Nat) : Nat := 0x800800 + 0x4000 * i + 0x4 * j
/-- R427. -/
def GA_COEF.Ci (i : Nat) (j : Nat) : Field := ⟨Addr.GA_COEF i j, 0, 32⟩
/-- Address of GA_SRC_CAL (R427). -/
def Addr.GA_SRC_CAL (i : Nat) (j : Nat) : Nat := 0x800C00 + 0x4000 * i + 0x4 * j
/-- R427. -/
def GA_SRC_CAL.PA (i : Nat) (j : Nat) : Field := ⟨Addr.GA_SRC_CAL i j, 0, 32⟩
/-- Address of MG_STAT (R507). -/
def Addr.MG_STAT : Nat := 0x900000
/-- R507. -/
def MG_STAT.MCN_ALIVE : Field := ⟨Addr.MG_STAT, 0, 1⟩
/-- R507. -/
def MG_STAT.MCS_ALIVE : Field := ⟨Addr.MG_STAT, 1, 1⟩
/-- R507. -/
def MG_STAT.TENURE : Field := ⟨Addr.MG_STAT, 2, 2⟩
/-- Address of MG_EVT (R507). -/
def Addr.MG_EVT : Nat := 0x900004
/-- R507. -/
def MG_EVT.TAKEOVER : Field := ⟨Addr.MG_EVT, 0, 1⟩
/-- R507. -/
def MG_EVT.HANDOVER : Field := ⟨Addr.MG_EVT, 1, 1⟩
/-- R507. -/
def MG_EVT.DISPUTE : Field := ⟨Addr.MG_EVT, 2, 1⟩
/-- R507. -/
def MG_EVT.SATURATED : Field := ⟨Addr.MG_EVT, 3, 1⟩
/-- R507. -/
def MG_EVT.WATCHDOG : Field := ⟨Addr.MG_EVT, 4, 1⟩
/-- R507. -/
def MG_EVT.FATAL : Field := ⟨Addr.MG_EVT, 5, 1⟩
/-- R507. -/
def MG_EVT.PATCH_FAIL : Field := ⟨Addr.MG_EVT, 6, 1⟩
/-- R507. -/
def MG_EVT.REQ_WITHDRAWN : Field := ⟨Addr.MG_EVT, 7, 1⟩
/-- R507. -/
def MG_EVT.GATED : Field := ⟨Addr.MG_EVT, 8, 1⟩
/-- Address of TN_LATCH (R507). -/
def Addr.TN_LATCH : Nat := 0x900008
/-- R507. -/
def TN_LATCH.COPIES : Field := ⟨Addr.TN_LATCH, 0, 6⟩
/-- Address of TN_CTRL (R507). -/
def Addr.TN_CTRL : Nat := 0x90000C
/-- R507. -/
def TN_CTRL.REQ : Field := ⟨Addr.TN_CTRL, 0, 1⟩
/-- R507. -/
def TN_CTRL.GRANT : Field := ⟨Addr.TN_CTRL, 1, 1⟩
/-- Address of MG_GATED (R507). -/
def Addr.MG_GATED : Nat := 0x900024
/-- R507. -/
def MG_GATED.N : Field := ⟨Addr.MG_GATED, 0, 32⟩
/-- Address of MG_SAT (R507). -/
def Addr.MG_SAT : Nat := 0x900028
/-- R507. -/
def MG_SAT.LIMIT : Field := ⟨Addr.MG_SAT, 0, 8⟩
/-- Address of MG_ROMVER (R507). -/
def Addr.MG_ROMVER : Nat := 0x90002C
/-- R507. -/
def MG_ROMVER.V : Field := ⟨Addr.MG_ROMVER, 0, 16⟩
/-- Address of MG_PATCH_A (R507). -/
def Addr.MG_PATCH_A : Nat := 0x900038
/-- R507. -/
def MG_PATCH_A.A : Field := ⟨Addr.MG_PATCH_A, 0, 15⟩
/-- R507. -/
def MG_PATCH_A.CORE : Field := ⟨Addr.MG_PATCH_A, 31, 1⟩
/-- Address of MG_PATCH_D (R507). -/
def Addr.MG_PATCH_D : Nat := 0x90003C
/-- R507. -/
def MG_PATCH_D.D : Field := ⟨Addr.MG_PATCH_D, 0, 32⟩
/-- Address of MG_PATCH_CTRL (R507). -/
def Addr.MG_PATCH_CTRL : Nat := 0x900040
/-- R507. -/
def MG_PATCH_CTRL.APPLY : Field := ⟨Addr.MG_PATCH_CTRL, 0, 1⟩
/-- R507. -/
def MG_PATCH_CTRL.TGT : Field := ⟨Addr.MG_PATCH_CTRL, 1, 1⟩
/-- Address of MG_FATAL (R507). -/
def Addr.MG_FATAL : Nat := 0x900044
/-- R507. -/
def MG_FATAL.CAUSE : Field := ⟨Addr.MG_FATAL, 0, 8⟩
/-- R507. -/
def MG_FATAL.IMMEDIATE : Field := ⟨Addr.MG_FATAL, 8, 1⟩
/-- Address of MG_FATAL_UNIT (R507). -/
def Addr.MG_FATAL_UNIT : Nat := 0x900048
/-- R507. -/
def MG_FATAL_UNIT.ID : Field := ⟨Addr.MG_FATAL_UNIT, 0, 32⟩
/-- Address of MG_DUMP (R507). -/
def Addr.MG_DUMP : Nat := 0x90004C
/-- R507. -/
def MG_DUMP.Q : Field := ⟨Addr.MG_DUMP, 0, 14⟩
/-- Address of MG_DUMP_STAT (R507). -/
def Addr.MG_DUMP_STAT : Nat := 0x900050
/-- R507. -/
def MG_DUMP_STAT.BUSY : Field := ⟨Addr.MG_DUMP_STAT, 0, 1⟩
/-- R507. -/
def MG_DUMP_STAT.HELD : Field := ⟨Addr.MG_DUMP_STAT, 1, 1⟩
/-- R507. -/
def MG_DUMP_STAT.NO : Field := ⟨Addr.MG_DUMP_STAT, 16, 16⟩
/-- Address of LG_POLICY (R507). -/
def Addr.LG_POLICY : Nat := 0x900100
/-- R507. -/
def LG_POLICY.INTERVAL : Field := ⟨Addr.LG_POLICY, 0, 12⟩
/-- Address of LG_STAT (R507). -/
def Addr.LG_STAT : Nat := 0x900104
/-- R507. -/
def LG_STAT.VALID : Field := ⟨Addr.LG_STAT, 0, 1⟩
/-- R507. -/
def LG_STAT.LOST : Field := ⟨Addr.LG_STAT, 1, 1⟩
/-- R507. -/
def LG_STAT.STRETCHED : Field := ⟨Addr.LG_STAT, 2, 1⟩
/-- R507. -/
def LG_STAT.WRITING : Field := ⟨Addr.LG_STAT, 3, 1⟩
/-- R507. -/
def LG_STAT.PFAIL_HOLD : Field := ⟨Addr.LG_STAT, 4, 1⟩
/-- R507. -/
def LG_STAT.EPOCH_UNSURE : Field := ⟨Addr.LG_STAT, 5, 1⟩
/-- Address of LG_HEAD (R507). -/
def Addr.LG_HEAD : Nat := 0x900108
/-- R507. -/
def LG_HEAD.LINE : Field := ⟨Addr.LG_HEAD, 0, 14⟩
/-- Address of LG_LSEQ (R507). -/
def Addr.LG_LSEQ : Nat := 0x90010C
/-- R507. -/
def LG_LSEQ.N : Field := ⟨Addr.LG_LSEQ, 0, 32⟩
/-- Address of LG_EVT_SUPP (R507). -/
def Addr.LG_EVT_SUPP : Nat := 0x900110
/-- R507. -/
def LG_EVT_SUPP.N : Field := ⟨Addr.LG_EVT_SUPP, 0, 32⟩
/-- Address of LG_COMMITS (R507). -/
def Addr.LG_COMMITS : Nat := 0x900114
/-- R507. -/
def LG_COMMITS.N : Field := ⟨Addr.LG_COMMITS, 0, 32⟩
/-- Address of LG_CNT_SEL (R507). -/
def Addr.LG_CNT_SEL : Nat := 0x900118
/-- R507. -/
def LG_CNT_SEL.ID : Field := ⟨Addr.LG_CNT_SEL, 0, 16⟩
/-- Address of LG_CNT_LO (R507). -/
def Addr.LG_CNT_LO : Nat := 0x90011C
/-- R507. -/
def LG_CNT_LO.V : Field := ⟨Addr.LG_CNT_LO, 0, 32⟩
/-- Address of LG_CNT_HI (R507). -/
def Addr.LG_CNT_HI : Nat := 0x900120
/-- R507. -/
def LG_CNT_HI.V : Field := ⟨Addr.LG_CNT_HI, 0, 16⟩
/-- Address of LG_CAL (R507). -/
def Addr.LG_CAL : Nat := 0x900124
/-- R507. -/
def LG_CAL.VALID : Field := ⟨Addr.LG_CAL, 0, 1⟩
/-- Address of MG_DEFER (R507). -/
def Addr.MG_DEFER (i : Nat) : Nat := 0x900010 + 0x4 * i
/-- R507. -/
def MG_DEFER.N (i : Nat) : Field := ⟨Addr.MG_DEFER i, 0, 32⟩
/-- Address of MG_PATCH (R507). -/
def Addr.MG_PATCH (i : Nat) : Nat := 0x900030 + 0x4 * i
/-- R507. -/
def MG_PATCH.HOOKS (i : Nat) : Field := ⟨Addr.MG_PATCH i, 0, 7⟩
/-- R507. -/
def MG_PATCH.OFF (i : Nat) : Field := ⟨Addr.MG_PATCH i, 7, 1⟩
/-- Address of MT_SCHED_A (R508). -/
def Addr.MT_SCHED_A (i : Nat) : Nat := 0x904000 + 0x8 * i
/-- R508. -/
def MT_SCHED_A.CODE (i : Nat) : Field := ⟨Addr.MT_SCHED_A i, 0, 4⟩
/-- R508. -/
def MT_SCHED_A.EN (i : Nat) : Field := ⟨Addr.MT_SCHED_A i, 4, 1⟩
/-- R508. -/
def MT_SCHED_A.PERIOD (i : Nat) : Field := ⟨Addr.MT_SCHED_A i, 8, 24⟩
/-- Address of MT_SCHED_B (R508). -/
def Addr.MT_SCHED_B (i : Nat) : Nat := 0x904004 + 0x8 * i
/-- R508. -/
def MT_SCHED_B.ARG (i : Nat) : Field := ⟨Addr.MT_SCHED_B i, 0, 32⟩
/-- Address of MT_REG (R508). -/
def Addr.MT_REG (i : Nat) : Nat := 0x904100 + 0x10 * i
/-- R508. -/
def MT_REG.ID (i : Nat) : Field := ⟨Addr.MT_REG i, 0, 16⟩
/-- R508. -/
def MT_REG.STATE (i : Nat) : Field := ⟨Addr.MT_REG i, 16, 2⟩
/-- Address of MT_REG_RES0 (R508). -/
def Addr.MT_REG_RES0 (i : Nat) : Nat := 0x904104 + 0x10 * i
/-- R508. -/
def MT_REG_RES0.RES0 (i : Nat) : Field := ⟨Addr.MT_REG_RES0 i, 0, 32⟩
/-- Address of MT_REG_RES1 (R508). -/
def Addr.MT_REG_RES1 (i : Nat) : Nat := 0x904108 + 0x10 * i
/-- R508. -/
def MT_REG_RES1.RES1 (i : Nat) : Field := ⟨Addr.MT_REG_RES1 i, 0, 32⟩
/-- Address of MT_REG_COURSE (R508). -/
def Addr.MT_REG_COURSE (i : Nat) : Nat := 0x90410C + 0x10 * i
/-- R508. -/
def MT_REG_COURSE.COURSE (i : Nat) : Field := ⟨Addr.MT_REG_COURSE i, 0, 32⟩
/-- Address of MT_STAT (R508). -/
def Addr.MT_STAT : Nat := 0x904200
/-- R508. -/
def MT_STAT.USED : Field := ⟨Addr.MT_STAT, 0, 5⟩
/-- Address of MT_EVT (R508). -/
def Addr.MT_EVT : Nat := 0x904204
/-- R508. -/
def MT_EVT.REFUSED : Field := ⟨Addr.MT_EVT, 0, 1⟩
/-- R508. -/
def MT_EVT.ABORTED : Field := ⟨Addr.MT_EVT, 1, 1⟩
/-- R508. -/
def MT_EVT.SKIPPED : Field := ⟨Addr.MT_EVT, 2, 1⟩
/-- Address of MT_STARTED (R508). -/
def Addr.MT_STARTED : Nat := 0x904208
/-- R508. -/
def MT_STARTED.N : Field := ⟨Addr.MT_STARTED, 0, 32⟩
/-- Address of MT_REFUSED (R508). -/
def Addr.MT_REFUSED : Nat := 0x90420C
/-- R508. -/
def MT_REFUSED.N : Field := ⟨Addr.MT_REFUSED, 0, 32⟩
/-- Address of MT_ABORTED (R508). -/
def Addr.MT_ABORTED : Nat := 0x904210
/-- R508. -/
def MT_ABORTED.N : Field := ⟨Addr.MT_ABORTED, 0, 32⟩
/-- Address of MT_SKIPPED (R508). -/
def Addr.MT_SKIPPED : Nat := 0x904214
/-- R508. -/
def MT_SKIPPED.N : Field := ⟨Addr.MT_SKIPPED, 0, 32⟩

/-- Registers of the global block, part 0 (R525). -/
def regTable.global0 : List RegRow := [
  ⟨0x0, [], [⟨0, 4, .ro⟩, ⟨4, 4, .ro⟩, ⟨8, 8, .ro⟩, ⟨16, 16, .ro⟩]⟩,
  ⟨0x4, [], [⟨0, 16, .ro⟩]⟩,
  ⟨0x8, [], [⟨0, 1, .rw⟩]⟩,
  ⟨0xC, [], [⟨0, 3, .ro⟩, ⟨3, 1, .ro⟩, ⟨4, 4, .ro⟩, ⟨16, 16, .ro⟩]⟩,
  ⟨0x10, [], [⟨0, 4, .ro⟩, ⟨4, 1, .ro⟩]⟩,
  ⟨0x14, [], [⟨0, 32, .ro⟩]⟩,
  ⟨0x18, [], [⟨0, 8, .ro⟩, ⟨8, 8, .ro⟩]⟩,
  ⟨0x1C, [], [⟨0, 32, .ro⟩]⟩,
  ⟨0x20, [], [⟨0, 8, .ro⟩, ⟨8, 8, .ro⟩]⟩,
  ⟨0x24, [], [⟨0, 8, .ro⟩, ⟨8, 1, .ro⟩, ⟨9, 1, .ro⟩]⟩,
  ⟨0x28, [], [⟨0, 8, .ro⟩, ⟨8, 16, .ro⟩, ⟨31, 1, .w1c⟩]⟩,
  ⟨0x2C, [], [⟨0, 24, .ro⟩, ⟨24, 8, .ro⟩]⟩,
  ⟨0x30, [], [⟨0, 32, .rc⟩]⟩,
  ⟨0x34, [], [⟨0, 1, .ro⟩, ⟨1, 1, .ro⟩, ⟨2, 1, .ro⟩, ⟨3, 1, .ro⟩, ⟨4, 1, .ro⟩, ⟨5, 1, .ro⟩, ⟨6, 1, .ro⟩, ⟨7, 1, .ro⟩, ⟨8, 1, .ro⟩, ⟨9, 1, .ro⟩, ⟨10, 1, .ro⟩, ⟨11, 1, .ro⟩, ⟨12, 1, .ro⟩, ⟨13, 1, .ro⟩, ⟨14, 1, .ro⟩, ⟨15, 1, .ro⟩]⟩,
  ⟨0x38, [], [⟨0, 4, .rw⟩]⟩,
  ⟨0x3C, [], [⟨0, 2, .ro⟩, ⟨2, 2, .ro⟩, ⟨4, 1, .ro⟩, ⟨5, 2, .ro⟩, ⟨7, 5, .ro⟩, ⟨12, 1, .w1c⟩]⟩,
  ⟨0x40, [], [⟨0, 1, .ro⟩, ⟨1, 1, .ro⟩, ⟨2, 1, .ro⟩, ⟨3, 1, .ro⟩, ⟨16, 16, .ro⟩]⟩,
  ⟨0x44, [], [⟨0, 14, .rwt⟩]⟩,
  ⟨0x48, [], [⟨0, 32, .ro⟩]⟩,
  ⟨0x4C, [], [⟨0, 5, .ro⟩, ⟨5, 3, .ro⟩, ⟨8, 1, .ro⟩, ⟨9, 2, .ro⟩, ⟨16, 16, .ro⟩]⟩]

/-- Registers of the global block, part 1 (R525). -/
def regTable.global1 : List RegRow := [
  ⟨0x50, [], [⟨0, 32, .ro⟩]⟩,
  ⟨0x54, [], [⟨0, 8, .ro⟩, ⟨8, 2, .ro⟩, ⟨10, 1, .ro⟩]⟩,
  ⟨0x58, [], [⟨0, 32, .rc⟩]⟩,
  ⟨0xB4, [], [⟨0, 32, .ro⟩]⟩,
  ⟨0xB8, [], [⟨0, 32, .ro⟩]⟩,
  ⟨0xBC, [], [⟨0, 16, .ro⟩, ⟨16, 8, .ro⟩, ⟨24, 1, .ro⟩, ⟨25, 2, .ro⟩, ⟨27, 2, .ro⟩]⟩,
  ⟨0x60, [(0x4, 16)], [⟨0, 32, .ro⟩]⟩,
  ⟨0xA0, [(0x4, 3)], [⟨0, 32, .ro⟩]⟩,
  ⟨0xAC, [(0x4, 2)], [⟨0, 32, .ro⟩]⟩]

/-- The global block (R509). -/
def block.global : Block := ⟨0x0, 0xFF, regTable.global0 ++ regTable.global1⟩

/-- Registers of the time block, part 0 (R525). -/
def regTable.time0 : List RegRow := [
  ⟨0x10000, [], [⟨0, 32, .ro⟩]⟩,
  ⟨0x10004, [], [⟨0, 32, .ro⟩]⟩,
  ⟨0x10008, [], [⟨0, 16, .ro⟩, ⟨16, 16, .ro⟩]⟩,
  ⟨0x1000C, [], [⟨0, 32, .ro⟩]⟩,
  ⟨0x10010, [], [⟨0, 2, .rwl⟩, ⟨2, 3, .rwl⟩, ⟨5, 1, .rwl⟩, ⟨6, 1, .rwl⟩]⟩,
  ⟨0x10014, [], [⟨0, 10, .rwt⟩, ⟨10, 12, .rwt⟩]⟩,
  ⟨0x10018, [], [⟨0, 12, .rwt⟩]⟩,
  ⟨0x1001C, [], [⟨0, 16, .rwt⟩]⟩,
  ⟨0x10020, [], [⟨0, 32, .ro⟩]⟩,
  ⟨0x10024, [], [⟨0, 32, .ro⟩]⟩,
  ⟨0x10028, [], [⟨0, 16, .rwt⟩]⟩,
  ⟨0x1002C, [], [⟨0, 10, .rwt⟩]⟩,
  ⟨0x10030, [], [⟨0, 32, .ro⟩]⟩,
  ⟨0x10034, [], [⟨0, 1, .ro⟩, ⟨1, 1, .ro⟩, ⟨2, 1, .ro⟩, ⟨3, 1, .ro⟩, ⟨4, 1, .ro⟩, ⟨5, 1, .ro⟩, ⟨6, 1, .ro⟩]⟩,
  ⟨0x10038, [], [⟨0, 1, .w1c⟩, ⟨1, 1, .w1c⟩, ⟨2, 1, .w1c⟩, ⟨3, 1, .w1c⟩, ⟨4, 1, .w1c⟩, ⟨5, 1, .w1c⟩, ⟨6, 1, .w1c⟩, ⟨7, 1, .w1c⟩, ⟨8, 1, .w1c⟩]⟩,
  ⟨0x1003C, [], [⟨0, 16, .rc⟩, ⟨16, 16, .rc⟩]⟩,
  ⟨0x10040, [], [⟨0, 16, .rc⟩, ⟨16, 16, .rc⟩]⟩,
  ⟨0x10044, [], [⟨0, 32, .ro⟩]⟩,
  ⟨0x10048, [], [⟨0, 32, .ro⟩]⟩]

/-- The time block (R509). -/
def block.time : Block := ⟨0x10000, 0x100FF, regTable.time0⟩

/-- Registers of the timing block, part 0 (R525). -/
def regTable.timing0 : List RegRow := [
  ⟨0x20000, [(0x100, 96)], [⟨0, 1, .rw⟩, ⟨1, 2, .rwt⟩, ⟨3, 1, .rwt⟩, ⟨4, 2, .rwt⟩, ⟨6, 4, .rwt⟩, ⟨10, 1, .rwt⟩, ⟨11, 1, .rwt⟩, ⟨12, 1, .rwt⟩, ⟨13, 1, .rwt⟩, ⟨14, 2, .rwt⟩, ⟨16, 2, .rwt⟩]⟩,
  ⟨0x20004, [(0x100, 96)], [⟨0, 10, .rwt⟩, ⟨16, 6, .rwt⟩]⟩,
  ⟨0x20008, [(0x100, 96)], [⟨0, 7, .rwt⟩]⟩,
  ⟨0x2000C, [(0x100, 96)], [⟨0, 16, .rwt⟩, ⟨16, 16, .rwt⟩]⟩,
  ⟨0x20010, [(0x100, 96)], [⟨0, 16, .rwt⟩]⟩,
  ⟨0x20014, [(0x100, 96)], [⟨0, 16, .rwt⟩]⟩,
  ⟨0x20018, [(0x100, 96)], [⟨0, 14, .rwt⟩, ⟨16, 4, .rwt⟩]⟩,
  ⟨0x2001C, [(0x100, 96)], [⟨0, 16, .rwt⟩]⟩,
  ⟨0x20020, [(0x100, 96)], [⟨0, 1, .ro⟩, ⟨1, 1, .ro⟩, ⟨2, 1, .ro⟩, ⟨3, 1, .ro⟩, ⟨4, 1, .ro⟩, ⟨5, 1, .ro⟩, ⟨6, 1, .ro⟩, ⟨7, 1, .ro⟩]⟩,
  ⟨0x20024, [(0x100, 96)], [⟨0, 1, .w1c⟩, ⟨1, 1, .w1c⟩, ⟨2, 1, .w1c⟩, ⟨3, 1, .w1c⟩]⟩,
  ⟨0x20028, [(0x100, 96)], [⟨0, 16, .ro⟩, ⟨16, 16, .ro⟩]⟩,
  ⟨0x2002C, [(0x100, 96)], [⟨0, 12, .ro⟩, ⟨16, 12, .ro⟩]⟩,
  ⟨0x20030, [(0x100, 96)], [⟨0, 12, .ro⟩, ⟨16, 12, .ro⟩]⟩,
  ⟨0x20034, [(0x100, 96)], [⟨0, 32, .rc⟩]⟩,
  ⟨0x20038, [(0x100, 96)], [⟨0, 32, .rc⟩]⟩,
  ⟨0x2003C, [(0x100, 96)], [⟨0, 32, .rc⟩]⟩,
  ⟨0x20040, [(0x100, 96)], [⟨0, 32, .rc⟩]⟩,
  ⟨0x20044, [(0x100, 96)], [⟨0, 32, .rc⟩]⟩,
  ⟨0x20048, [(0x100, 96)], [⟨0, 32, .rc⟩]⟩,
  ⟨0x2004C, [(0x100, 96)], [⟨0, 1, .wo⟩, ⟨1, 1, .wo⟩, ⟨4, 7, .rw⟩, ⟨12, 4, .rw⟩]⟩]

/-- Registers of the timing block, part 1 (R525). -/
def regTable.timing1 : List RegRow := [
  ⟨0x20050, [(0x100, 96)], [⟨0, 32, .ro⟩]⟩,
  ⟨0x20054, [(0x100, 96)], [⟨0, 32, .ro⟩]⟩,
  ⟨0x20058, [(0x100, 96)], [⟨0, 1, .ro⟩, ⟨1, 1, .ro⟩, ⟨2, 1, .ro⟩, ⟨3, 1, .ro⟩, ⟨16, 16, .ro⟩]⟩,
  ⟨0x26000, [(0x4, 12)], [⟨0, 6, .rwt⟩]⟩,
  ⟨0x26030, [], [⟨0, 12, .ro⟩]⟩]

/-- The timing block (R509). -/
def block.timing : Block := ⟨0x20000, 0x260FF, regTable.timing0 ++ regTable.timing1⟩

/-- Registers of the ports block, part 0 (R525). -/
def regTable.ports0 : List RegRow := [
  ⟨0x100000, [(0x100, 512)], [⟨0, 1, .rw⟩, ⟨1, 1, .rwl⟩, ⟨2, 2, .rwl⟩, ⟨4, 1, .rwl⟩, ⟨5, 1, .rwl⟩, ⟨6, 1, .rwt⟩]⟩,
  ⟨0x100004, [(0x100, 512)], [⟨0, 32, .rwt⟩]⟩,
  ⟨0x100008, [(0x100, 512)], [⟨0, 32, .rwt⟩]⟩,
  ⟨0x10000C, [(0x100, 512)], [⟨0, 10, .rwt⟩, ⟨16, 10, .rwt⟩]⟩,
  ⟨0x100010, [(0x100, 512)], [⟨0, 14, .rwt⟩, ⟨16, 5, .rwt⟩]⟩,
  ⟨0x100014, [(0x100, 512)], [⟨0, 16, .rwt⟩, ⟨16, 16, .rwt⟩]⟩,
  ⟨0x100018, [(0x100, 512)], [⟨0, 16, .rwt⟩]⟩,
  ⟨0x10001C, [(0x100, 512)], [⟨0, 16, .rwt⟩, ⟨16, 3, .rwt⟩]⟩,
  ⟨0x100020, [(0x100, 512)], [⟨0, 16, .rwt⟩]⟩,
  ⟨0x100024, [(0x100, 512)], [⟨0, 4, .ro⟩, ⟨4, 1, .ro⟩, ⟨5, 1, .ro⟩, ⟨6, 1, .ro⟩, ⟨7, 1, .ro⟩, ⟨8, 1, .ro⟩, ⟨9, 3, .ro⟩]⟩,
  ⟨0x100028, [(0x100, 512)], [⟨0, 1, .w1c⟩, ⟨1, 1, .w1c⟩, ⟨2, 1, .w1c⟩, ⟨3, 1, .w1c⟩, ⟨4, 1, .w1c⟩, ⟨5, 1, .w1c⟩, ⟨6, 1, .w1c⟩]⟩,
  ⟨0x10002C, [(0x100, 512)], [⟨0, 32, .ro⟩]⟩,
  ⟨0x100030, [(0x100, 512)], [⟨0, 32, .ro⟩]⟩,
  ⟨0x100034, [(0x100, 512)], [⟨0, 32, .rc⟩]⟩,
  ⟨0x100038, [(0x100, 512)], [⟨0, 32, .rc⟩]⟩,
  ⟨0x10003C, [(0x100, 512)], [⟨0, 32, .rc⟩]⟩,
  ⟨0x100040, [(0x100, 512)], [⟨0, 32, .rc⟩]⟩,
  ⟨0x100044, [(0x100, 512)], [⟨0, 32, .rc⟩]⟩,
  ⟨0x100048, [(0x100, 512)], [⟨0, 32, .rc⟩]⟩,
  ⟨0x10004C, [(0x100, 512)], [⟨0, 32, .rc⟩]⟩]

/-- Registers of the ports block, part 1 (R525). -/
def regTable.ports1 : List RegRow := [
  ⟨0x100050, [(0x100, 512)], [⟨0, 32, .rc⟩]⟩,
  ⟨0x100054, [(0x100, 512)], [⟨0, 32, .rc⟩]⟩,
  ⟨0x100058, [(0x100, 512)], [⟨0, 32, .rc⟩]⟩,
  ⟨0x10005C, [(0x100, 512)], [⟨0, 32, .rc⟩]⟩,
  ⟨0x100060, [(0x100, 512)], [⟨0, 32, .rc⟩]⟩,
  ⟨0x100064, [(0x100, 512)], [⟨0, 32, .rc⟩]⟩,
  ⟨0x100068, [(0x100, 512)], [⟨0, 32, .rc⟩]⟩,
  ⟨0x10006C, [(0x100, 512)], [⟨0, 1, .wo⟩, ⟨1, 1, .wo⟩, ⟨2, 1, .wo⟩, ⟨4, 2, .rw⟩, ⟨8, 5, .rw⟩]⟩,
  ⟨0x100070, [(0x100, 512)], [⟨0, 1, .ro⟩, ⟨1, 1, .ro⟩]⟩,
  ⟨0x100074, [(0x100, 512)], [⟨0, 32, .rc⟩]⟩,
  ⟨0x100078, [(0x100, 512)], [⟨0, 16, .ro⟩]⟩,
  ⟨0x10007C, [(0x100, 512)], [⟨0, 32, .rc⟩]⟩,
  ⟨0x100080, [(0x100, 512)], [⟨0, 2, .rwt⟩, ⟨2, 1, .rwt⟩, ⟨3, 1, .rwt⟩, ⟨4, 4, .rwt⟩, ⟨8, 5, .rwt⟩, ⟨16, 8, .rwt⟩]⟩,
  ⟨0x100084, [(0x100, 512)], [⟨0, 16, .rwt⟩, ⟨16, 16, .rwt⟩]⟩,
  ⟨0x100088, [(0x100, 512)], [⟨0, 16, .rwt⟩, ⟨16, 6, .rwt⟩]⟩,
  ⟨0x100090, [(0x100, 512)], [⟨0, 32, .rc⟩]⟩,
  ⟨0x100094, [(0x100, 512)], [⟨0, 32, .rc⟩]⟩,
  ⟨0x100098, [(0x100, 512)], [⟨0, 32, .rc⟩]⟩,
  ⟨0x10009C, [(0x100, 512)], [⟨0, 32, .rc⟩]⟩,
  ⟨0x1000A0, [(0x100, 512)], [⟨0, 32, .rc⟩]⟩]

/-- The ports block (R509). -/
def block.ports : Block := ⟨0x100000, 0x11FFFF, regTable.ports0 ++ regTable.ports1⟩

/-- Registers of the octets block, part 0 (R525). -/
def regTable.octets0 : List RegRow := [
  ⟨0x180000, [(0x40, 64)], [⟨0, 8, .ro⟩, ⟨8, 4, .ro⟩]⟩,
  ⟨0x180004, [(0x40, 64)], [⟨0, 32, .rc⟩]⟩]

/-- The octets block (R509). -/
def block.octets : Block := ⟨0x180000, 0x180FFF, regTable.octets0⟩

/-- Registers of the trig block, part 0 (R525). -/
def regTable.trig0 : List RegRow := [
  ⟨0x200000, [], [⟨0, 5, .rwt⟩, ⟨5, 1, .rwt⟩, ⟨8, 8, .rwt⟩, ⟨16, 16, .rwt⟩]⟩,
  ⟨0x200004, [], [⟨0, 10, .rwt⟩, ⟨16, 10, .rwt⟩]⟩,
  ⟨0x200008, [], [⟨0, 14, .rwt⟩, ⟨16, 14, .rwt⟩]⟩,
  ⟨0x200014, [], [⟨0, 1, .ro⟩, ⟨1, 1, .ro⟩]⟩,
  ⟨0x200018, [], [⟨0, 1, .w1c⟩, ⟨1, 1, .w1c⟩, ⟨2, 1, .w1c⟩, ⟨3, 1, .w1c⟩, ⟨4, 1, .w1c⟩]⟩,
  ⟨0x200020, [], [⟨0, 32, .rc⟩]⟩,
  ⟨0x200024, [], [⟨0, 32, .rc⟩]⟩,
  ⟨0x200028, [], [⟨0, 32, .rc⟩]⟩,
  ⟨0x20002C, [], [⟨0, 32, .rc⟩]⟩,
  ⟨0x200030, [], [⟨0, 32, .rc⟩]⟩,
  ⟨0x200034, [], [⟨0, 32, .rc⟩]⟩,
  ⟨0x200038, [], [⟨0, 32, .rc⟩]⟩,
  ⟨0x20003C, [], [⟨0, 32, .rc⟩]⟩,
  ⟨0x200040, [], [⟨0, 32, .rc⟩]⟩,
  ⟨0x200044, [], [⟨0, 32, .rc⟩]⟩,
  ⟨0x200048, [], [⟨0, 32, .rc⟩]⟩,
  ⟨0x20004C, [], [⟨0, 32, .rc⟩]⟩,
  ⟨0x200050, [], [⟨0, 32, .rc⟩]⟩,
  ⟨0x200100, [(0x4, 96)], [⟨0, 4, .rwt⟩, ⟨4, 6, .rwt⟩]⟩,
  ⟨0x200400, [(0x4, 128)], [⟨0, 4, .rwt⟩, ⟨4, 8, .rwt⟩, ⟨12, 20, .rwt⟩]⟩]

/-- Registers of the trig block, part 1 (R525). -/
def regTable.trig1 : List RegRow := [
  ⟨0x200600, [(0x20, 16)], [⟨0, 16, .rwt⟩, ⟨16, 8, .rwt⟩]⟩,
  ⟨0x200604, [(0x20, 16)], [⟨0, 20, .rwt⟩]⟩,
  ⟨0x200608, [(0x20, 16)], [⟨0, 16, .rwt⟩]⟩,
  ⟨0x20060C, [(0x20, 16)], [⟨0, 24, .rwt⟩]⟩,
  ⟨0x200610, [(0x20, 16)], [⟨0, 16, .rwt⟩]⟩,
  ⟨0x200614, [(0x20, 16)], [⟨0, 24, .rwt⟩]⟩,
  ⟨0x200618, [(0x20, 16)], [⟨0, 16, .rwt⟩]⟩,
  ⟨0x200800, [(0x40, 16)], [⟨0, 1, .rwt⟩, ⟨16, 16, .rwt⟩]⟩,
  ⟨0x200804, [(0x40, 16)], [⟨0, 16, .rwt⟩]⟩,
  ⟨0x200808, [(0x40, 16)], [⟨0, 16, .rwt⟩]⟩,
  ⟨0x20080C, [(0x40, 16)], [⟨0, 15, .rwl⟩, ⟨16, 16, .rwl⟩]⟩,
  ⟨0x200810, [(0x40, 16)], [⟨0, 15, .rwl⟩, ⟨16, 16, .rwl⟩]⟩,
  ⟨0x200814, [(0x40, 16)], [⟨0, 14, .rwt⟩, ⟨16, 14, .rwt⟩]⟩,
  ⟨0x200818, [(0x40, 16)], [⟨0, 1, .ro⟩, ⟨1, 1, .ro⟩, ⟨2, 1, .ro⟩]⟩,
  ⟨0x20081C, [(0x40, 16)], [⟨0, 32, .rc⟩]⟩]

/-- The trig block (R509). -/
def block.trig : Block := ⟨0x200000, 0x200BFF, regTable.trig0 ++ regTable.trig1⟩

/-- Registers of the thatch block, part 0 (R525). -/
def regTable.thatch0 : List RegRow := [
  ⟨0x300000, [(0x4, 12)], [⟨0, 10, .rwt⟩]⟩,
  ⟨0x300030, [(0x4, 12)], [⟨0, 10, .rwt⟩]⟩,
  ⟨0x300060, [], [⟨0, 16, .rwt⟩]⟩,
  ⟨0x300064, [], [⟨0, 12, .w1c⟩]⟩,
  ⟨0x300068, [], [⟨0, 12, .w1c⟩]⟩,
  ⟨0x30006C, [], [⟨0, 9, .ro⟩, ⟨12, 4, .ro⟩]⟩,
  ⟨0x300070, [], [⟨0, 8, .rwt⟩, ⟨16, 8, .rwt⟩]⟩,
  ⟨0x300080, [], [⟨0, 23, .rw⟩]⟩,
  ⟨0x300084, [], [⟨0, 23, .rw⟩]⟩,
  ⟨0x300088, [], [⟨0, 1, .wo⟩, ⟨1, 1, .wo⟩]⟩,
  ⟨0x30008C, [], [⟨0, 1, .ro⟩, ⟨1, 1, .ro⟩, ⟨2, 1, .ro⟩, ⟨3, 1, .ro⟩]⟩,
  ⟨0x300090, [], [⟨0, 32, .ro⟩]⟩,
  ⟨0x300094, [], [⟨0, 32, .ro⟩]⟩,
  ⟨0x300098, [], [⟨0, 32, .ro⟩]⟩,
  ⟨0x30009C, [], [⟨0, 32, .ro⟩]⟩,
  ⟨0x3000A0, [], [⟨0, 32, .ro⟩]⟩,
  ⟨0x3000C0, [], [⟨0, 16, .rwt⟩, ⟨16, 8, .rwt⟩, ⟨24, 1, .rwt⟩]⟩,
  ⟨0x3000C4, [], [⟨0, 9, .ro⟩, ⟨16, 9, .ro⟩, ⟨31, 1, .ro⟩]⟩,
  ⟨0x3000C8, [], [⟨0, 17, .ro⟩]⟩,
  ⟨0x3000CC, [], [⟨0, 9, .wo⟩, ⟨31, 1, .wo⟩]⟩]

/-- Registers of the thatch block, part 1 (R525). -/
def regTable.thatch1 : List RegRow := [
  ⟨0x3000F0, [], [⟨0, 1, .w1c⟩, ⟨1, 1, .w1c⟩, ⟨2, 1, .w1c⟩, ⟨3, 1, .w1c⟩, ⟨4, 1, .w1c⟩, ⟨5, 1, .w1c⟩, ⟨6, 1, .w1c⟩]⟩,
  ⟨0x3000F4, [], [⟨0, 32, .rc⟩]⟩,
  ⟨0x3000F8, [], [⟨0, 32, .rc⟩]⟩,
  ⟨0x3000FC, [], [⟨0, 16, .rc⟩, ⟨16, 16, .rc⟩]⟩,
  ⟨0x3000D0, [(0x4, 8)], [⟨0, 9, .ro⟩, ⟨31, 1, .ro⟩]⟩,
  ⟨0x301000, [(0x4, 264)], [⟨0, 16, .rc⟩, ⟨16, 8, .rc⟩]⟩,
  ⟨0x302000, [(0x8, 1024)], [⟨0, 15, .rwl⟩, ⟨15, 1, .rwl⟩]⟩,
  ⟨0x302004, [(0x8, 1024)], [⟨0, 16, .rwl⟩]⟩,
  ⟨0x304000, [(0x4, 1024)], [⟨0, 16, .ro⟩, ⟨16, 1, .ro⟩, ⟨17, 15, .ro⟩]⟩]

/-- The thatch block (R509). -/
def block.thatch : Block := ⟨0x300000, 0x304FFF, regTable.thatch0 ++ regTable.thatch1⟩

/-- Registers of the purlin block, part 0 (R525). -/
def regTable.purlin0 : List RegRow := [
  ⟨0x400000, [(0x800, 2)], [⟨0, 1, .ro⟩]⟩,
  ⟨0x400004, [(0x800, 2)], [⟨0, 1, .rwt⟩, ⟨4, 8, .rwt⟩, ⟨16, 6, .rwt⟩]⟩,
  ⟨0x400008, [(0x800, 2)], [⟨0, 16, .rwt⟩]⟩,
  ⟨0x40000C, [(0x800, 2)], [⟨0, 15, .rwl⟩, ⟨16, 16, .rwl⟩]⟩,
  ⟨0x400010, [(0x800, 2)], [⟨0, 1, .w1c⟩, ⟨1, 1, .w1c⟩, ⟨2, 1, .w1c⟩, ⟨3, 1, .w1c⟩, ⟨4, 1, .w1c⟩, ⟨5, 1, .w1c⟩]⟩,
  ⟨0x400014, [(0x800, 2)], [⟨0, 6, .ro⟩, ⟨8, 6, .ro⟩, ⟨16, 6, .ro⟩]⟩,
  ⟨0x400018, [(0x800, 2)], [⟨0, 8, .wo⟩]⟩,
  ⟨0x400020, [(0x800, 2)], [⟨0, 32, .rc⟩]⟩,
  ⟨0x400024, [(0x800, 2)], [⟨0, 32, .rc⟩]⟩,
  ⟨0x400028, [(0x800, 2)], [⟨0, 32, .rc⟩]⟩,
  ⟨0x40002C, [(0x800, 2)], [⟨0, 32, .rc⟩]⟩,
  ⟨0x400030, [(0x800, 2)], [⟨0, 32, .rc⟩]⟩,
  ⟨0x400034, [(0x800, 2)], [⟨0, 32, .rc⟩]⟩,
  ⟨0x400038, [(0x800, 2)], [⟨0, 32, .rc⟩]⟩,
  ⟨0x400040, [(0x800, 2), (0x4, 16)], [⟨0, 32, .rwt⟩]⟩,
  ⟨0x400400, [(0x800, 2), (0x4, 256)], [⟨0, 8, .ro⟩]⟩,
  ⟨0x401000, [(0x20, 64)], [⟨0, 32, .rc⟩]⟩,
  ⟨0x401004, [(0x20, 64)], [⟨0, 32, .rc⟩]⟩,
  ⟨0x401008, [(0x20, 64)], [⟨0, 32, .rc⟩]⟩,
  ⟨0x40100C, [(0x20, 64)], [⟨0, 32, .rc⟩]⟩]

/-- Registers of the purlin block, part 1 (R525). -/
def regTable.purlin1 : List RegRow := [
  ⟨0x401010, [(0x20, 64)], [⟨0, 16, .rc⟩]⟩,
  ⟨0x401014, [(0x20, 64)], [⟨0, 32, .rc⟩]⟩,
  ⟨0x402000, [(0x4, 256)], [⟨0, 1, .rw⟩]⟩]

/-- The purlin block (R509). -/
def block.purlin : Block := ⟨0x400000, 0x4023FF, regTable.purlin0 ++ regTable.purlin1⟩

/-- Registers of the queue block, part 0 (R525). -/
def regTable.queue0 : List RegRow := [
  ⟨0x440000, [(0x10, 16384)], [⟨0, 2, .rwt⟩, ⟨2, 1, .rwt⟩, ⟨3, 1, .rwl⟩, ⟨4, 1, .rwt⟩, ⟨5, 1, .rwl⟩, ⟨6, 1, .rwl⟩, ⟨7, 4, .rwt⟩, ⟨11, 3, .rwt⟩, ⟨14, 3, .rwt⟩, ⟨17, 8, .rwt⟩, ⟨25, 6, .rwt⟩]⟩,
  ⟨0x440004, [(0x10, 16384)], [⟨0, 12, .rwl⟩, ⟨16, 16, .rwt⟩]⟩,
  ⟨0x440008, [(0x10, 16384)], [⟨0, 14, .rwl⟩, ⟨14, 6, .rwl⟩, ⟨20, 3, .rwl⟩]⟩,
  ⟨0x44000C, [(0x10, 16384)], [⟨0, 3, .ro⟩, ⟨4, 12, .ro⟩, ⟨16, 12, .rc⟩, ⟨28, 1, .ro⟩, ⟨29, 1, .ro⟩]⟩]

/-- The queue block (R509). -/
def block.queue : Block := ⟨0x440000, 0x47FFFF, regTable.queue0⟩

/-- Registers of the cores block, part 0 (R525). -/
def regTable.cores0 : List RegRow := [
  ⟨0x500000, [(0x1000, 64)], [⟨0, 1, .rw⟩, ⟨1, 4, .rwl⟩, ⟨5, 1, .rwl⟩]⟩,
  ⟨0x500004, [(0x1000, 64)], [⟨0, 3, .ro⟩, ⟨3, 1, .ro⟩, ⟨4, 1, .ro⟩, ⟨5, 1, .ro⟩, ⟨6, 1, .ro⟩, ⟨7, 1, .ro⟩, ⟨8, 8, .ro⟩, ⟨16, 4, .ro⟩]⟩,
  ⟨0x500008, [(0x1000, 64)], [⟨0, 32, .ro⟩]⟩,
  ⟨0x50000C, [(0x1000, 64)], [⟨0, 14, .ro⟩, ⟨14, 1, .ro⟩, ⟨15, 1, .ro⟩]⟩,
  ⟨0x500010, [(0x1000, 64)], [⟨0, 32, .ro⟩]⟩,
  ⟨0x500014, [(0x1000, 64)], [⟨0, 1, .w1c⟩, ⟨1, 1, .w1c⟩, ⟨2, 1, .w1c⟩, ⟨3, 1, .w1c⟩, ⟨4, 1, .w1c⟩, ⟨5, 1, .w1c⟩, ⟨6, 1, .w1c⟩, ⟨7, 1, .w1c⟩]⟩,
  ⟨0x500020, [(0x1000, 64)], [⟨0, 32, .rc⟩]⟩,
  ⟨0x500024, [(0x1000, 64)], [⟨0, 32, .rc⟩]⟩,
  ⟨0x500028, [(0x1000, 64)], [⟨0, 32, .rc⟩]⟩,
  ⟨0x50002C, [(0x1000, 64)], [⟨0, 32, .rc⟩]⟩,
  ⟨0x500030, [(0x1000, 64)], [⟨0, 32, .rc⟩]⟩,
  ⟨0x500034, [(0x1000, 64)], [⟨0, 32, .rc⟩]⟩,
  ⟨0x500038, [(0x1000, 64)], [⟨0, 32, .rc⟩]⟩,
  ⟨0x50003C, [(0x1000, 64)], [⟨0, 32, .rc⟩]⟩,
  ⟨0x500100, [(0x1000, 64)], [⟨0, 1, .wo⟩, ⟨1, 1, .wo⟩, ⟨2, 1, .wo⟩, ⟨3, 1, .wo⟩]⟩,
  ⟨0x500104, [(0x1000, 64)], [⟨0, 1, .ro⟩, ⟨1, 1, .ro⟩, ⟨2, 2, .ro⟩, ⟨4, 2, .ro⟩, ⟨6, 1, .ro⟩, ⟨8, 2, .ro⟩]⟩,
  ⟨0x500108, [(0x1000, 64)], [⟨0, 12, .rw⟩, ⟨12, 1, .rw⟩, ⟨13, 1, .rw⟩, ⟨16, 1, .wo⟩]⟩,
  ⟨0x50010C, [(0x1000, 64)], [⟨0, 32, .rw⟩]⟩,
  ⟨0x500200, [(0x1000, 64)], [⟨0, 17, .rw⟩]⟩,
  ⟨0x500204, [(0x1000, 64)], [⟨0, 32, .rw⟩]⟩]

/-- Registers of the cores block, part 1 (R525). -/
def regTable.cores1 : List RegRow := [
  ⟨0x500120, [(0x1000, 64), (0x8, 4)], [⟨0, 32, .rw⟩]⟩,
  ⟨0x500124, [(0x1000, 64), (0x8, 4)], [⟨0, 1, .rw⟩, ⟨1, 2, .rw⟩]⟩]

/-- The cores block (R509). -/
def block.cores : Block := ⟨0x500000, 0x53FFFF, regTable.cores0 ++ regTable.cores1⟩

/-- Registers of the shared block, part 0 (R525). -/
def regTable.shared0 : List RegRow := [
  ⟨0x540000, [(0x4, 8)], [⟨0, 15, .rwl⟩, ⟨16, 15, .rwl⟩]⟩,
  ⟨0x540020, [(0x4, 8)], [⟨0, 15, .rwl⟩, ⟨16, 15, .rwl⟩]⟩]

/-- The shared block (R509). -/
def block.shared : Block := ⟨0x540000, 0x54003F, regTable.shared0⟩

/-- Registers of the shingle block, part 0 (R525). -/
def regTable.shingle0 : List RegRow := [
  ⟨0x600000, [(0x100, 32)], [⟨0, 1, .rw⟩, ⟨1, 1, .rwl⟩]⟩,
  ⟨0x600004, [(0x100, 32)], [⟨0, 1, .ro⟩, ⟨1, 1, .ro⟩, ⟨2, 1, .ro⟩, ⟨3, 1, .ro⟩, ⟨4, 14, .ro⟩, ⟨18, 6, .ro⟩]⟩,
  ⟨0x600008, [(0x100, 32)], [⟨0, 1, .w1c⟩, ⟨1, 1, .w1c⟩, ⟨2, 1, .w1c⟩, ⟨3, 1, .w1c⟩, ⟨4, 1, .w1c⟩]⟩,
  ⟨0x600010, [(0x100, 32)], [⟨0, 32, .rc⟩]⟩,
  ⟨0x600014, [(0x100, 32)], [⟨0, 32, .rc⟩]⟩,
  ⟨0x600018, [(0x100, 32)], [⟨0, 32, .rc⟩]⟩,
  ⟨0x60001C, [(0x100, 32)], [⟨0, 32, .rc⟩]⟩,
  ⟨0x600020, [(0x100, 32)], [⟨0, 32, .rc⟩]⟩,
  ⟨0x600024, [(0x100, 32)], [⟨0, 32, .rc⟩]⟩,
  ⟨0x600028, [(0x100, 32)], [⟨0, 32, .rc⟩]⟩,
  ⟨0x60002C, [(0x100, 32)], [⟨0, 32, .rc⟩]⟩,
  ⟨0x600030, [(0x100, 32)], [⟨0, 32, .rc⟩]⟩,
  ⟨0x600034, [(0x100, 32)], [⟨0, 32, .rc⟩]⟩,
  ⟨0x600038, [(0x100, 32)], [⟨0, 32, .rc⟩]⟩,
  ⟨0x602000, [], [⟨0, 3, .rwt⟩, ⟨4, 3, .rwt⟩]⟩,
  ⟨0x602004, [], [⟨0, 14, .wo⟩]⟩,
  ⟨0x602010, [], [⟨0, 15, .rwl⟩, ⟨16, 15, .rwl⟩]⟩,
  ⟨0x602014, [], [⟨0, 15, .rwl⟩, ⟨16, 15, .rwl⟩]⟩,
  ⟨0x602018, [], [⟨0, 16, .ro⟩, ⟨16, 16, .ro⟩]⟩,
  ⟨0x602100, [(0x4, 64)], [⟨0, 16, .rwt⟩, ⟨16, 1, .rwt⟩]⟩]

/-- The shingle block (R509). -/
def block.shingle : Block := ⟨0x600000, 0x6021FF, regTable.shingle0⟩

/-- Registers of the shq block, part 0 (R525). -/
def regTable.shq0 : List RegRow := [
  ⟨0x640000, [(0x8, 16384)], [⟨0, 2, .rwt⟩, ⟨2, 1, .rwt⟩, ⟨3, 2, .rwt⟩, ⟨5, 5, .rwt⟩, ⟨16, 8, .rwt⟩]⟩,
  ⟨0x640004, [(0x8, 16384)], [⟨0, 14, .rwt⟩]⟩]

/-- The shq block (R509). -/
def block.shq : Block := ⟨0x640000, 0x65FFFF, regTable.shq0⟩

/-- Registers of the ridge block, part 0 (R525). -/
def regTable.ridge0 : List RegRow := [
  ⟨0x700000, [(0x100, 32)], [⟨0, 1, .rw⟩, ⟨1, 2, .rwl⟩]⟩,
  ⟨0x700004, [(0x100, 32)], [⟨0, 32, .rwt⟩]⟩,
  ⟨0x700008, [(0x100, 32)], [⟨0, 3, .ro⟩, ⟨4, 4, .ro⟩, ⟨8, 1, .ro⟩, ⟨9, 1, .ro⟩]⟩,
  ⟨0x70000C, [(0x100, 32)], [⟨0, 1, .w1c⟩, ⟨1, 1, .w1c⟩]⟩,
  ⟨0x700010, [(0x100, 32)], [⟨0, 32, .rc⟩]⟩,
  ⟨0x700014, [(0x100, 32)], [⟨0, 32, .rc⟩]⟩,
  ⟨0x700018, [(0x100, 32)], [⟨0, 32, .rc⟩]⟩,
  ⟨0x70001C, [(0x100, 32)], [⟨0, 32, .rc⟩]⟩,
  ⟨0x700020, [(0x100, 32)], [⟨0, 32, .rc⟩]⟩,
  ⟨0x700024, [(0x100, 32)], [⟨0, 32, .rc⟩]⟩,
  ⟨0x700028, [(0x100, 32)], [⟨0, 32, .rc⟩]⟩,
  ⟨0x70002C, [(0x100, 32)], [⟨0, 32, .rc⟩]⟩,
  ⟨0x704000, [(0x40, 16)], [⟨0, 1, .rw⟩, ⟨1, 1, .rwl⟩, ⟨16, 16, .rwl⟩]⟩,
  ⟨0x704004, [(0x40, 16)], [⟨0, 16, .rwl⟩]⟩,
  ⟨0x704008, [(0x40, 16)], [⟨0, 4, .rwt⟩, ⟨4, 10, .rwt⟩, ⟨14, 14, .rwt⟩]⟩,
  ⟨0x70400C, [(0x40, 16)], [⟨0, 16, .rwt⟩, ⟨16, 16, .rwt⟩]⟩,
  ⟨0x704010, [(0x40, 16)], [⟨0, 16, .rwt⟩]⟩,
  ⟨0x704014, [(0x40, 16)], [⟨0, 16, .ro⟩]⟩,
  ⟨0x704018, [(0x40, 16)], [⟨0, 24, .ro⟩]⟩,
  ⟨0x70401C, [(0x40, 16)], [⟨0, 24, .ro⟩]⟩]

/-- Registers of the ridge block, part 1 (R525). -/
def regTable.ridge1 : List RegRow := [
  ⟨0x704020, [(0x40, 16)], [⟨0, 1, .w1c⟩, ⟨1, 1, .w1c⟩, ⟨2, 1, .w1c⟩, ⟨3, 1, .w1c⟩]⟩,
  ⟨0x704024, [(0x40, 16)], [⟨0, 32, .rc⟩]⟩,
  ⟨0x704028, [(0x40, 16)], [⟨0, 32, .rc⟩]⟩,
  ⟨0x706000, [], [⟨0, 9, .rwt⟩, ⟨16, 16, .rwt⟩]⟩,
  ⟨0x706004, [], [⟨0, 4, .rwt⟩, ⟨4, 1, .rwt⟩]⟩,
  ⟨0x706008, [], [⟨0, 14, .rwt⟩, ⟨16, 14, .rwt⟩]⟩,
  ⟨0x70600C, [], [⟨0, 9, .ro⟩]⟩,
  ⟨0x706010, [], [⟨0, 32, .rc⟩]⟩,
  ⟨0x706014, [], [⟨0, 32, .rc⟩]⟩,
  ⟨0x706018, [], [⟨0, 32, .rc⟩]⟩,
  ⟨0x70601C, [], [⟨0, 32, .rc⟩]⟩,
  ⟨0x706020, [], [⟨0, 32, .rc⟩]⟩,
  ⟨0x706024, [], [⟨0, 32, .rc⟩]⟩,
  ⟨0x706028, [], [⟨0, 32, .rc⟩]⟩]

/-- The ridge block (R509). -/
def block.ridge : Block := ⟨0x700000, 0x70603F, regTable.ridge0 ++ regTable.ridge1⟩

/-- Registers of the hip block, part 0 (R525). -/
def regTable.hip0 : List RegRow := [
  ⟨0x780000, [(0x100, 8)], [⟨0, 1, .rw⟩, ⟨1, 1, .rwl⟩]⟩,
  ⟨0x780004, [(0x100, 8)], [⟨0, 32, .rwt⟩]⟩,
  ⟨0x780008, [(0x100, 8)], [⟨0, 2, .ro⟩, ⟨4, 2, .ro⟩, ⟨16, 16, .ro⟩]⟩,
  ⟨0x78000C, [(0x100, 8)], [⟨0, 1, .w1c⟩, ⟨1, 1, .w1c⟩, ⟨2, 1, .w1c⟩, ⟨3, 1, .w1c⟩]⟩,
  ⟨0x780010, [(0x100, 8)], [⟨0, 32, .rc⟩]⟩,
  ⟨0x780014, [(0x100, 8)], [⟨0, 32, .rc⟩]⟩,
  ⟨0x780018, [(0x100, 8)], [⟨0, 32, .rc⟩]⟩,
  ⟨0x78001C, [(0x100, 8)], [⟨0, 32, .rc⟩]⟩,
  ⟨0x780020, [(0x100, 8)], [⟨0, 32, .rc⟩]⟩,
  ⟨0x780024, [(0x100, 8)], [⟨0, 32, .rc⟩]⟩,
  ⟨0x780028, [(0x100, 8)], [⟨0, 32, .rc⟩]⟩,
  ⟨0x781000, [], [⟨0, 4, .rwt⟩, ⟨4, 8, .rwt⟩, ⟨16, 8, .rwt⟩]⟩,
  ⟨0x781004, [], [⟨0, 32, .rwl⟩]⟩,
  ⟨0x781008, [], [⟨0, 16, .ro⟩, ⟨16, 8, .ro⟩, ⟨24, 4, .ro⟩, ⟨28, 1, .ro⟩]⟩,
  ⟨0x78100C, [], [⟨0, 1, .w1c⟩, ⟨1, 1, .w1c⟩]⟩,
  ⟨0x781010, [], [⟨0, 32, .rc⟩]⟩]

/-- The hip block (R509). -/
def block.hip : Block := ⟨0x780000, 0x78101F, regTable.hip0⟩

/-- Registers of the gauge block, part 0 (R525). -/
def regTable.gauge0 : List RegRow := [
  ⟨0x800000, [(0x4000, 2)], [⟨0, 1, .rw⟩, ⟨1, 1, .rwl⟩]⟩,
  ⟨0x800004, [(0x4000, 2)], [⟨0, 8, .rwt⟩, ⟨8, 8, .rwt⟩, ⟨16, 1, .rwt⟩, ⟨17, 1, .rwt⟩]⟩,
  ⟨0x800008, [(0x4000, 2)], [⟨0, 14, .rwt⟩]⟩,
  ⟨0x80000C, [(0x4000, 2)], [⟨0, 8, .rwt⟩]⟩,
  ⟨0x800010, [(0x4000, 2)], [⟨0, 5, .ro⟩, ⟨5, 3, .ro⟩, ⟨8, 1, .ro⟩, ⟨9, 1, .ro⟩, ⟨10, 4, .ro⟩]⟩,
  ⟨0x800014, [(0x4000, 2)], [⟨0, 1, .w1c⟩, ⟨1, 1, .w1c⟩, ⟨2, 1, .w1c⟩, ⟨3, 1, .w1c⟩, ⟨4, 1, .w1c⟩, ⟨5, 1, .w1c⟩, ⟨6, 1, .w1c⟩, ⟨7, 1, .w1c⟩, ⟨8, 1, .w1c⟩, ⟨9, 1, .w1c⟩]⟩,
  ⟨0x800018, [(0x4000, 2)], [⟨0, 5, .wo⟩, ⟨31, 1, .wo⟩]⟩,
  ⟨0x80001C, [(0x4000, 2)], [⟨0, 1, .wo⟩]⟩,
  ⟨0x800020, [(0x4000, 2)], [⟨0, 32, .rc⟩]⟩,
  ⟨0x800024, [(0x4000, 2)], [⟨0, 32, .rc⟩]⟩,
  ⟨0x800028, [(0x4000, 2)], [⟨0, 32, .rc⟩]⟩,
  ⟨0x80002C, [(0x4000, 2)], [⟨0, 32, .rc⟩]⟩,
  ⟨0x800030, [(0x4000, 2)], [⟨0, 32, .rc⟩]⟩,
  ⟨0x800034, [(0x4000, 2)], [⟨0, 32, .rc⟩]⟩,
  ⟨0x800038, [(0x4000, 2)], [⟨0, 32, .rc⟩]⟩,
  ⟨0x80003C, [(0x4000, 2)], [⟨0, 32, .rc⟩]⟩,
  ⟨0x800400, [(0x4000, 2), (0x20, 28)], [⟨0, 1, .rw⟩, ⟨1, 4, .rwt⟩, ⟨5, 5, .rwt⟩, ⟨10, 2, .rwt⟩, ⟨12, 4, .rwt⟩, ⟨16, 5, .rwt⟩, ⟨21, 1, .rwt⟩, ⟨22, 1, .rwt⟩, ⟨23, 3, .rwt⟩, ⟨26, 5, .rwt⟩]⟩,
  ⟨0x800404, [(0x4000, 2), (0x20, 28)], [⟨0, 4, .rwt⟩, ⟨4, 4, .rwt⟩, ⟨8, 3, .rwt⟩, ⟨11, 4, .rwt⟩, ⟨15, 4, .rwt⟩, ⟨19, 7, .rwt⟩, ⟨26, 5, .rwt⟩]⟩,
  ⟨0x800408, [(0x4000, 2), (0x20, 28)], [⟨0, 24, .rwt⟩]⟩,
  ⟨0x80040C, [(0x4000, 2), (0x20, 28)], [⟨0, 32, .rwt⟩]⟩]

/-- Registers of the gauge block, part 1 (R525). -/
def regTable.gauge1 : List RegRow := [
  ⟨0x800410, [(0x4000, 2), (0x20, 28)], [⟨0, 32, .rwt⟩]⟩,
  ⟨0x800414, [(0x4000, 2), (0x20, 28)], [⟨0, 1, .ro⟩, ⟨1, 1, .ro⟩, ⟨2, 1, .ro⟩, ⟨3, 1, .ro⟩, ⟨4, 3, .ro⟩, ⟨7, 1, .ro⟩]⟩,
  ⟨0x800418, [(0x4000, 2), (0x20, 28)], [⟨0, 32, .ro⟩]⟩,
  ⟨0x80041C, [(0x4000, 2), (0x20, 28)], [⟨0, 32, .ro⟩]⟩,
  ⟨0x800800, [(0x4000, 2), (0x4, 128)], [⟨0, 32, .rwt⟩]⟩,
  ⟨0x800C00, [(0x4000, 2), (0x4, 64)], [⟨0, 32, .ro⟩]⟩]

/-- The gauge block (R509). -/
def block.gauge : Block := ⟨0x800000, 0x804CFF, regTable.gauge0 ++ regTable.gauge1⟩

/-- Registers of the mgmt block, part 0 (R525). -/
def regTable.mgmt0 : List RegRow := [
  ⟨0x900000, [], [⟨0, 1, .ro⟩, ⟨1, 1, .ro⟩, ⟨2, 2, .ro⟩]⟩,
  ⟨0x900004, [], [⟨0, 1, .w1c⟩, ⟨1, 1, .w1c⟩, ⟨2, 1, .w1c⟩, ⟨3, 1, .w1c⟩, ⟨4, 1, .w1c⟩, ⟨5, 1, .w1c⟩, ⟨6, 1, .w1c⟩, ⟨7, 1, .w1c⟩, ⟨8, 1, .w1c⟩]⟩,
  ⟨0x900008, [], [⟨0, 6, .ro⟩]⟩,
  ⟨0x90000C, [], [⟨0, 1, .wo⟩, ⟨1, 1, .wo⟩]⟩,
  ⟨0x900024, [], [⟨0, 32, .rc⟩]⟩,
  ⟨0x900028, [], [⟨0, 8, .rwt⟩]⟩,
  ⟨0x90002C, [], [⟨0, 16, .ro⟩]⟩,
  ⟨0x900038, [], [⟨0, 15, .rw⟩, ⟨31, 1, .rw⟩]⟩,
  ⟨0x90003C, [], [⟨0, 32, .rw⟩]⟩,
  ⟨0x900040, [], [⟨0, 1, .wo⟩, ⟨1, 1, .wo⟩]⟩,
  ⟨0x900044, [], [⟨0, 8, .ro⟩, ⟨8, 1, .ro⟩]⟩,
  ⟨0x900048, [], [⟨0, 32, .ro⟩]⟩,
  ⟨0x90004C, [], [⟨0, 14, .rwt⟩]⟩,
  ⟨0x900050, [], [⟨0, 1, .ro⟩, ⟨1, 1, .ro⟩, ⟨16, 16, .ro⟩]⟩,
  ⟨0x900100, [], [⟨0, 12, .rwt⟩]⟩,
  ⟨0x900104, [], [⟨0, 1, .ro⟩, ⟨1, 1, .ro⟩, ⟨2, 1, .ro⟩, ⟨3, 1, .ro⟩, ⟨4, 1, .ro⟩, ⟨5, 1, .ro⟩]⟩,
  ⟨0x900108, [], [⟨0, 14, .ro⟩]⟩,
  ⟨0x90010C, [], [⟨0, 32, .ro⟩]⟩,
  ⟨0x900110, [], [⟨0, 32, .rc⟩]⟩,
  ⟨0x900114, [], [⟨0, 32, .rc⟩]⟩]

/-- Registers of the mgmt block, part 1 (R525). -/
def regTable.mgmt1 : List RegRow := [
  ⟨0x900118, [], [⟨0, 16, .rw⟩]⟩,
  ⟨0x90011C, [], [⟨0, 32, .ro⟩]⟩,
  ⟨0x900120, [], [⟨0, 16, .ro⟩]⟩,
  ⟨0x900124, [], [⟨0, 1, .ro⟩]⟩,
  ⟨0x900010, [(0x4, 5)], [⟨0, 32, .rc⟩]⟩,
  ⟨0x900030, [(0x4, 2)], [⟨0, 7, .ro⟩, ⟨7, 1, .ro⟩]⟩]

/-- The mgmt block (R509). -/
def block.mgmt : Block := ⟨0x900000, 0x9001FF, regTable.mgmt0 ++ regTable.mgmt1⟩

/-- Registers of the maint block, part 0 (R525). -/
def regTable.maint0 : List RegRow := [
  ⟨0x904000, [(0x8, 16)], [⟨0, 4, .rwt⟩, ⟨4, 1, .rwt⟩, ⟨8, 24, .rwt⟩]⟩,
  ⟨0x904004, [(0x8, 16)], [⟨0, 32, .rwt⟩]⟩,
  ⟨0x904100, [(0x10, 16)], [⟨0, 16, .ro⟩, ⟨16, 2, .ro⟩]⟩,
  ⟨0x904104, [(0x10, 16)], [⟨0, 32, .ro⟩]⟩,
  ⟨0x904108, [(0x10, 16)], [⟨0, 32, .ro⟩]⟩,
  ⟨0x90410C, [(0x10, 16)], [⟨0, 32, .ro⟩]⟩,
  ⟨0x904200, [], [⟨0, 5, .ro⟩]⟩,
  ⟨0x904204, [], [⟨0, 1, .w1c⟩, ⟨1, 1, .w1c⟩, ⟨2, 1, .w1c⟩]⟩,
  ⟨0x904208, [], [⟨0, 32, .rc⟩]⟩,
  ⟨0x90420C, [], [⟨0, 32, .rc⟩]⟩,
  ⟨0x904210, [], [⟨0, 32, .rc⟩]⟩,
  ⟨0x904214, [], [⟨0, 32, .rc⟩]⟩]

/-- The maint block (R509). -/
def block.maint : Block := ⟨0x904000, 0x904217, regTable.maint0⟩

/-- The blocks of R509 that hold registers. -/
def blocks : List Block := [block.global, block.time, block.timing, block.ports, block.octets, block.trig, block.thatch, block.purlin, block.queue, block.cores, block.shared, block.shingle, block.shq, block.ridge, block.hip, block.gauge, block.mgmt, block.maint]

/-- Whether `off` is one of the offsets that the (stride, count) list reaches. -/
def inDims : List (Nat × Nat) → Nat → Bool
  | [], off => off == 0
  | (st, n) :: ds, off => inDims2 st n ds off
where
  /-- One dimension: the index is the quotient; a further dimension lies inside the stride. -/
  inDims2 (st n : Nat) : List (Nat × Nat) → Nat → Bool
    | [], off => off % st == 0 && decide (off / st < n)
    | [(st2, n2)], off =>
      decide (off / st < n) && (off % st) % st2 == 0 && decide (off % st / st2 < n2)
    | _ :: _ :: _, _ => false

/-- The register at a byte address, none where the map holds none (R509, R510). -/
def regAt (addr : Nat) : Option RegRow :=
  match blocks.find? (fun b => decide (b.first ≤ addr) && decide (addr ≤ b.last)) with
  | none => none
  | some b => b.regs.find? (fun r => decide (r.base ≤ addr) && inDims r.dims (addr - r.base))

/-- The value a register holds after a cold reset (R23); "image", "ledger" and "start-up" fields are 0
until start-up loads them (R516). (log 3: DESIGN CHOICE) -/
def regReset (addr : Nat) : BitVec 32 :=
  if addr = 0x0 then 0x5196E711#32
  else if 0x2004C ≤ addr ∧ addr < 0x2604C ∧ (addr - 0x2004C) % 0x100 = 0 then 0xC400#32
  else if addr = 0x300084 then 0x7FFFFF#32
  else if addr = 0x781008 then 0xF000000#32
  else if 0x800010 ≤ addr ∧ addr < 0x808010 ∧ (addr - 0x800010) % 0x4000 = 0 then 0x80#32
  else if addr = 0x900000 then 0x4#32
  else if addr = 0x900008 then 0x15#32
  else if addr = 0x90002C then 0x1#32
  else 0

end Sys2Proof.Machine
end

