-- ==== Sys2Proof/Machine/Tab.lean ====
section
/-! DEFINITION. Sparse tables in one canonical form: keys strictly rising, and no entry equal to what an
unlisted key reads as. Equal tables are equal data. -/

namespace Sys2Proof.Machine

/-- A sparse table from numbers to values. -/
abbrev Tab (α : Type) := List (Nat × α)

/-- The value at key `k`; `d` is what an unlisted key reads as. -/
def Tab.get {α : Type} (d : α) : Tab α → Nat → α
  | [], _ => d
  | (k, v) :: t, i => if i = k then v else Tab.get d t i

/-- The table with key `i` removed. -/
def Tab.erase {α : Type} (t : Tab α) (i : Nat) : Tab α := t.filter fun x => !(x.1 == i)

/-- The table with key `i` listed as `x`. -/
def Tab.insert {α : Type} (x : α) : Tab α → Nat → Tab α
  | [], i => [(i, x)]
  | (k, v) :: t, i =>
    if i = k then (i, x) :: t else if i < k then (i, x) :: (k, v) :: t
    else (k, v) :: Tab.insert x t i

/-- Write `x` at key `i`: an entry equal to the unlisted value `d` is removed, not listed. -/
def Tab.set {α : Type} [DecidableEq α] (d : α) (t : Tab α) (i : Nat) (x : α) : Tab α :=
  if x = d then Tab.erase t i else Tab.insert x t i

/-- Keys above `lo` (when given) and strictly rising, and no entry equal to the unlisted value. -/
def Tab.wfFrom {α : Type} [DecidableEq α] (d : Nat → α) : Option Nat → Tab α → Bool
  | _, [] => true
  | lo, (k, v) :: t =>
    (match lo with
      | none => true
      | some l => decide (l < k)) && decide (v ≠ d k) && Tab.wfFrom d (some k) t

/-- The canonical form, for a table whose unlisted key `k` reads as `d k`. -/
def Tab.wf {α : Type} [DecidableEq α] (d : Nat → α) (t : Tab α) : Bool := Tab.wfFrom d none t

/-- Set every key of a list to one value. -/
def Tab.setAll {α : Type} [DecidableEq α] (d : α) (t : Tab α) (ks : List Nat) (x : α) : Tab α :=
  ks.foldl (fun t k => Tab.set d t k x) t

end Sys2Proof.Machine
end

