-- ==== Sys2Proof/Machine/State.lean ====
section
/-! DEFINITION. The state of the block: the register file, what the spec gives each unit beside its
registers, and the queue of waiting commands. Plain data throughout. Times named "at" are device times
in Tf counted from the PLL's first lock without wrapping (R10, R52); a timestamp that is written or read
is that count modulo 2^64 (R11). -/

namespace Sys2Proof.Machine

/-- A task descriptor (R246). -/
structure Desc where
  queue : Nat := 0
  cls : Nat := 0
  prio : Nat := 0
  wait : Nat := 0
  arg : Nat := 0
  course : Nat := 0
  bundle : Nat := 0
  word : Nat := 0
  len : Nat := 0
  timeout : Bool := false
  part : Bool := false
  restarted : Bool := false
  start : Bool := false
  final : Bool := false
  late : Bool := false
  lent : Bool := false
  fw : Bool := false
  missing : Nat := 0
deriving DecidableEq, Repr

/-- A descriptor waiting in a queue, with the epoch in which it was pushed (R252). -/
structure QEntry where
  desc : Desc
  epoch : Nat
deriving DecidableEq, Repr

/-- What the Purlin keeps of a queue beside PQ_STATE (R248 to R253, R260). -/
structure QueueSt where
  /-- 07 R243: the descriptors held, oldest first -/
  descs : List QEntry := []
  /-- 07 R253: device time at which the head became head -/
  headAt : Nat := 0
  /-- 07 R248: tasks of the queue that run -/
  running : Nat := 0
  /-- 07 R251: epoch and course of the queue's last dispatched task, none since admission -/
  last : Option (Nat × Nat) := none
  /-- 07 R242: the group was admitted at a boundary -/
  admitted : Bool := false
  /-- 07 R260: the group was retired at a boundary -/
  retired : Bool := false
  /-- 07 R260: device time of that boundary -/
  retireAt : Nat := 0
deriving DecidableEq, Repr

/-- A queue that stands in a ready list (R254), with what its dispatch will deliver. -/
structure ReadyItem where
  queue : Nat
  prio : Nat
  cls : Nat
  readyAt : Nat
  timeout : Bool := false
  late : Bool := false
  missing : Nat := 0
  members : List Nat := []
  restarted : Bool := false
  /-- a restarted task, delivered again as it was (R262) -/
  again : List (Option Desc) := []
  offered : Bool := false
  pushes : Nat := 0
deriving DecidableEq, Repr

/-- A task held by a consumer: its descriptor first, then the descriptors of JOIN members by member
number (R250, R288). -/
structure Task where
  desc : Desc
  members : List (Option Desc) := []
  half : Nat := 0
  epoch : Nat := 0
  item : ReadyItem
deriving DecidableEq, Repr

/-- A record in the store: first word address and length (R199). -/
structure RecAt where
  addr : Nat
  len : Nat
deriving DecidableEq, Repr

/-- What one Purlin holds (R254, R259, R267). -/
structure Purlin where
  /-- 07 R254: the queues in the ready lists, in order of entry -/
  ready : List ReadyItem := []
  /-- 07 R252: flag counts -/
  flags : Tab Nat := []
  /-- 07 R255: idle cores, longest idle first -/
  idle : List Nat := []
  /-- 07 R267: next entry of the trace ring -/
  traceAt : Nat := 0
deriving DecidableEq, Repr

/-- A store-buffer entry (R309). -/
structure SbEntry where
  addr : Nat
  data : Word
  mask : BitVec 16
deriving DecidableEq, Repr

/-- An open locked sequence (R305 to R307). -/
structure LockSeq where
  left : Nat
  bank : Nat
  d : Nat
  lockPc : BitVec 32
  held : List SbEntry := []
  broken : Bool := false
deriving DecidableEq, Repr

/-- A core program refresh in progress (R316). -/
structure Refresh where
  prog : Nat
  copyB : Bool
  fails : Nat := 0
  id : Nat
deriving DecidableEq, Repr

/-- A rafter core (R273 to R322). (log 3: DESIGN CHOICE) -/
structure CoreSt where
  /-- 08 R273: general registers g1 to g15, 32 bits; g0 is hard-wired 0 -/
  g : Tab U32 := []
  /-- 08 R273: accumulator a0, 40 bits -/
  a0 : BitVec 40 := 0
  /-- 08 R273: accumulator a1, 40 bits -/
  a1 : BitVec 40 := 0
  /-- 08 R273: program counter, 32 bits -/
  pc : U32 := 0
  /-- 08 R273: exception level -/
  exl : Bool := false
  /-- 08 R274: control and status registers by number, 32 bits -/
  csr : Tab U32 := []
  /-- 08 R285: a taken or untaken branch whose delay slot is next: branch address, next address -/
  slot : Option (U32 × U32) := none
  /-- 08 R276: instruction memory, 64 KiB, bytes -/
  imem : List Host.Cell := []
  /-- 08 R276: data memory, 64 KiB, bytes -/
  dmem : List Host.Cell := []
  /-- 08 R280: local words (byte address / 4) with bits in error, and how many -/
  memErr : Tab Nat := []
  /-- 08 R309: store buffer, oldest first -/
  sb : List SbEntry := []
  /-- 08 R305: the open locked sequence -/
  lock : Option LockSeq := none
  /-- 08 R287: the task held -/
  task : Option Task := none
  /-- 08 R287: waiting in TAKE, and its register -/
  taking : Option Nat := none
  /-- 08 R289, R290: waiting in ALLOC or PUSH: the instruction word, and since which device time -/
  stuck : Option (Nat × Nat) := none
  /-- 07 R269: device time up to which PD_CORE.BUSY has counted the task held -/
  busyAt : Nat := 0
  /-- 08 R289: allocations not yet pushed, newest first -/
  allocs : List RecAt := []
  /-- 08 R290: records this task has pushed -/
  pushed : List RecAt := []
  /-- 08 R293: records kept -/
  kept : List RecAt := []
  /-- 08 R294: pushes accepted for the task -/
  accepted : Nat := 0
  /-- 08 R318: a halt was requested and not yet taken -/
  haltReq : Bool := false
  /-- 08 R318: a STEP is in progress -/
  stepping : Bool := false
  /-- 08 R319: the breakpoint check is skipped for the next instruction -/
  bpSkip : Bool := false
  /-- 08 R312: the state a halt left -/
  haltedFrom : Nat := 0
  /-- 08 R312: a retirement or refresh boundary has passed -/
  leaving : Bool := false
  /-- 08 R316: the refresh in progress -/
  refresh : Option Refresh := none
  /-- 08 R312: restarts at 0 at the next course boundary after a unit reset or load -/
  restartDue : Bool := false
  /-- 08 R317: the clock changes after the next DONE -/
  clockDue : Bool := false
  /-- 08 R317: core clock 0.5 GHz -/
  slowClock : Bool := false
deriving DecidableEq, Repr

/-- A frame waiting in a port's receive FIFO (R140), with its lost-frame count, its hand-over, its time T, and
the time of each hit, none for one discarded (R121 to R124, R156). -/
structure RxFrame where
  header : U64
  body : List U64
  lost : Nat := 0
  handAt : Nat := 0
  t : Nat := 0
  hits : List (Option Nat) := []
deriving DecidableEq, Repr

/-- A record being built: entries of `width` bits packed from word 3 on, with the counts of word 2 as the
record type lays them out (R101, R160, R420). -/
structure RecBuild where
  entries : List Nat := []
  part : Nat := 0
  frames : Nat := 0
  lost : Nat := 0
  feLoss : Nat := 0
  held : Nat := 0
  supp : Nat := 0
  phase : Nat := 0
  any : Bool := false
deriving DecidableEq, Repr

/-- A port's open course (R159), and the body of the BREAK record that opens it (R61). -/
structure PortCourse where
  course : Nat
  epoch : Nat
  dCourse : Nat
  start : Bool := false
  part : Bool := false
  key : Bool := false
  keyDue : Bool := false
  opened : Bool := false
  final : Bool := false
  changes : RecBuild := {}
  hits : RecBuild := {}
  brk : List Word := []
deriving DecidableEq, Repr

/-- Where a transaction's response goes (R373, R381, R386): a lane group of this node, or the entry node
and its group over the Hip tree. -/
inductive ReplyTo where
  | lanes (g : Nat)
  | hip (node grp : Nat)
deriving DecidableEq, Repr

/-- A relay to a front end (R129 to R131): where its answer goes, and its frame fields. -/
structure Relay where
  tag : Nat
  dst : ReplyTo
  op : Nat
  addr : Nat
  data : Nat
  mask : Nat
  feTag : Nat := 0
  at_ : Nat := 0
deriving DecidableEq, Repr

/-- A requested downlink command (R126, R128): K code, arguments, request instant. -/
structure DlReq where
  k : Nat
  cls : Nat := 0
  id : Nat := 0
  arg : Nat := 0
  at_ : Nat := 0
deriving DecidableEq, Repr

/-- An Eave port (R112 to R162). -/
structure PortSt where
  /-- 04 R134: consecutive ALIGN failures -/
  alignFails : Nat := 0
  /-- 04 R134: consecutive good TRAIN frames with one ECHO -/
  goodTrain : Nat := 0
  /-- 04 R136: the ECHO of those frames -/
  echo : Nat := 0
  /-- 04 R123: argument, device time of the last 16 COURSE commands, latest first -/
  dcs : List (Nat × Nat) := []
  /-- 04 R140: frames in the receive FIFO, oldest first -/
  rx : List RxFrame := []
  /-- 04 R121: SEQ of the last good frame, plus 1; 0 when tracking starts afresh -/
  seqSeen : Nat := 0
  /-- 04 R121: D, frames discarded since the previous good frame -/
  discarded : Nat := 0
  /-- 04 R121: n, lost frames not yet carried by a SAMPLE or HIT frame -/
  lost : Nat := 0
  /-- 04 R129: outstanding relays -/
  relays : List Relay := []
  /-- 04 R129: waiting relays -/
  relayWait : List Relay := []
  /-- 04 R129: next tag, and tags that timed out with the number of the assignment -/
  nextTag : Nat := 0
  /-- 04 R129: tags assigned so far -/
  assigned : Nat := 0
  /-- 04 R129: tags that timed out, with the assignment count at the time-out -/
  timedOut : List (Nat × Nat) := []
  /-- 04 R128: downlink commands requested and not yet sent -/
  dlReq : List DlReq := []
  /-- 04 R126: the sequence last launched on the downlink, control characters plus 256 -/
  dlOut : List Nat := []
  /-- 04 R127: device time at which the downlink is free for another sequence -/
  dlFree : Nat := 0
  /-- 04 R127: launch of the last HOLD or RESUME, plus 1 -/
  holdSlot : Nat := 0
  /-- 04 R127: RESUME repetitions left -/
  resumeLeft : Nat := 0
  /-- 04 R141: device time at which the hold began -/
  holdAt : Nat := 0
  /-- 04 R145: device time of the check that passed, for the 100 ms limit -/
  admitAt : Nat := 0
  /-- 04 R145: device time of the boundary of admission, none while not admitted -/
  inFrom : Option Nat := none
  /-- 04 R146: device time of the boundary of retirement -/
  outFrom : Option Nat := none
  /-- 04 R134: powered down -/
  poweredDown : Bool := false
  /-- 04 R137: returns to ACTIVE at the next boundary at which it is LINKED -/
  returning : Bool := false
  /-- 04 R147: resumed after a warm reset: frames before its first course are late -/
  warmed : Bool := false
  /-- 05 R154: L by channel, 16 bits -/
  lval : Tab (BitVec 16) := []
  /-- 05 R154: key-state bits -/
  key : BitVec 256 := 0
  /-- 05 R163: the frame at the read point was offered before a rewind -/
  offered : Bool := false
  /-- 04 R124: courses open, oldest first -/
  courses : List PortCourse := []
  /-- 04 R124: number of the last closed course, with its epoch -/
  closed : Option (Nat × Nat) := none
  /-- 04 R150: bits checked, 48 bits -/
  patBits : Nat := 0
  /-- 04 R148: one bit is to be inverted -/
  patInject : Nat := 0
deriving DecidableEq, Repr

/-- An interpolator of a timing channel (R91 to R95). -/
structure Interp where
  busyUntil : Nat := 0
  lastMeas : Nat := 0
  fails : Nat := 0
  since : Nat := 0
  lastCal : Nat := 0
  calibrating : Bool := false
  stale : Bool := false
deriving DecidableEq, Repr

/-- An entry of an edge buffer: corrected timestamp and the flags of R102. -/
structure TimeEntry where
  ts : Nat
  flags : Nat
  loss : Nat
deriving DecidableEq, Repr

/-- A channel's open course (R99 to R101), and the body of the BREAK record that opens it (R61). -/
structure TchCourse where
  course : Nat
  epoch : Nat
  dCourse : Nat
  start : Bool := false
  part : Bool := false
  maint : Bool := false
  settle : Bool := false
  coarse : Bool := false
  clipped : Bool := false
  final : Bool := false
  entries : List Nat := []
  partNo : Nat := 0
  lostFull : Nat := 0
  lostClose : Nat := 0
  lostOos : Nat := 0
  holdoff : Nat := 0
  disarmed : Nat := 0
  oosLen : Nat := 0
  brk : List Word := []
deriving DecidableEq, Repr

/-- A timing channel (R85 to R111). -/
structure TchSt where
  /-- 03 R90: coarse tick of the last accepted edge, plus 1; 0 for none -/
  lastTick : Nat := 0
  /-- 03 R87: timestamp of the last accepted edge -/
  lastTs : Nat := 0
  /-- 03 R87: level the last accepted edge left -/
  lastLevel : Bool := false
  /-- 03 R97: the edge buffer, oldest first -/
  buf : List TimeEntry := []
  /-- 03 R102: LOSS of the next entry -/
  loss : Nat := 0
  /-- 03 R97: device time of the last take, plus 1 -/
  lastTake : Nat := 0
  /-- 03 R89: windows due: opening and closing instants, and whether clipped -/
  windows : List (Nat × Nat × Bool) := []
  /-- 03 R89: an open window's closing instant -/
  openUntil : Option Nat := none
  /-- 03 R91: interpolator I0 -/
  i0 : Interp := {}
  /-- 03 R91: interpolator I1 -/
  i1 : Interp := {}
  /-- 03 R99: courses open, oldest first -/
  courses : List TchCourse := []
  /-- 03 R101: courses without a record since the previous record -/
  skipped : Nat := 0
  /-- 03 R102: entries before this device time are flagged SETTLE -/
  settleUntil : Nat := 0
  /-- 03 R109: admitted at a boundary and not yet retired at one -/
  admitted : Bool := false
  /-- 03 R107: device time at which the self-test began -/
  stAt : Nat := 0
  /-- 03 R106: device time at which the outage began, none in service -/
  oosAt : Option Nat := none
  /-- 03 R106: a full recalibration of the channel's group is due at the next boundary -/
  recalDue : Bool := false
  /-- 03 R109: returns at the next course boundary after a reset -/
  returning : Bool := false
deriving DecidableEq, Repr

/-- An open cluster of a primitive group (R165). -/
structure Cluster where
  openAt : Nat
  closeAt : Nat
  handAt : Nat
  count : Nat
  sum : Nat
  earliest : Nat
  sat : Bool
  course : Nat
deriving DecidableEq, Repr

/-- A primitive waiting in a half's queue, with the hand-over of its opening entry (R167). -/
structure PrimItem where
  prim : Word
  handAt : Nat
  course : Nat
deriving DecidableEq, Repr

/-- A trigger (R175): `src` is the mask of merged sources. -/
structure Trig where
  cls : Nat
  id : Nat
  src : Nat
  dAct : Nat
  actAt : Nat
  late : Bool := false
  forced : Bool := false
  acted : Bool := false
deriving DecidableEq, Repr

/-- A MARK to be written by a half's MARK writer (R181, R189). -/
structure Mark where
  group : Nat
  trig : Trig
  circular : Bool := false
  shortPre : Bool := false
  extended : Bool := false
  seq : Nat
  first : Nat := 0
  last : Nat := 0
  records : Nat := 0
  course : Nat
  epoch : Nat
  /-- device times between which the trigger's own selection lies (R182) -/
  fromD : Nat := 0
  toD : Nat := 0
deriving DecidableEq, Repr

/-- A window of a circular acquisition group in one half (R182, R183): the device times it selects from
and up to, and the MARKs it will push, oldest first. -/
structure Window where
  half : Nat
  group : Nat
  marks : List Mark
  fromD : Nat
  toD : Nat
  pushing : Bool := false
deriving DecidableEq, Repr

/-- A closed record retained in a circular ring (R182, R184). -/
structure RingRec where
  half : Nat
  group : Nat
  writer : Nat
  desc : Desc
  epoch : Nat
deriving DecidableEq, Repr

/-- Primitives, decisions, triggers and acquisition (R163 to R190). -/
structure AcqSt where
  /-- 05 R165: open clusters by device group -/
  clusters : Tab (Option Cluster) := []
  /-- 05 R167: primitive queue, north -/
  primN : List PrimItem := []
  /-- 05 R167: primitive queue, south -/
  primS : List PrimItem := []
  /-- 05 R167: device time of the last primitive frame, plus 1 -/
  lastLaunch : Nat := 0
  /-- 05 R171: the decision store, in order of M_TIME -/
  store : List Word := []
  /-- 05 R172: last issued M_ACT by class, plus 1 -/
  lastAct : Tab Nat := []
  /-- 05 R172: firings since the last issued, by class -/
  fired : Tab Nat := []
  /-- 05 R173: decision counter, 16 bits -/
  decCount : BitVec 16 := 0
  /-- 05 R176: acceptance queue, 32 places -/
  acceptQ : List Trig := []
  /-- 05 R177: accepted triggers that can still merge or act, latest first -/
  accepted : List Trig := []
  /-- 05 R181: MARKs due and not yet written, north -/
  marksN : List Mark := []
  /-- 05 R181: MARKs due and not yet written, south -/
  marksS : List Mark := []
  /-- 05 R182: open windows -/
  windows : List Window := []
  /-- 05 R182: records retained in rings -/
  ring : List RingRec := []
  /-- 05 R179: device time from which the auto count runs, by class -/
  autoFrom : Tab Nat := []
  /-- 05 R189: triggers of each group in the epoch -/
  seq : Tab Nat := []
  /-- 05 R188: primitives for the PRIMS records: half, course key, primitive -/
  prims : List (Nat × Nat × Word) := []
  /-- 05 R188: courses with a PRIMS record to close: half, course key; oldest first -/
  primCourses : List (Nat × Nat) := []
  /-- 05 R183: course key after the last course pushed, by half and group -/
  pushedTo : Tab Nat := []
  /-- 05 R187: half and course of the last full primitive queue NOTE -/
  lostNoted : Tab Nat := []
deriving DecidableEq, Repr

/-- A Thatch word (R194, R222, R224). An unlisted word has valid bit 0. -/
structure TWord where
  data : Word
  poison : Bool := false
deriving DecidableEq, Repr

/-- A closed record waiting for room in its writer's region (R202). -/
structure PendRec where
  words : List Word
  desc : Desc
  push : Bool := true
deriving DecidableEq, Repr

/-- A writer of a region (R198 to R207). -/
structure WriterSt where
  /-- 06 R199: write pointer, words from the region's first word -/
  wp : Nat := 0
  /-- 06 R207: next record sequence, 16 bits -/
  seq : Nat := 0
  /-- 06 R202: records waiting for a free bundle -/
  pend : List PendRec := []
deriving DecidableEq, Repr

/-- A handshake FIFO (R209, R210): items from R on, with poison; P − R and M − R. -/
structure FifoSt where
  items : List (Word × Bool) := []
  p : Nat := 0
  m : Nat := 0
  uncorrSeen : Bool := false
deriving DecidableEq, Repr

/-- A scrub pass (R228). -/
structure Scrub where
  first : Nat
  last : Nat
  startAt : Nat
  id : Nat
  read : Nat := 0
  corr : Nat := 0
  uncorr : Nat := 0
  unwr : Nat := 0
deriving DecidableEq, Repr

/-- A bank migration (R232). -/
structure Migration where
  bank : Nat
  spare : Nat
  id : Nat
deriving DecidableEq, Repr

/-- The Thatch beside its registers (R194 to R239). -/
structure ThatchSt where
  /-- 06 R194: words by word address; an unlisted word is unwritten and reads as zero -/
  words : Tab (Option TWord) := []
  /-- 06 R200: hold count by bundle -/
  holds : Tab Nat := []
  /-- 06 R201: bundles with valid words of a record since last recycled -/
  dirty : List Nat := []
  /-- 06 R198: writers by id -/
  writers : Tab WriterSt := []
  /-- 06 R209: handshake FIFOs by index -/
  fifos : Tab FifoSt := []
  /-- 06 R217: grants taken in the window by 12·bank + class; the 10-bit credit counter is the weight in force less that -/
  credits : Tab Nat := []
  /-- 06 R231: corrected errors by bank since its last scrub -/
  migCorr : Tab Nat := []
  /-- 06 R231: uncorrectable errors by bank since its last scrub -/
  migUncorr : Tab Nat := []
  /-- 06 R228: the running scrub pass -/
  scrub : Option Scrub := none
  /-- 06 R232: the running migration -/
  mig : Option Migration := none
  /-- 06 R219: bank locked by a core, plus 1 -/
  locks : Tab Nat := []
  /-- 06 R232: banks powered down -/
  bankOff : List Nat := []
  /-- 06 R221: class and half noted in the present window -/
  starveNoted : List Nat := []
  /-- 06 R221: weights in force since the last window, by 12·half + class, plus 1 -/
  weights : Tab Nat := []
deriving DecidableEq, Repr

/-- A Shingle model (R332): lanes m, element width W, predictor order. -/
structure ShModel where
  m : Nat
  w : Nat
  order : Nat
deriving DecidableEq, Repr

/-- The lane state of a coder (R333): x1, x2 and A of each lane. -/
structure ShLanes where
  x1 : List Nat
  x2 : List Nat
  acc : List Nat
deriving DecidableEq, Repr

/-- A context (R330): a stream's model and carried lane state, none when the next stream block is a reset block, its
next block sequence, the RESET_EVERY in force, the stream blocks since the last reset block, and its epoch. -/
structure ShCtx where
  queue : Nat
  model : ShModel
  lanes : Option ShLanes := none
  bseq : Nat := 0
  every : Nat := 0
  since : Nat := 0
  epoch : Nat := 0
deriving DecidableEq, Repr

/-- An open block of an engine (R326 to R338), with the settings it runs under. -/
structure ShBlock where
  queue : Nat
  tasks : List Task
  /-- the original, as read -/
  words : List Word
  /-- headers of the contained records, as coded -/
  heads : List Word
  poison : Bool
  keyed : Bool
  effort : Nat
  limit : Nat
  outq : Nat
  endCause : Nat := 0
  /-- 1 first pass, 2 second pass, 3 coded and waiting for room -/
  pass : Nat := 1
  raw : Nat := 0
  /-- write pointer before the container, and the chained bundles it took -/
  from_ : Nat := 0
  chain : List Nat := []
deriving DecidableEq, Repr

/-- A Shingle engine (R326 to R352). -/
structure EngineSt where
  /-- 09 R330: contexts -/
  ctxs : List ShCtx := []
  /-- 09 R328: the open block -/
  block : Option ShBlock := none
  /-- 09 R338: the finished container, waiting to be pushed, with its epoch -/
  done : Option (Desc × Nat) := none
  /-- 09 R329: a flush of the open block is pending -/
  flush : Bool := false
  /-- 09 R345: leaving service once its block is complete -/
  leaving : Bool := false
  /-- 09 R350: original and container bytes not yet counted in KiB -/
  inRem : Nat := 0
  /-- 09 R350: container bytes not yet counted in KiB -/
  outRem : Nat := 0
  /-- 09 R350: device time since which the engine waits for the pool -/
  poolAt : Option Nat := none
  /-- 09 R346: returns at the next course boundary after a unit reset -/
  returning : Bool := false
deriving DecidableEq, Repr

/-- A RECORD frame sent and not yet covered (R362). -/
structure TxFrame where
  gseq : Nat
  first : Bool
  last : Bool
  words : List Word
  resent : Bool := false
  lane : Nat
  sentAt : Nat
  due : Bool := false
  /-- 10 R382: origin node, its group and the FSEQ of a forwarded frame -/
  from_ : Option (Nat × Nat × Nat) := none
deriving DecidableEq, Repr

/-- A record's task taken by a lane group, with the GSEQ of its last frame (R362). -/
structure GroupTask where
  task : Task
  lastSeq : Nat
deriving DecidableEq, Repr

/-- A lane group (R360 to R363). -/
structure GroupSt where
  /-- 10 R362: frames kept until covered, oldest first -/
  frames : List TxFrame := []
  /-- 10 R362: records not yet covered -/
  tasks : List GroupTask := []
  /-- 10 R361, R373: responses waiting, and whether each ends its transaction when handed to a lane -/
  responses : List (Word × Bool) := []
  /-- 10 R366: lanes that failed and wait for a spare -/
  replace : Nat := 0
  /-- 10 R360: in service: admitted at a boundary and not yet retired at one -/
  admitted : Bool := false
  /-- 10 R382: forwarded frames waiting to be sent by this group -/
  fwd : List TxFrame := []
  /-- 10 R392: payload bytes sent and not yet counted in KiB -/
  kibRem : Nat := 0
deriving DecidableEq, Repr

/-- A Ridge lane (R364, R365). -/
structure LaneSt where
  /-- 10 R364: failures to reach READY in a row -/
  trainFails : Nat := 0
  /-- 10 R366: takes an active place when READY -/
  takeOver : Bool := false
  /-- 10 R367: parks once every frame handed to it is sent -/
  parking : Bool := false
  /-- 10 R361: device time at which the lane is free to send another frame -/
  freeAt : Nat := 0
  /-- 10 R358: device time of the last STATUS frame sent -/
  statusAt : Nat := 0
  /-- 10 R364: device time at which training began -/
  trainAt : Nat := 0
  /-- 10 R357: the frame last sent: header and payload -/
  out : Option (BitVec 64 × List Word) := none
deriving DecidableEq, Repr

/-- A transaction outstanding at this entry node (R373, R386). -/
structure Trans where
  tag : Nat
  group : Nat
  target : Nat
  at_ : Nat
  remote : Bool := false
  /-- its response waits to be handed to a lane -/
  answered : Bool := false
deriving DecidableEq, Repr

/-- An item in a Hip link's transmit queue (R378 to R381): block type, data, header fields. -/
structure HipItem where
  kind : Nat
  data : List Nat
  wait : Nat := 0
  hops : Nat := 0
  last : Bool := false
  root : Nat := 0
  seq : Nat := 0
  reply : Bool := false
  arrAt : Nat := 0
deriving DecidableEq, Repr

/-- A data frame waiting at a Hip link's transmitter (R381). -/
structure HipFrame where
  kind : Nat
  hdr : HipHdr
  words : List Word
  /-- the link on which a forwarded frame came: its credit goes back when the frame leaves -/
  back : Option Nat := none
deriving DecidableEq, Repr

/-- A Hip link (R378 to R387). -/
structure LinkSt where
  /-- 10 R383: NODE of the neighbour's HELLO -/
  node : Nat := 0
  /-- 10 R383: ROOT of the neighbour's HELLO -/
  root : Nat := 0
  /-- 10 R383: DIST of the neighbour's HELLO -/
  dist : Nat := 0
  /-- 10 R383: RPRIO of the neighbour's HELLO -/
  rprio : Nat := 0
  /-- 10 R383: PARENT of the neighbour's HELLO -/
  parent : Nat := 0
  /-- 10 R386: the neighbour has the node's own id -/
  dup : Bool := false
  /-- 10 R381: credits in hand -/
  credits : Nat := 8
  /-- 10 R380: items waiting, oldest first -/
  items : List HipItem := []
  /-- 10 R381: data frames waiting for a credit -/
  frames : List HipFrame := []
  /-- 10 R379: the items last launched, latest last, 32 at most -/
  out : List HipItem := []
  /-- 10 R380: device time at which the transmitter is free for another item -/
  freeAt : Nat := 0
  /-- 10 R383: device time of the last valid HELLO -/
  helloAt : Nat := 0
  /-- 10 R383: device time of the last HELLO sent -/
  sentAt : Nat := 0
  /-- 10 R381: the data frame last launched -/
  outFrame : Option HipFrame := none
  /-- 02 R77: the neighbour is HIP-timed, as learnt from its probes -/
  timed : Bool := false
deriving DecidableEq, Repr

/-- Tree formation and routing (R383 to R387). -/
structure TreeSt where
  /-- 10 R386: link toward each node id, plus 1 -/
  routes : Tab Nat := []
  /-- 10 R385: the new choice: root, distance, parent link (15 none), is root; and since when -/
  choice : Option (Nat × Nat × Nat × Bool) := none
  /-- 10 R385: device time at which that choice first stood -/
  choiceAt : Nat := 0
deriving DecidableEq, Repr

/-- A running Gauge job (R398). -/
structure GJob where
  input : Nat
  /-- 0 switching, 1 settling, 2 converting -/
  phase : Nat := 0
  started : Nat
  sample : Nat := 0
  raws : List Int := []
  urgent : Bool := false
  restarts : Nat := 0
  stepped : Bool := false
  diag : Bool := false
  code : Nat := 0
  cfgA : U32 := 0
  cfgB : U32 := 0
  order : Nat := 0
deriving DecidableEq, Repr

/-- A job waiting to start (R406, R410, R415). -/
structure GDue where
  input : Nat
  due : Nat
  /-- 0 urgent, 1 restarted or stepped, 2 scheduled -/
  rank : Nat
  restarts : Nat := 0
  stepped : Bool := false
  diag : Bool := false
deriving DecidableEq, Repr

/-- What a Gauge unit keeps of an input (R406, R413 to R416). -/
structure GInput where
  nextDue : Nat := 0
  jobs : Nat := 0
  lastAt : Nat := 0
  lastBad : Bool := true
  lastT : Int := 0
  admitted : Bool := false
deriving DecidableEq, Repr

/-- A Gauge unit's record of a course (R419, R420), and the body of the BREAK record that opens it (R61). -/
structure GCourse where
  course : Nat
  epoch : Nat
  dCourse : Nat
  start : Bool := false
  part : Bool := false
  maint : Bool := false
  degraded : Bool := false
  entries : List Nat := []
  partNo : Nat := 0
  missed : Nat := 0
  aborted : Nat := 0
  excf : Nat := 0
  opens : Nat := 0
  compl : Nat := 0
  lost : Nat := 0
  final : Bool := false
  brk : List Word := []
deriving DecidableEq, Repr

/-- A Gauge unit (R395 to R427). -/
structure UnitSt where
  /-- 11 R402: job of each slice -/
  jobs : Tab (Option GJob) := []
  /-- 11 R405: device time of each slice's latest accepted calibration -/
  calAt : Tab Nat := []
  /-- 11 R404: the background calibration has failed once -/
  calRetry : Bool := false
  /-- 11 R403: the calibrating slice has an accepted calibration and waits for the rotation -/
  calDone : Bool := false
  /-- 11 R406: jobs waiting to start -/
  due : List GDue := []
  /-- 11 R406: inputs -/
  inputs : Tab GInput := []
  /-- 11 R419: courses open, oldest first -/
  courses : List GCourse := []
  /-- 11 R420: courses without a record since the previous record -/
  skipped : Nat := 0
  /-- 11 R407: the full calibration of the unit in progress, its activity id plus 1 -/
  fullCal : Option Nat := none
  /-- 11 R409: jobs started so far -/
  starts : Nat := 0
  /-- 11 R422: readings in the buffer of 64 -/
  held : Nat := 0
  /-- 11 R423: returns at the next course boundary after a unit reset -/
  returning : Bool := false
deriving DecidableEq, Repr

/-- An image relay (R466 to R469). -/
structure RelaySt where
  copyB : Bool
  seq : Nat
  length : Nat
  page0 : List Nat := []
  next : Nat := 0
  /-- the page being programmed -/
  page : Option (Nat × List Nat) := none
  answer : Option (ReplyTo × Nat) := none
  id : Nat := 0
  /-- the page being programmed is page 0 (R468) -/
  closing : Bool := false
  /-- device time of the last relay directive (R469) -/
  lastAt : Nat := 0
  /-- pages written (R470) -/
  pages : Nat := 0
deriving DecidableEq, Repr

/-- An enable write whose check is in progress (R453). -/
structure Check where
  kind : Nat
  index : Nat
  enable : Bool
  /-- a directive's group check: lane group and tag to answer, count of units -/
  answer : Option (ReplyTo × Nat) := none
  count : Nat := 1
deriving DecidableEq, Repr

/-- A checked admission or retirement waiting for its boundary (R453). -/
structure Change where
  kind : Nat
  index : Nat
  enable : Bool
deriving DecidableEq, Repr

/-- A profile's section (R440, R441). -/
structure ProfSt where
  present : Bool := false
  pitch : Nat := 0
  n : Nat := 0
  obs : Nat := 0
  clk : Nat := 0
  runs : List (Nat × U32) := []
deriving DecidableEq, Repr

/-- Image, start-up, checks, profiles and directives (R428 to R470). -/
structure BootSt where
  /-- 12 R428: image memory A, bytes; an unlisted byte is erased, 0xFF -/
  imgA : List Host.Cell := []
  /-- 12 R428: image memory B, bytes -/
  imgB : List Host.Cell := []
  /-- 12 R443: a copy is active -/
  imageOn : Bool := false
  /-- 12 R443: candidates not yet tried, best first: true for copy B -/
  candidates : List Bool := []
  /-- 12 R438: DIRMASK -/
  dirMask : U32 := 0
  /-- 12 R438: access bounds: base, size, permissions -/
  bounds : List (Nat × Nat × Nat) := []
  /-- 12 R435: schedule entries -/
  sched : List U32 := []
  /-- 12 R462: second of the last request of each entry, plus 1 -/
  schedDone : Tab Nat := []
  /-- 12 R436: bridge weights -/
  bridge : List Nat := []
  /-- 12 R437: programs of the active copy: number, bytes -/
  progs : List (Nat × List Nat) := []
  /-- 12 R440: profile sections -/
  profs : Tab ProfSt := []
  /-- 12 R441: base values of the profile-scoped registers -/
  base : Tab (Option U32) := []
  /-- 12 R460: pending switch: profile, earliest device time -/
  pendProf : Option (Nat × Nat) := none
  /-- 12 R453: checks in progress, in arrival order -/
  checks : List Check := []
  /-- 12 R453: changes waiting for their boundary -/
  changes : List Change := []
  /-- 12 R466: the open relay -/
  relay : Option RelaySt := none
  /-- 12 R446: device time at RUN -/
  runAt : Nat := 0
  /-- 12 R435: GLOBAL.RUN of the active copy -/
  runFlag : Bool := false
  /-- 12 R435: PROF0 of the active copy -/
  prof0 : Nat := 0
  /-- 12 R445: the start-up calibrations are complete -/
  calibrated : Bool := false
deriving DecidableEq, Repr

/-- A registered maintenance activity (R495, R496): resources as (kind, first, last). -/
structure Activity where
  slot : Nat
  code : Nat
  id : Nat
  res : List (Nat × Nat × Nat)
  unit : Nat := 0
  /-- timing groups still to do (R106) -/
  todo : List Nat := []
  startAt : Nat := 0
deriving DecidableEq, Repr

/-- A ledger record to be written, or being written: kind, clean, part, body lines (R484). -/
structure LRec where
  kind : Nat
  clean : Bool := false
  part : Nat := 0
  body : List Word := []
deriving DecidableEq, Repr

/-- A directive taken by the management core and not completed (R473). -/
structure DirJob where
  code : Nat
  dst : ReplyTo
  tag : Nat
  data : Nat := 0
deriving DecidableEq, Repr

/-- A dump in progress (R504 to R506): whether it is a fatal one, its activity, the device time, course and epoch it
records, and the cores that it halted. -/
structure DumpSt where
  fatal : Bool
  id : Nat
  at_ : Nat := 0
  course : Nat := 0
  epoch : Nat := 0
  halted : List Nat := []
deriving DecidableEq, Repr

/-- A fatal error (R502): cause, unit id of R450, address of the structure, whether it freezes at once, the units that
are reset to recover, and whether a warm reset is needed. -/
structure Fatality where
  cause : Nat
  unit : Nat
  addr : Nat
  immediate : Bool
  units : List (Nat × Nat) := []
  warm : Bool := true
deriving DecidableEq, Repr

/-- Management cores, tenure, ledger and maintenance (R471 to R508). -/
structure MgmtSt where
  /-- 13 R474: device time of the last heartbeat of MC-N and MC-S -/
  beatAt : Tab Nat := []
  /-- 13 R474: device time of the last watchdog reset of each, plus 1 -/
  wdogAt : Tab Nat := []
  /-- 13 R477: half that requests tenure, plus 1 -/
  request : Nat := 0
  /-- 13 R477: device time of that request -/
  requestAt : Nat := 0
  /-- 13 R473: directives taken and not completed -/
  dirs : List DirJob := []
  /-- 13 R471: patch RAM of MC-N, bytes -/
  patchN : List Host.Cell := []
  /-- 13 R471: patch RAM of MC-S, bytes -/
  patchS : List Host.Cell := []
  /-- 13 R483: ledger lines, 128 bits -/
  ledger : Tab Word := []
  /-- 13 R487: tallies by counter id -/
  tally : Tab Nat := []
  /-- 13 R489: values last written by counter id -/
  written : Tab Nat := []
  /-- 13 R489: lines written since the last baseline -/
  sinceBase : Nat := 0
  /-- 13 R491: device time at which the present lap began -/
  lapAt : Nat := 0
  /-- 13 R489: device time of the last periodic commit -/
  commitAt : Nat := 0
  /-- 13 R493: number of the first epoch of this power-up -/
  firstEpoch : Nat := 0
  /-- 02 R83, 13 R493: the epoch before it, 0 when none is known -/
  prevEpoch : Nat := 0
  /-- 13 R486: powered seconds already counted by diode temperature -/
  binnedTo : Nat := 0
  /-- 13 R488: EVENT records by code in the interval -/
  events : Tab Nat := []
  /-- 13 R484: the record being written -/
  writing : Option LRec := none
  /-- 13 R491: records waiting to be written, oldest first -/
  waiting : List LRec := []
  /-- 13 R493: next guard slot -/
  guardSlot : Nat := 0
  /-- 13 R493: guard sequence -/
  guardSeq : Nat := 0
  /-- 13 R495: activity serial -/
  serial : Nat := 0
  /-- 13 R496: registered activities -/
  acts : List Activity := []
  /-- 13 R497: next due time of each schedule entry, plus 1 -/
  schedAt : Tab Nat := []
  /-- 13 R503: the device is frozen -/
  frozen : Bool := false
  /-- 13 R503: intake resumes at the next course boundary -/
  resumeDue : Bool := false
  /-- 13 R502: the fatal error being dealt with -/
  fatal : Option Fatality := none
  /-- 13 R502: a fatal error that freezes at the next course boundary -/
  fatalDue : Option Fatality := none
  /-- 13 R50, R502: kind of the warm reset in progress, as RST_CAUSE.KIND has it; 0 when none is -/
  warmKind : Nat := 0
  /-- 13 R481: both cores restart without patches -/
  noPatches : Bool := false
  /-- 13 R504: the dump in progress -/
  dump : Option DumpSt := none
  /-- 13 R505: loft records not yet released -/
  loft : List Desc := []
  /-- 13 R500: the NVM island's grace runs -/
  grace : Bool := false
  /-- 13 R473: device time of the last SATURATION NOTE by level, plus 1 -/
  satAt : Tab Nat := []
  /-- 13 R502: voted registers with an unrepaired disagreement -/
  voterBad : List Nat := []
  /-- 12 R439: patches of the active copy: target, bytes -/
  patches : List (Nat × List Nat) := []
deriving DecidableEq, Repr

/-- Pins and supplies (R518, R527 to R535). (log 136: DESIGN CHOICE) -/
structure PinSt where
  /-- 15 R531: internal power-good -/
  powerGood : Bool := true
  /-- 15 R541: RESET_N is low -/
  resetLow : Bool := false
  /-- 13 R499: PFAIL_N is low -/
  pfailLow : Bool := false
  /-- 13 R500: THERM_TRIP_N is asserted -/
  thermTrip : Bool := false
  /-- 15 R532: VEXC at or above 4.75 V -/
  vexcOk : Bool := true
  /-- 02 R80: FL_REF shows edges -/
  refOk : Bool := true
  /-- 12 R516: registers are answered: the PLL step of R445 has ended -/
  answered : Bool := false
  /-- 12 R516: the image has been applied, or RESCUE entered -/
  applied : Bool := false
deriving DecidableEq, Repr

/-- The Soffit port (R543, R544). (log 132: DESIGN CHOICE) -/
structure SoffitSt where
  /-- 15 R543: instruction register, 8 bits -/
  ir : BitVec 8 := 0xFF
  /-- 15 R544: DBG_REG data register as the next Capture-DR returns it, 72 bits -/
  dr : BitVec 72 := 0
  /-- 15 R543: boundary outputs: 0 normal, 1 driven by the cells, 2 held, 3 high impedance -/
  boundary : Nat := 0
  /-- 15 R543: the boundary cells hold a sampled or preloaded pattern -/
  sampled : Bool := false
deriving DecidableEq, Repr

/-- A scheduled trigger word (R69, R70). -/
structure TrgWord where
  kind : Nat
  cls : Nat
  id : Nat
  dAct : Nat
  actAt : Nat
deriving DecidableEq, Repr

/-- A pending switch of master time (R76 to R79). -/
structure Switch where
  /-- device time of the switch boundary -/
  at_ : Nat
  newA : Int
  cause : Nat
  jump : Int
deriving DecidableEq, Repr

/-- An epoch that records may still belong to: number, start, A, exponent, first grid point (R58). -/
structure EpochRec where
  num : Nat
  startAt : Nat
  a : Int
  n : Nat
  /-- started by a backward jump (R78) -/
  back : Bool := false
deriving DecidableEq, Repr

/-- Device time, courses and the flashing bus beside the time registers (R52 to R83). -/
structure TimeSt where
  /-- 02 R52: device time in Tf since the PLL's first lock, unwrapped -/
  d : Nat := 0
  /-- 02 R52: device time runs -/
  runs : Bool := false
  /-- 02 R56: alignment offset A in force, in Tf -/
  a : Int := 0
  /-- 02 R57: device time at which the present course began -/
  courseAt : Nat := 0
  /-- 02 R58: the epoch in force -/
  epoch : EpochRec := ⟨0, 0, 0, 14, false⟩
  /-- 02 R61: earlier epochs, latest first -/
  past : List EpochRec := []
  /-- 02 R59: causes of an epoch due at the next boundary -/
  causes : Nat := 0
  /-- 02 R80: A to take at the next epoch start -/
  nextA : Option Int := none
  /-- 02 R76: the pending switch -/
  switch : Option Switch := none
  /-- 02 R65: MCOUNT of the previous valid frame and the device time of its reference edge -/
  synPrev : Option (Nat × Nat) := none
  /-- 02 R66: A of the node's source: of the latest confirming frame, or the latest mean (R74) -/
  synA : Option Int := none
  /-- 02 R65: the candidate frame -/
  synCand : Option (Nat × Nat) := none
  /-- 02 R64: device time of the calendar second -/
  calAt : Nat := 0
  /-- 02 R70: trigger words scheduled to act -/
  words : List TrgWord := []
  /-- 02 R71: decisions waiting in the driver: class, id, M_ACT -/
  driver : List (Nat × Nat × Int) := []
  /-- 02 R67: device time at which the driver's line is free -/
  driverFree : Nat := 0
  /-- 02 R67: the trigger word last launched, plus 1 -/
  trgOut : Nat := 0
  /-- 02 R73: probes without a reply: sequence, t1 -/
  probes : List (Nat × Nat) := []
  /-- 02 R73: next probe sequence -/
  probeSeq : Nat := 0
  /-- 02 R73: device time at which the next probe is due -/
  probeAt : Nat := 0
  /-- 02 R73: offset and delay of the last 256 exchanges, latest first -/
  exch : List (Int × Int) := []
  /-- 02 R60: records are flagged UNALIGNED by R60, R74 or R75 -/
  unaligned : Bool := false
  /-- 02 R74: A derived from the node's source at least once since cold start -/
  everAligned : Bool := false
  /-- 02 R60: a cause was met that can start no epoch, so records are flagged UNALIGNED -/
  exhausted : Bool := false
  /-- 02 R63, R80: device time up to which the last holdover or time-code hold lasted -/
  heldTo : Nat := 0
deriving DecidableEq, Repr

/-- Why the machine can stop with a fault. (log 7: DEDUCED) -/
inductive Fault where
  /-- Raised by no command: the spec names no behaviour of the block that ends in a stuck machine. Safe. -/
  | none
deriving DecidableEq, Repr

/-- Why a command can have no meaning. (log 7: DEDUCED) -/
inductive Refusal where
  /-- Raised only by an arm of exec whose command has no meaning yet. Safe. -/
  | notModelled (mnemonic : String)
deriving DecidableEq, Repr

/-- The state of the block. -/
structure State where
  /-- the block's queue of waiting commands, first in first out; the model's, not the spec's -/
  pending : List Instr
  /-- 14 R509: the register file by byte address, 32 bits; an unlisted register holds its reset value -/
  regs : Tab U32
  /-- 00 R12, R84, R109, R421: values still in force, until the next course boundary, of registers written since the last -/
  staged : Tab (Option U32)
  /-- 14 R514: read latches by path and register -/
  latch : Tab U32
  /-- 14 R514, R237: word latched by each path's word window: address, word, poison -/
  winLatch : Tab (Option (Nat × Word × Bool))
  /-- 02: device time and courses -/
  time : TimeSt
  /-- 03: timing channels -/
  tch : Tab TchSt
  /-- 04, 05: Eave ports -/
  ports : Tab PortSt
  /-- 05: triggers and acquisition -/
  acq : AcqSt
  /-- 06: the store -/
  th : ThatchSt
  /-- 07: queues -/
  queues : Tab QueueSt
  /-- 07: Purlins by half -/
  purlins : Tab Purlin
  /-- 08: rafter cores -/
  cores : Tab CoreSt
  /-- 09: Shingle engines -/
  engines : Tab EngineSt
  /-- 10: Ridge lanes -/
  lanes : Tab LaneSt
  /-- 10: lane groups -/
  groups : Tab GroupSt
  /-- 10 R373: transactions outstanding at this node -/
  trans : List Trans
  /-- 10 R377: EVENT NOTEs of each (address, bit) in the course, written (1) and suppressed -/
  notes : Tab Nat
  /-- 10: Hip links -/
  links : Tab LinkSt
  /-- 10: tree -/
  tree : TreeSt
  /-- 11: Gauge units -/
  gauge : Tab UnitSt
  /-- 12: image, start-up, checks -/
  boot : BootSt
  /-- 13: management, ledger, maintenance -/
  mg : MgmtSt
  /-- 15: pins -/
  pins : PinSt
  /-- 15: Soffit -/
  soffit : SoffitSt
  /-- the model's own counter of free values drawn; not the spec's -/
  freeCtr : Nat
deriving DecidableEq, Repr

/-- The device in a cold reset whose cause has ended: supplies good, RESET_N high, the timing PLL not yet
locked, every register at its R23 value (R46, R48, R445, R516). (log 3: DESIGN CHOICE) -/
def State.reset : State where
  pending := []
  regs := []
  staged := []
  latch := []
  winLatch := []
  time := {}
  tch := []
  ports := []
  acq := {}
  th := {}
  queues := []
  purlins := []
  cores := []
  engines := []
  lanes := []
  groups := []
  trans := []
  notes := []
  links := []
  tree := {}
  gauge := []
  boot := {}
  mg := {}
  pins := {}
  soffit := {}
  freeCtr := 0

end Sys2Proof.Machine
end

