-- ==== Sys2Proof/Machine/Ops.lean ====
section
/-! DEFINITION. The named operations over registers, counters, flags, time and the ledger's tallies. -/

namespace Sys2Proof.Machine

/-- What a command answers. -/
abbrev Out := Host.Outcome State Fault Refusal

/-! ## Registers -/

/-- The register at byte address `a` (R16, R23). -/
def State.reg (s : State) (a : Nat) : U32 := Tab.get (regReset a) s.regs a

/-- The register at `a` holds `v`. -/
def State.setReg (s : State) (a : Nat) (v : U32) : State :=
  { s with regs := Tab.set (regReset a) s.regs a v }

/-- The field `f` as it reads now (R14). -/
def State.rd (s : State) (f : Field) : Nat := bits (s.reg f.addr).toNat f.lo f.w

/-- The field `f` takes `v`. -/
def State.wr (s : State) (f : Field) (v : Nat) : State :=
  s.setReg f.addr (BitVec.ofNat 32 (setBits (s.reg f.addr).toNat f.lo f.w v))

/-- The register in force at `a`: a boundary-scoped write waits for the next boundary (R12). -/
def State.effReg (s : State) (a : Nat) : U32 := (Tab.get none s.staged a).getD (s.reg a)

/-- The field `f` in force (R12). -/
def State.eff (s : State) (f : Field) : Nat := bits (s.effReg f.addr).toNat f.lo f.w

/-- A one-bit field read as a truth value. -/
def State.on (s : State) (f : Field) : Bool := s.rd f == 1

/-- A one-bit field in force, read as a truth value. -/
def State.effOn (s : State) (f : Field) : Bool := s.eff f == 1

/-- A saturating counter field counts `n` (R18, R21). -/
def State.count (s : State) (f : Field) (n : Nat := 1) : State :=
  s.wr f (min (2 ^ f.w - 1) (s.rd f + n))

/-- An event or status bit is set. -/
def State.flag (s : State) (f : Field) : State := s.wr f 1

/-- A register written so that the change waits for the next course boundary (R12). -/
def State.stage (s : State) (a : Nat) (v : U32) : State :=
  let old := s.effReg a
  { s.setReg a v with staged := Tab.set none s.staged a (some old) }

/-- A free value (R26 of the spec's silences: entry 5), and the state that has drawn it. -/
def State.draw (s : State) : Nat × State :=
  ((Config.freeBits s.freeCtr).toNat, { s with freeCtr := s.freeCtr + 1 })

/-! ## Time -/

/-- Device time in Tf (R52). -/
def State.now (s : State) : Nat := s.time.d

/-- Time moves forward to `t`, never back (R11); it stands still while the PLL has not locked. -/
def State.advance (s : State) (t : Nat) : State :=
  if s.time.runs && decide (s.time.d < t) then { s with time := { s.time with d := t } } else s

/-- The timestamp of a device time (R11). -/
def stamp (d : Nat) : Nat := d % tsMod

/-- The device time nearest to now whose timestamp is `t` (R11). -/
def State.unwrap (s : State) (t : Nat) : Nat :=
  let base := s.time.d / tsMod * tsMod
  let c := base + t
  if c + tsMod / 2 < s.time.d then c + tsMod
  else if s.time.d + tsMod / 2 < c && decide (tsMod ≤ c) then c - tsMod
  else c

/-- Epoch in force (R60). -/
def State.epoch (s : State) : Nat := s.rd EPOCH.CUR

/-- Current course number (R58). -/
def State.course (s : State) : Nat := s.rd COURSE.CUR

/-- Length of a course in Tf (R12). -/
def State.courseLen (s : State) : Nat := 2 ^ s.time.epoch.n * tcTf

/-- Device time at which the present course ends: the next tick at which D plus A reaches a grid point
(R57, R58). -/
def State.nextBoundary (s : State) : Nat :=
  let len : Int := s.courseLen
  let a : Int := s.time.a - s.time.a % (tcTf : Int)
  let m : Int := (s.time.d : Int) + a
  (((m / len + 1) * len) - a).toNat

/-- The half that holds item `i` of `n` (R6). -/
def halfOf (n i : Nat) : Nat := if i < n / 2 then 0 else 1

/-- Whether the device is in RUN (R448). -/
def State.running (s : State) : Bool := s.on GLOBAL_CTRL.RUN

/-- Whether a warm reset is in progress (R46, R470). -/
def State.inWarm (s : State) : Bool := s.rd BOOT_STAT.STAGE == 11

/-- Whether the device is in RESCUE (R449, R470). -/
def State.rescue (s : State) : Bool := s.rd BOOT_STAT.STAGE == 10

/-- The device's reference is lost, or its flashing-bus time is on hold (R63, R80). -/
def State.holdover (s : State) : Bool :=
  s.on TIME_STAT.HOLDOVER || (s.rd TIME_CFG.SOURCE == 0 && s.on TIME_STAT.SYN_HOLD)

/-- The node's A is provisional, its parent lost, or an epoch due could not start (R60, R74, R75). -/
def State.unalignedNow (s : State) : Bool := s.time.unaligned || s.time.exhausted

/-- Tf from a duration in Purlin cycles of 1.25 ns (R33, R10). -/
def purlinCyclesTf (n : Nat) : Nat := n * 16384 / 5

/-- Purlin cycles in a duration in Tf. -/
def tfPurlinCycles (t : Nat) : Nat := t * 5 / 16384

/-- Tf in `n` µs: 2,560 Tc each (R10). -/
def usTf (n : Nat) : Nat := n * 2560 * tcTf

/-- µs in a duration in Tf. -/
def tfUs (t : Nat) : Nat := t / (2560 * tcTf)

/-- Powered seconds since the PLL locked (R486): 2,560,000,000 Tc each. -/
def State.seconds (s : State) : Nat := s.time.d / (2560000000 * tcTf)

/-! ## Words -/

/-- A word from fields (lowest bit, width, value) that do not overlap (R14, R24). -/
def mkWord (fs : List (Nat × Nat × Nat)) : Word :=
  BitVec.ofNat 128 (fs.foldl (fun acc f => acc + f.2.2 % 2 ^ f.2.1 * 2 ^ f.1) 0)

/-- A field of a word. -/
def wfield (w : Word) (lo n : Nat) : Nat := bits w.toNat lo n

/-- Entries of `w` bits packed upward from bit 0, `128 / w` to a word (R101, R160, R420). -/
def packWords (w : Nat) (es : List Nat) : List Word :=
  let per := 128 / w
  let n := ceilDiv es.length per
  (List.range n).map fun i =>
    mkWord ((List.range per).filterMap fun j =>
      (es[i * per + j]?).map fun e => (j * w, w, e))

/-! ## CRCs -/

/-- One bit of a CRC of width `w`, polynomial `p`, most significant bit first. -/
def crcBit (w p : Nat) (c : Nat) (b : Bool) : Nat :=
  let top := (c.testBit (w - 1)) != b
  let sh := c * 2 % 2 ^ w
  if top then Nat.xor sh p else sh

/-- CRC over bits given most significant first. -/
def crcMsb (w p init : Nat) (bs : List Bool) : Nat := bs.foldl (crcBit w p) init

/-- The low `n` bits of `v`, most significant first. -/
def bitsMsb (n v : Nat) : List Bool := (List.range n).map fun i => v.testBit (n - 1 - i)

/-- One byte of the reflected CRC-32C (R340). -/
def crc32cByte (c b : Nat) : Nat :=
  (List.range 8).foldl (fun c _ =>
    if c.testBit 0 then Nat.xor (c / 2) 0x82F63B78 else c / 2) (Nat.xor c b)

/-- CRC-32C of bytes: initial value and final inversion all ones (R340). -/
def crc32c (bs : List Nat) : Nat := Nat.xor (bs.foldl crc32cByte 0xFFFFFFFF) 0xFFFFFFFF

/-- The bytes of a word, lowest address first (R16). -/
def wordBytes (w : Word) : List Nat := (List.range 16).map fun i => bits w.toNat (8 * i) 8

/-! ## The ledger's tallies (R486, R487) -/

/-- The tally of counter `id`. -/
def State.tallyOf (s : State) (id : Nat) : Nat := Tab.get 0 s.mg.tally id

/-- The tally of counter `id` takes `v`, saturating at its width (R485, R486). -/
def State.setTally (s : State) (id v : Nat) : State :=
  let top := if 0x200 ≤ id && id ≤ 0x427 then 2 ^ 16 - 1 else 2 ^ 48 - 1
  { s with mg := { s.mg with tally := Tab.set 0 s.mg.tally id (min top v) } }

/-- An event counted in the ledger (R487). -/
def State.tally (s : State) (id : Nat) (n : Nat := 1) : State := s.setTally id (s.tallyOf id + n)

/-- The calendar second, 0 when none is known (R64, R494). (log 120: DEDUCED) -/
def State.calSec (s : State) : Nat := if s.on LG_CAL.VALID then s.rd CAL_SEC.SEC else 0

/-- An EVENT record is asked for (R488): written, or only counted beyond 16 of one code in an interval. -/
def State.ledgerEvent (s : State) (code : Nat) (args : List Nat) : State :=
  let n := Tab.get 0 s.mg.events code
  if 16 ≤ n then s.count LG_EVT_SUPP.N
  else
    let a := fun i => args.getD i 0
    let l1 := mkWord [(0, 16, code), (16, 16, s.epoch), (32, 32, s.course), (64, 64, s.now)]
    let l2 := mkWord [(0, 32, s.calSec), (32, 32, a 0), (64, 32, a 1), (96, 32, a 2)]
    let l3 := if 3 < args.length
      then [mkWord [(0, 32, a 3), (32, 32, a 4), (64, 32, a 5), (96, 32, a 6)]] else []
    { s with mg := { s.mg with
        events := Tab.set 0 s.mg.events code (n + 1)
        waiting := s.mg.waiting ++ [⟨3, false, 0, l1 :: l2 :: l3⟩] } }

/-! ## Units of the tables -/

/-- The port `p`. -/
def State.port (s : State) (p : Nat) : PortSt := Tab.get {} s.ports p

/-- The port `p` becomes `x`. -/
def State.setPort (s : State) (p : Nat) (x : PortSt) : State :=
  { s with ports := Tab.set {} s.ports p x }

/-- The timing channel `c`. -/
def State.chan (s : State) (c : Nat) : TchSt := Tab.get {} s.tch c

/-- The timing channel `c` becomes `x`. -/
def State.setChan (s : State) (c : Nat) (x : TchSt) : State :=
  { s with tch := Tab.set {} s.tch c x }

/-- The queue `q`. -/
def State.queue (s : State) (q : Nat) : QueueSt := Tab.get {} s.queues q

/-- The queue `q` becomes `x`, its PQ_STATE untouched. -/
def State.setQueue (s : State) (q : Nat) (x : QueueSt) : State :=
  { s with queues := Tab.set {} s.queues q x }

/-- The Purlin of half `h`. -/
def State.purlin (s : State) (h : Nat) : Purlin := Tab.get {} s.purlins h

/-- The Purlin of half `h` becomes `x`. -/
def State.setPurlin (s : State) (h : Nat) (x : Purlin) : State :=
  { s with purlins := Tab.set {} s.purlins h x }

/-- The core `k`. -/
def State.core (s : State) (k : Nat) : CoreSt := Tab.get {} s.cores k

/-- The core `k` becomes `x`. -/
def State.setCore (s : State) (k : Nat) (x : CoreSt) : State :=
  { s with cores := Tab.set {} s.cores k x }

/-- The engine `e`. -/
def State.engine (s : State) (e : Nat) : EngineSt := Tab.get {} s.engines e

/-- The engine `e` becomes `x`. -/
def State.setEngine (s : State) (e : Nat) (x : EngineSt) : State :=
  { s with engines := Tab.set {} s.engines e x }

/-- The lane `l`. -/
def State.lane (s : State) (l : Nat) : LaneSt := Tab.get {} s.lanes l

/-- The lane `l` becomes `x`. -/
def State.setLane (s : State) (l : Nat) (x : LaneSt) : State :=
  { s with lanes := Tab.set {} s.lanes l x }

/-- The lane group `g`. -/
def State.group (s : State) (g : Nat) : GroupSt := Tab.get {} s.groups g

/-- The lane group `g` becomes `x`. -/
def State.setGroup (s : State) (g : Nat) (x : GroupSt) : State :=
  { s with groups := Tab.set {} s.groups g x }

/-- The Hip link `i`. -/
def State.link (s : State) (i : Nat) : LinkSt := Tab.get {} s.links i

/-- The Hip link `i` becomes `x`. -/
def State.setLink (s : State) (i : Nat) (x : LinkSt) : State :=
  { s with links := Tab.set {} s.links i x }

/-- The Gauge unit of half `h`. -/
def State.unit (s : State) (h : Nat) : UnitSt := Tab.get {} s.gauge h

/-- The Gauge unit of half `h` becomes `x`. -/
def State.setUnit (s : State) (h : Nat) (x : UnitSt) : State :=
  { s with gauge := Tab.set {} s.gauge h x }

/-- The writer `w` of a region (R198). -/
def State.writer (s : State) (w : Nat) : WriterSt := Tab.get {} s.th.writers w

/-- The writer `w` becomes `x`. -/
def State.setWriter (s : State) (w : Nat) (x : WriterSt) : State :=
  { s with th := { s.th with writers := Tab.set {} s.th.writers w x } }

/-- Fold a state change over a list. -/
def State.each {α : Type} (s : State) (xs : List α) (f : State → α → State) : State := xs.foldl f s

/-- The numbers below `n` at which `f` reads 1. -/
def State.onesBelow (s : State) (n : Nat) (f : Nat → Field) : List Nat :=
  (List.range n).filter fun i => s.on (f i)

end Sys2Proof.Machine
end

