-- ==== Sys2Proof/Machine/Store.lean ====
section
/-! DEFINITION. The store: words, bundles and their holds, regions and rings (R194 to R207). -/

namespace Sys2Proof.Machine

/-- Registers listed away from 0 in a family: index and value, ascending. A register whose reset value is
0 and that is not listed reads 0. (log 4: PRESUMED) -/
def State.listed (s : State) (base stride n : Nat) : List (Nat × Nat) :=
  s.regs.filterMap fun (a, v) =>
    if decide (base ≤ a) && decide (a < base + stride * n) && (a - base) % stride == 0
    then some ((a - base) / stride, v.toNat) else none

/-- The canonical form of the store's words: addresses strictly rising, no unwritten word listed (R194, R222). -/
abbrev Memory.wf (words : Tab (Option TWord)) : Bool := Tab.wf (fun _ => none) words

/-- The word at address `a`; none when its valid bit is 0 (R194, R222). -/
def State.tword (s : State) (a : Nat) : Option TWord := Tab.get none s.th.words a

/-- The word at `a` becomes `x`. -/
def State.setTWord (s : State) (a : Nat) (x : Option TWord) : State :=
  { s with th := { s.th with words := Tab.set none s.th.words a x } }

/-- A word is written: its valid bit is set and poison cleared, unless the word itself is poisoned
(R222, R224). -/
def State.storeWord (s : State) (a : Nat) (d : Word) (poison : Bool := false) : State :=
  s.setTWord a (some ⟨d, poison⟩)

/-- What a read returns: 0 for an unwritten word, all ones with poison for a poisoned one (R222, R224). -/
def State.loadWord (s : State) (a : Nat) : Word × Bool :=
  match s.tword a with
  | none => (0, false)
  | some w => if w.poison then (BitVec.allOnes 128, true) else (w.data, false)

/-- Words of the store (R194). -/
def storeWords : Nat := 2 ^ 23

/-- Bank of a word address (R194). -/
def bankOf (a : Nat) : Nat := 16 * bits a 19 4 + bits a 0 4

/-- Half of a bundle (R194). -/
def bundleHalf (b : Nat) : Nat := if b < 16384 then 0 else 1

/-- First bundle of the dump loft (R196). -/
def loftFirst : Nat := 32512

/-- Whether a word lies in the dump loft (R196). -/
def inLoft (a : Nat) : Bool := decide (loftFirst ≤ a / 256) && decide (a / 256 < 32768)

/-- Hold count of a bundle (R200). -/
def State.holds (s : State) (b : Nat) : Nat := Tab.get 0 s.th.holds b

/-- Hold count of a bundle set. -/
def State.setHolds (s : State) (b n : Nat) : State :=
  { s with th := { s.th with holds := Tab.set 0 s.th.holds b n } }

/-- Half of a writer (R198). -/
def writerHalf (w : Nat) : Nat :=
  if w < 512 then halfOf 512 w
  else if w < 608 then halfOf 96 (w - 512)
  else if w < 616 then w % 2
  else if w < 704 then halfOf 64 (w - 640)
  else if w < 768 then 1 - halfOf 64 (w - 704)
  else halfOf 32 (w - 768)

/-- SOURCE of a writer's own records (R206). -/
def writerSource (w : Nat) : Nat :=
  if w < 512 then w
  else if w < 608 then 0x1000 + (w - 512)
  else if w < 610 then 0x2000 + w % 2
  else if w < 612 then 0x3000 + 16 * (w % 2)
  else if w < 614 then 0x5000 + w % 2
  else if w < 616 then 0x6000 + w % 2
  else if w < 704 then 0x4000 + (w - 640)
  else 0x4000 + (w - 704)

/-- Ports whose enable bit is set, ascending. -/
def State.enabledPorts (s : State) : List Nat :=
  (s.listed 0x100000 0x100 512).filterMap fun (p, v) => if v % 2 = 1 then some p else none

/-- Timing channels whose enable bit is set, ascending. -/
def State.enabledChans (s : State) : List Nat :=
  (s.listed 0x20000 0x100 96).filterMap fun (c, v) => if v % 2 = 1 then some c else none

/-- Bytes per µs of a port at most (R185): EV1, EV2, EV3. -/
def portRate (gen : Nat) : Nat := if gen = 0 then 48 else if gen = 1 then 192 else 640

/-- Whether a timing channel runs FULL: its RATE, or the pitch's default (R97). -/
def State.chanFull (s : State) (c : Nat) : Bool :=
  match s.rd (TCH_CTRL.RATE c) with
  | 0 => s.rd PROF_STAT.PITCH != 3
  | r => r == 1

/-- Bytes per µs of a timing channel at most (R185). -/
def State.chanRate (s : State) (c : Nat) : Nat := if s.chanFull c then 336 else 168

/-- The sources of acquisition group `g` in half `h`, by writer id, with their rates: the enabled units
(R180, R185). -/
def State.groupSources (s : State) (h g : Nat) : List (Nat × Nat) :=
  (s.enabledPorts.filterMap fun p =>
    if halfOf 512 p = h ∧ s.rd (RD_CTRL.GROUP p) = g
    then some (p, portRate (s.rd (EV_CTRL.GEN p))) else none) ++
  (s.enabledChans.filterMap fun c =>
    if halfOf 96 c = h ∧ s.rd (TCH_ACQ.GROUP c) = g
    then some (512 + c, s.chanRate c) else none)

/-- The ring of group `g` in half `h`: first bundle and length (R182). -/
def State.ring (s : State) (h g : Nat) : Nat × Nat :=
  if h = 0 then (s.rd (ACQ_RING_N.BASE g), s.rd (ACQ_RING_N.LEN g))
  else (s.rd (ACQ_RING_S.BASE g), s.rd (ACQ_RING_S.LEN g))

/-- The acquisition group of a port or timing channel writer (R180). -/
def State.writerGroup (s : State) (w : Nat) : Option Nat :=
  if w < 512 then some (s.rd (RD_CTRL.GROUP w))
  else if w < 608 then some (s.rd (TCH_ACQ.GROUP (w - 512)))
  else none

/-- Whether a writer's records go to a ring (R182, R203). -/
def State.circular (s : State) (w : Nat) : Bool :=
  match s.writerGroup w with
  | none => false
  | some g => s.effOn (ACQ_CTRL.MODE g)

/-- The slices of a group's ring in a half: writer, first bundle, length (R203). -/
def State.slices (s : State) (h g : Nat) : List (Nat × Nat × Nat) :=
  let src := s.groupSources h g
  let total := src.foldl (fun n x => n + x.2) 0
  let (base, len) := s.ring h g
  let own := src.map fun x => if total = 0 then 0 else len * x.2 / total
  let left := len - own.foldl (· + ·) 0
  let lens := own.mapIdx fun i n => if i < left then n + 1 else n
  ((src.zip lens).foldl (fun (acc : List (Nat × Nat × Nat) × Nat) x =>
    (acc.1 ++ [(x.1.1, acc.2, x.2)], acc.2 + x.2)) ([], base)).1

/-- The region that a writer appends to: first bundle and length in bundles (R198, R203). -/
def State.regionOf (s : State) (w : Nat) : Nat × Nat :=
  let own := (s.rd (TH_REGION.BASE w), s.rd (TH_REGION_LEN.LEN w))
  match s.writerGroup w with
  | none => own
  | some g =>
    if s.effOn (ACQ_CTRL.MODE g) then
      match (s.slices (writerHalf w) g).find? (fun x => x.1 == w) with
      | some x => x.2
      | none => own
    else own

/-- The regions and slices of the image: writer, first bundle, length. -/
def State.regions (s : State) : List (Nat × Nat × Nat) :=
  ((s.listed 0x302004 8 1024).map fun (w, _) =>
    (w, s.rd (TH_REGION.BASE w), s.rd (TH_REGION_LEN.LEN w))) ++
  ((List.range 16).filter (fun g => s.effOn (ACQ_CTRL.MODE g))).flatMap fun g =>
    s.slices 0 g ++ s.slices 1 g

/-- The writer, first bundle and length of the region that holds bundle `b`; the rest of the store when
none does (R199). -/
def State.regionAt (s : State) (b : Nat) : Option Nat × Nat × Nat :=
  match s.regions.find? (fun x => decide (x.2.1 ≤ b) && decide (b < x.2.1 + x.2.2)) with
  | some (w, base, len) => (some w, base, len)
  | none => (none, b, 32768 - b)

/-- Address of the `i`-th word of a record that begins at `a`, with the wrap of R199. -/
def State.recAddr (s : State) (a i : Nat) : Nat :=
  let (_, base, len) := s.regionAt (a / 256)
  let first := base * 256
  if len = 0 then a + i else first + (a - first + i) % (len * 256)

/-- The word addresses of a run of words that a writer or engine wrote without a link (R199). -/
def State.runAddrs (s : State) (r : RecAt) : List Nat :=
  let (_, base, len) := s.regionAt (r.addr / 256)
  let first := base * 256
  (List.range r.len).map fun i =>
    if len = 0 then r.addr + i else first + (r.addr - first + i) % (len * 256)

/-- The bundles that hold a word of such a run, each once (R200). -/
def State.runBundles (s : State) (r : RecAt) : List Nat :=
  let (_, base, len) := s.regionAt (r.addr / 256)
  let n := ceilDiv (r.addr % 256 + r.len) 256
  ((List.range n).map fun i =>
    if len = 0 then r.addr / 256 + i else base + (r.addr / 256 - base + i) % len).eraseDups

/-- The bits of a word as written, poisoned or not. -/
def State.rawWord (s : State) (a : Nat) : Nat := ((s.tword a).map fun w => w.data.toNat).getD 0

/-- The segments that follow one of a container, each named by the link word that ends the one before (R342):
`left` words of the container remain. -/
def State.linkedRuns (s : State) : Nat → Nat → Nat → List RecAt
  | 0, _, _ => []
  | fuel + 1, linkAt, left =>
    if left = 0 then []
    else
      let l := s.rawWord linkAt
      let n := min left (bits l 16 9)
      let a := bits l 0 15 * 256
      if n = 0 then [] else ⟨a, n⟩ :: State.linkedRuns s fuel (a + n - 1) (left - n)

/-- The runs of words that make up a record: itself, or the segments of a container that has link words, which every
hardware reader follows (R337, R342). -/
def State.segments (s : State) (r : RecAt) : List RecAt :=
  let h := s.rawWord r.addr
  if bits h 0 4 = 10 ∧ bits h 92 1 = 1 then
    let seg0 := min r.len (bits (s.rawWord (s.recAddr r.addr 1)) 64 16)
    ⟨r.addr, seg0⟩ :: s.linkedRuns r.len (s.recAddr r.addr (seg0 - 1)) (r.len - seg0)
  else [r]

/-- The word addresses of a record, link words included (R199, R342). -/
def State.recAddrs (s : State) (r : RecAt) : List Nat := (s.segments r).flatMap s.runAddrs

/-- The word addresses of a record without its link words (R342). -/
def State.bodyAddrs (s : State) (r : RecAt) : List Nat :=
  match (s.segments r).reverse with
  | last :: rest => (rest.reverse.flatMap fun x => (s.runAddrs x).dropLast) ++ s.runAddrs last
  | [] => []

/-- The bundles that hold a word of a record, each once (R200, R342). -/
def State.recBundles (s : State) (r : RecAt) : List Nat := ((s.segments r).flatMap s.runBundles).eraseDups

/-- The record of a descriptor (R246). -/
def Desc.place (d : Desc) : RecAt := ⟨d.bundle * 256 + d.word, d.len⟩

/-- A record takes one hold on each of its bundles (R200). -/
def State.hold (s : State) (r : RecAt) : State :=
  s.each (s.recBundles r) fun s b => s.setHolds b (s.holds b + 1)

/-- A record releases one hold on each of its bundles (R200). -/
def State.release (s : State) (r : RecAt) : State :=
  s.each (s.recBundles r) fun s b => s.setHolds b (s.holds b - 1)

/-- Whether a bundle is free: recycled since it last held words of a record (R201). -/
def State.isFree (s : State) (b : Nat) : Bool := !s.th.dirty.contains b

/-- Bundle of a writer's write pointer (R199). -/
def State.wpBundle (s : State) (w : Nat) : Nat :=
  let (base, len) := s.regionOf w
  if len = 0 then base else base + (s.writer w).wp / 256 % len

/-- Records allocated by ALLOC and not yet pushed or abandoned, of every core (R201, R289). -/
def State.openAllocs (s : State) : List RecAt := s.cores.flatMap fun x => x.2.allocs

/-- Whether the writer of a bundle has left it (R201): its write pointer lies in another bundle, or stands
at the first word of this one with nothing of a new pass written, and no record still being written has a
word there. -/
def State.writerLeft (s : State) (b : Nat) : Bool :=
  let here := match (s.regionAt b).1 with
    | none => false
    | some w => s.wpBundle w == b && (s.writer w).wp % 256 != 0
  !here && !(s.openAllocs.any fun r => (s.recBundles r).contains b)

/-- A bundle is recycled: its 256 words become unwritten and it is free (R201). -/
def State.recycle (s : State) (b : Nat) : State :=
  { s with th := { s.th with
      words := s.th.words.filter fun x => x.1 / 256 != b
      dirty := s.th.dirty.filter (· != b) } }

/-- The bundles that `n` words from a write pointer would enter anew, when they fit without coming round
to the bundle the pointer stands in (R202): none when they do not. -/
def State.enters (s : State) (w n : Nat) : Option (List Nat) :=
  let (base, len) := s.regionOf w
  let wp := (s.writer w).wp % (len * 256)
  if len = 0 ∨ len * 256 < n + wp % 256 then none
  else
    let first := if wp % 256 = 0 then 0 else 1
    let last := (wp % 256 + n + 255) / 256
    some ((List.range last).drop first |>.map fun i => base + (wp / 256 + i) % len)

/-- Whether `n` words can be written at once at a writer's pointer (R202). -/
def State.fits (s : State) (w n : Nat) : Bool :=
  match s.enters w n with
  | none => false
  | some bs => bs.all s.isFree

/-- `n` words are taken at a writer's pointer: the record's place, and the state with the pointer moved and
the bundles in use (R199). -/
def State.takeWords (s : State) (w n : Nat) : RecAt × State :=
  let (base, len) := s.regionOf w
  let wp := (s.writer w).wp % (len * 256)
  let r : RecAt := ⟨base * 256 + wp, n⟩
  let bs := s.runBundles r
  let s := s.setWriter w { s.writer w with wp := (wp + n) % (len * 256) }
  (r, { s with th := { s.th with
        dirty := s.th.dirty ++ bs.filter fun b => !s.th.dirty.contains b } })

/-- Words written at a record's place (R199). -/
def State.storeRec (s : State) (r : RecAt) (ws : List Word) : State :=
  s.each ((s.runAddrs r).zip ws) fun s (a, w) => s.storeWord a w

/-- The free bundles of a half's chain pool are shown in SH_CHAIN_FREE (R341, R351). -/
def State.poolFree (s : State) (h : Nat) : List Nat :=
  let (b, n) := if h = 0 then (s.rd SH_CHAIN_N.BASE, s.rd SH_CHAIN_N.LEN)
    else (s.rd SH_CHAIN_S.BASE, s.rd SH_CHAIN_S.LEN)
  ((List.range n).map fun i => b + i).filter s.isFree

/-- SH_CHAIN_FREE shows the pools as they stand (R351). -/
def State.syncPool (s : State) : State :=
  (s.wr SH_CHAIN_FREE.N (s.poolFree 0).length).wr SH_CHAIN_FREE.S (s.poolFree 1).length

/-- The words of a record as stored, and whether any is poisoned (R225). -/
def State.readRec (s : State) (r : RecAt) : List Word × Bool :=
  let ws := (s.bodyAddrs r).map s.loadWord
  (ws.map (·.1), ws.any (·.2))

/-- The flag bits [95:88] of a record header (R205). -/
structure HdrFlags where
  poison : Bool := false
  holdover : Bool := false
  unaligned : Bool := false
  raw : Bool := false
  cont : Bool := false
  fw : Bool := false
deriving DecidableEq, Repr

/-- A record header (R205). -/
def header (typ src epoch course len : Nat) (f : HdrFlags) (node seq : Nat) : Word :=
  mkWord [(0, 4, typ), (8, 16, src), (24, 16, epoch), (40, 32, course), (72, 16, len),
    (88, 1, b2n f.poison), (89, 1, b2n f.holdover), (90, 1, b2n f.unaligned), (91, 1, b2n f.raw),
    (92, 1, b2n f.cont), (93, 1, b2n f.fw), (96, 16, node), (112, 16, seq)]

/-- The time-quality flags that a record written now carries (R60, R63, R80). (log 18: DEDUCED) -/
def State.quality (s : State) : HdrFlags := { holdover := s.holdover, unaligned := s.unalignedNow }

/-- The time-quality flags of a record whose data was taken from device time `t` on (R60, R63, R80, R205).
(log 18: DEDUCED) -/
def State.qualitySince (s : State) (t : Nat) : HdrFlags :=
  { s.quality with holdover := s.holdover || decide (t < s.time.heldTo) }

end Sys2Proof.Machine
end

