-- ==== Sys2Proof/Machine/Queues.lean ====
section
/-! DEFINITION. Queues, descriptors, wait conditions and ready lists (R240 to R262). -/

namespace Sys2Proof.Machine

/-- A queue range given by first queue and count minus 1 holds `q`. -/
def inRange (first count q : Nat) : Bool := decide (first ≤ q) && decide (q ≤ first + count)

/-- The writer that owns a queue by naming it in its own registers (R240); none for a firmware queue.
(log 68: DEDUCED) -/
def State.queueOwner (s : State) (q : Nat) : Option Nat :=
  ((s.listed 0x100010 0x100 512).find? fun x => inRange (bits x.2 0 14) (bits x.2 16 5) q).map (·.1)
  <|> ((s.listed 0x20018 0x100 96).find? fun x => inRange (bits x.2 0 14) (bits x.2 16 4) q).map
        (fun x => 512 + x.1)
  <|> ((s.listed Addr.NT_CFG 4 1).findSome? fun x =>
        if bits x.2 0 14 = q then some 614 else if bits x.2 16 14 = q then some 615 else none)
  <|> ((s.listed (Addr.ACQ_MQ 0) 0x40 16).findSome? fun x =>
        if bits x.2 0 14 = q then some 610 else if bits x.2 16 14 = q then some 611 else none)
  <|> ((s.listed Addr.TRG_PQ 4 1).findSome? fun x =>
        if bits x.2 0 14 = q then some 608 else if bits x.2 16 14 = q then some 609 else none)
  <|> ((s.listed (Addr.GA_Q 0) 0x4000 2).findSome? fun x =>
        if bits x.2 0 14 = q then some (612 + x.1) else none)
  <|> ((s.listed (Addr.SH_QCFG_OUTQ 0) 8 16384).findSome? fun x =>
        if bits x.2 0 14 = q then some (768 + s.eff (PQ_CFG.TARGET x.1)) else none)

/-- Half of a queue: its owner's, or PQ_CFG.HALF for a queue without a hardware owner (R8, R240). (log 68: DEDUCED) -/
def State.queueHalf (s : State) (q : Nat) : Nat :=
  match s.queueOwner q with
  | some w => writerHalf w
  | none => s.rd (PQ_CFG.HALF q)

/-- SOURCE of the source that owns a queue (R206, R226). -/
def State.queueSource (s : State) (q : Nat) : Nat :=
  match s.queueOwner q with
  | some w => writerSource w
  | none => 0x4000

/-- Whether a queue has reached its limit (R244). -/
def State.atLimit (s : State) (q : Nat) : Bool :=
  decide (s.rd (PQ_LIM.CAP q) - 4 ≤ (s.queue q).descs.length)

/-- Whether a queue takes new pushes: admitted and not retired (R242, R260). -/
def State.queueOpen (s : State) (q : Nat) : Bool := (s.queue q).admitted && !(s.queue q).retired

/-- Whether a hardware source refuses to open a record for queue `q` (R244, R260). -/
def State.queueRefuses (s : State) (q : Nat) : Bool := s.atLimit q || !s.queueOpen q

/-- Whether the head of a queue stands in a ready list (R254). -/
def State.isReady (s : State) (q : Nat) : Bool :=
  ((s.purlin 0).ready ++ (s.purlin 1).ready).any fun r => r.queue == q && !r.restarted

/-- Whether a SERIAL queue's task runs (R248). -/
def State.isBusy (s : State) (q : Nat) : Bool :=
  s.effOn (PQ_CFG.SERIAL q) && decide (0 < (s.queue q).running)

/-- The state of a queue (R248). -/
def State.queueState (s : State) (q : Nat) : Nat :=
  let x := s.queue q
  if !x.admitted then 0
  else if x.retired && x.descs.isEmpty && x.running == 0 then 0
  else if s.isBusy q then 4
  else if x.descs.isEmpty then 1
  else if s.on (PQ_CFG.FOLLOW q) then 5
  else if s.isReady q then 3
  else 2

/-- PQ_STATE shows the queue as it stands (R270). -/
def State.syncQueue (s : State) (q : Nat) : State :=
  let x := s.queue q
  let n := x.descs.length
  let s := s.wr (PQ_STATE.STATE q) (s.queueState q)
  let s := s.wr (PQ_STATE.DEPTH q) n
  let s := s.wr (PQ_STATE.HWM q) (max n (s.rd (PQ_STATE.HWM q)))
  let s := s.wr (PQ_STATE.AT_LIMIT q) (b2n (x.admitted && s.atLimit q))
  s.wr (PQ_STATE.DRAINING q) (b2n (x.retired && !x.descs.isEmpty))

/-- A decision entered in the trace ring, in TRACE mode (R266 to R268). (log 67: DEDUCED) -/
def State.trace (s : State) (h kind q unit prio cls course wait : Nat) : State :=
  let base := s.rd (PD_TRACE_RING.BASE h)
  let len := s.rd (PD_TRACE_RING.LEN h)
  if s.on (PD_CTRL.OBS h) && len != 0 then
    let p := s.purlin h
    let w := mkWord [(0, 48, s.now / tcTf), (48, 4, kind), (52, 14, q), (66, 6, unit), (72, 3, prio),
      (75, 4, cls), (79, 32, course), (111, 16, min wait 0xFFFF), (127, 1, h)]
    let s := s.storeWord (base * 256 + p.traceAt % (len * 256)) w
    s.setPurlin h { p with traceAt := (p.traceAt + 1) % (len * 256) }
  else s

/-- The unit of a trace entry when no core is concerned: the sink's target (R268). -/
def State.traceUnit (s : State) (q : Nat) : Nat :=
  if s.eff (PQ_CFG.SINK q) = 0 then 0 else s.eff (PQ_CFG.TARGET q)

/-- Course number `a` stands before `b` in an epoch whose numbers wrap modulo 2^32 (R58). -/
def numBefore (a b : Nat) : Bool := a != b && decide ((b + 2 ^ 32 - a % 2 ^ 32) % 2 ^ 32 < 2 ^ 31)

/-- Order of courses: by epoch, then by number (R58, R60). -/
def courseLt (a b : Nat × Nat) : Bool := decide (a.1 < b.1) || (a.1 == b.1 && numBefore a.2 b.2)

/-- The epoch and course of a queued descriptor. -/
def QEntry.when_ (e : QEntry) : Nat × Nat := (e.epoch, e.desc.course)

/-- The members of a leader's join set, by member number (R249). -/
def State.joinSet (s : State) (q : Nat) : List Nat :=
  (List.range (s.rd (PQ_JOIN.JCOUNT q) + 1)).map fun i =>
    s.rd (PQ_JOIN.JFIRST q) + i * s.rd (PQ_JOIN.JSTRIDE q)

/-- Whether a queue's owner is out of service (R250). -/
def State.ownerOut (s : State) (q : Nat) : Bool :=
  match s.queueOwner q with
  | none => false
  | some w =>
    if w < 512 then s.rd (EV_STAT.STATE w) != 6
    else if w < 608 then !s.on (TCH_STAT.ACTIVE (w - 512)) || (s.chan (w - 512)).oosAt.isSome
    else if 612 ≤ w ∧ w < 614 then !s.on (GA_STAT.ACTIVE (w - 612))
    else false

/-- Whether member `m` of a join is present, absent (false), or still awaited, for course `k` (R250). -/
def State.memberAt (s : State) (m : Nat) (k : Nat × Nat) : Option Bool :=
  match (s.queue m).descs.head? with
  | some e =>
    if e.when_ == k then some true
    else if courseLt k e.when_ || s.ownerOut m then some false
    else none
  | none => if s.ownerOut m then some false else none

/-- The MISSING mask of a join at course `k`: every member not present (R250, R253). -/
def State.missingAt (s : State) (leader : Nat) (k : Nat × Nat) : Nat :=
  ((s.joinSet leader).zipIdx.map fun (m, i) =>
    if m == leader || s.memberAt m k == some true then 0 else 2 ^ i).foldl (· + ·) 0

/-- The leader of a follower among the queues in use (R249). -/
def State.leaderOf (s : State) (q : Nat) : Option Nat :=
  (s.queues.map (·.1)).find? fun l =>
    l != q && !s.on (PQ_CFG.FOLLOW l) && s.eff (PQ_CFG.WAIT l) == 1 && (s.joinSet l).contains q

/-- Ready tasks that will take one from a flag at dispatch (R252). (log 64: DEDUCED) -/
def State.flagClaims (s : State) (h f : Nat) : Nat :=
  ((s.purlin h).ready.filter fun r =>
    !r.timeout && !r.restarted && match (s.queue r.queue).descs.head? with
      | some e => e.desc.wait == 3 && e.desc.arg == f
      | none => false).length

/-- Whether a head waits on flag `f` of half `h` since before the head of `q` (R252). (log 64: DEDUCED) -/
def State.flagBefore (s : State) (h f q : Nat) : Bool :=
  s.queues.any fun (q2, x2) =>
    q2 != q && match x2.descs.head? with
      | some e => e.desc.wait == 3 && e.desc.arg == f && !s.isReady q2 && !s.isBusy q2 &&
          s.queueHalf q2 == h && (decide (x2.headAt < (s.queue q).headAt) ||
            (x2.headAt == (s.queue q).headAt && decide (q2 < q)))
      | none => false

/-- Whether the head's wait condition is met (R250, R252). -/
def State.waitMet (s : State) (q : Nat) (e : QEntry) : Bool :=
  match e.desc.wait with
  | 0 => true
  | 1 => (s.joinSet q).all fun m => m == q || (s.memberAt m e.when_).isSome
  | 2 => e.epoch != s.epoch || !numBefore s.course ((e.desc.course + e.desc.arg) % 2 ^ 32)
  | 3 =>
    let h := s.queueHalf q
    decide (s.flagClaims h e.desc.arg < s.rd (PD_FLAG.COUNT h e.desc.arg)) &&
      !s.flagBefore h e.desc.arg q
  | _ => false

/-- An item enters a half's ready lists, in order of entry and then of queue number (R254). -/
def insertReady (r : ReadyItem) : List ReadyItem → List ReadyItem
  | [] => [r]
  | x :: xs =>
    if r.readyAt < x.readyAt ∨ (r.readyAt = x.readyAt ∧ r.queue < x.queue) then r :: x :: xs
    else x :: insertReady r xs

/-- Whether core `k` is eligible for class `c` in its own half (R256). -/
def State.eligible (s : State) (c k : Nat) : Bool := bitAt (s.eff (PD_CLASS_MAP.CORES (k / 32) c)) (k % 32)

/-- Whether a ready task is one for the cores of its half (R258). -/
def State.forCores (s : State) (r : ReadyItem) : Bool := s.eff (PQ_CFG.SINK r.queue) == 0

/-- In STATS mode the most ready tasks eligible for each busy core of a half are kept (R266, R269). -/
def State.depthWatch (s : State) (h : Nat) : State :=
  if s.on (PD_CTRL.OBS h) then s
  else
    s.each ((s.cores.map (·.1)).filter fun k => k / 32 == h && (s.core k).task.isSome) fun s k =>
      let n := ((s.purlin h).ready.filter fun r => s.forCores r && s.eligible r.cls k).length
      s.wr (PD_CORE_DEPTH_MAX.DEPTH_MAX k) (max n (s.rd (PD_CORE_DEPTH_MAX.DEPTH_MAX k)))

/-- A task becomes ready (R254). -/
def State.makeReady (s : State) (r : ReadyItem) : State :=
  let h := s.queueHalf r.queue
  let p := s.purlin h
  (s.setPurlin h { p with ready := insertReady r p.ready }).depthWatch h

/-- The head of a queue that is not a follower becomes ready, with `TIMEOUT` at its expiry (R250, R253). -/
def State.readyHead (s : State) (q : Nat) (e : QEntry) (expired : Bool) : State :=
  let h := s.queueHalf q
  let missing := if e.desc.wait = 1 then s.missingAt q e.when_ else 0
  let s := s.makeReady
    { queue := q, prio := e.desc.prio, cls := e.desc.cls, readyAt := s.now, timeout := expired,
      missing := missing, members := if e.desc.wait = 1 then s.joinSet q else [] }
  let s := s.trace h (if expired then 3 else 0) q (s.traceUnit q) e.desc.prio e.desc.cls e.desc.course 0
  s.syncQueue q

/-- A follower's head is a late member of its leader (R251). -/
def State.isLate (s : State) (l : Nat) (e : QEntry) : Bool :=
  match (s.queue l).descs.head? with
  | some le => courseLt e.when_ le.when_
  | none =>
    match (s.queue l).last with
    | some k => courseLt e.when_ k || e.when_ == k
    | none => false

/-- Evaluate a queue: its head enters a ready list when its condition is met (R248, R250, R251). -/
def State.evalQueue (s : State) (q : Nat) : State :=
  match (s.queue q).descs.head? with
  | none => s
  | some e =>
    if s.isReady q || !(s.queue q).admitted then s
    else if s.on (PQ_CFG.FOLLOW q) then
      match s.leaderOf q with
      | some l =>
        if s.isLate l e then
          let h := s.queueHalf q
          let prio := s.eff (PQ_CFG.PRIO l)
          let cls := s.eff (PQ_CFG.CLASS l)
          let s := s.makeReady { queue := q, prio := prio, cls := cls, readyAt := s.now, late := true }
          let s := s.count (PD_LATE_MEMBER.N h)
          let s := s.trace h 8 q (s.traceUnit q) prio cls e.desc.course 0
          s.syncQueue q
        else s
      | none => s
    else if s.isBusy q then s
    else if s.waitMet q e then s.readyHead q e false
    else s

/-- Evaluate every queue in use, in ascending number (R254). -/
def State.settle (s : State) : State := s.each (s.queues.map (·.1)) State.evalQueue

/-- A hardware source's descriptor with what the Purlin fills in at the push (R246). -/
def State.fillDesc (s : State) (q : Nat) (d : Desc) : Desc :=
  { d with queue := q, cls := s.eff (PQ_CFG.CLASS q), prio := s.eff (PQ_CFG.PRIO q),
           wait := s.eff (PQ_CFG.WAIT q), arg := s.eff (PQ_CFG.ARG q) }

/-- A descriptor is pushed onto a queue (R244, R246, R248). -/
def State.pushQueue (s : State) (q : Nat) (d : Desc) (epoch : Nat) : State :=
  let x := s.queue q
  let was := s.atLimit q
  let s := s.setQueue q { x with
    descs := x.descs ++ [⟨d, epoch⟩]
    headAt := if x.descs.isEmpty then s.now else x.headAt }
  let s := s.syncQueue q
  let h := s.queueHalf q
  let s := if s.atLimit q && !was then
      (s.flag (PD_EVT.LIMIT h)).trace h 7 q (s.traceUnit q) d.prio d.cls d.course 0
    else s
  s.settle

/-- The first descriptor leaves a queue; the next becomes head (R248). -/
def State.popQueue (s : State) (q : Nat) : State :=
  let x := s.queue q
  (s.setQueue q { x with descs := x.descs.tail, headAt := s.now }).syncQueue q

/-- The descriptors of a join's members, popped from their queues, with the state that has popped them
(R250). -/
def State.takeMembers (s : State) (leader : Nat) (k : Nat × Nat) :
    List Nat → List (Option Desc) × State
  | [] => ([], s)
  | m :: ms =>
    let (d, s) :=
      if m == leader then (none, s)
      else match (s.queue m).descs.head? with
        | some e => if e.when_ == k then (some e.desc, s.popQueue m) else (none, s)
        | none => (none, s)
    let (ds, s) := State.takeMembers s leader k ms
    (d :: ds, s)

/-- A ready task leaves its list and its queue, and is handed over (R248, R250, R252, R262). (log 66: DEDUCED) -/
def State.takeItem (s : State) (h : Nat) (r : ReadyItem) (lent : Bool) : Option Task × State :=
  let p := s.purlin h
  let s := s.setPurlin h { p with ready := p.ready.filter fun x => x != r }
  let s := s.count (PD_DISPATCHED.N h)
  if r.restarted then
    match r.again with
    | some d :: ms =>
      (some ⟨{ d with restarted := true, lent := lent }, ms, h, s.epoch, r⟩, s.syncQueue r.queue)
    | _ => (none, s)
  else
    match (s.queue r.queue).descs.head? with
    | none => (none, s)
    | some e =>
      let q := r.queue
      let s := s.popQueue q
      let x := s.queue q
      let s := s.setQueue q { x with running := x.running + 1
                                     last := if r.late then x.last else some e.when_ }
      let s := if e.desc.wait = 3 ∧ !r.timeout ∧ !r.late then
          s.wr (PD_FLAG.COUNT h e.desc.arg) (s.rd (PD_FLAG.COUNT h e.desc.arg) - 1) else s
      let (ms, s) := s.takeMembers q e.when_ r.members
      let d := { e.desc with timeout := r.timeout, part := r.missing != 0, missing := r.missing,
                             late := r.late, lent := lent }
      let d := if r.late then { d with cls := r.cls, prio := r.prio, wait := 0, arg := 0 } else d
      let ms := ms.mapIdx fun i m => if r.members[i]? = some q then some d else m
      let s := s.syncQueue q
      (some ⟨d, ms, h, e.epoch, r⟩, s)

/-- The records delivered with a task (R250). -/
def Task.records (t : Task) : List RecAt :=
  if t.members.isEmpty then [t.desc.place]
  else t.members.filterMap fun m => m.map Desc.place

/-- The descriptors delivered with a task: its own, or those of a join's present members (R250). -/
def Task.descs (t : Task) : List Desc :=
  if t.members.isEmpty then [t.desc] else t.members.filterMap id

/-- The header that a hardware reader builds for a record whose header word is poisoned (R226). -/
def State.lostHeader (s : State) (d : Desc) : Word :=
  header 15 (s.queueSource d.queue) s.epoch d.course d.len { poison := true } (s.rd NODE_ID.ID) 0

/-- A record's words as a hardware reader delivers them, without link words, and whether any is poisoned (R225,
R226). -/
def State.deliverRec (s : State) (d : Desc) : List Word × Bool :=
  match (s.bodyAddrs d.place).map s.loadWord with
  | [] => ([], false)
  | (h, p) :: ws =>
    ((if p then s.lostHeader d else h) :: ws.map (·.1), p || ws.any (·.2))

/-- The holds of a task's delivered records are released (R200, R292). -/
def State.releaseTask (s : State) (t : Task) : State := s.each t.records State.release

/-- A task's completion reaches its queue (R248, R258, R292). -/
def State.taskDone (s : State) (t : Task) (unit : Nat) : State :=
  let q := t.desc.queue
  let x := s.queue q
  let s := s.setQueue q { x with running := x.running - 1
                                 headAt := if s.isBusy q then s.now else x.headAt }
  let s := s.trace t.half 2 q unit t.desc.prio t.desc.cls t.desc.course 0
  (s.syncQueue q).settle

end Sys2Proof.Machine
end

