-- ==== Sys2Proof/Machine/Records.lean ====
section
/-! DEFINITION. Records written by the hardware writers, notifications, refusals and responses
(R199 to R207, R374 to R377, R452, R523, R524). -/

namespace Sys2Proof.Machine

/-- A closed record is placed at its writer's pointer, its words stored, its bundles held, and its
descriptor pushed, or the record retained in its ring (R182, R199, R200). (log 55: DEDUCED) -/
def State.placeRec (s : State) (w : Nat) (p : PendRec) (epoch : Nat) : State :=
  let (r, s) := s.takeWords w p.words.length
  let s := (s.storeRec r p.words).hold r
  let d := { p.desc with bundle := r.addr / 256, word := r.addr % 256, len := r.len }
  if p.push then s.pushQueue d.queue d epoch
  else
    let ring := s.acq.ring ++ [⟨writerHalf w, (s.writerGroup w).getD 0, w, d, epoch⟩]
    { s with acq := { s.acq with ring := ring } }

/-- The epoch in a record's header (R205). -/
def PendRec.epoch (p : PendRec) : Nat := wfield (p.words.headD 0) 24 16

/-- A writer writes the records that wait, in order, until one meets a bundle that is not free (R202). -/
def State.flushPend (s : State) (w : Nat) : List PendRec → State
  | [] => s.setWriter w { s.writer w with pend := [] }
  | p :: ps =>
    if s.fits w p.words.length then State.flushPend (s.placeRec w p p.epoch) w ps
    else s.setWriter w { s.writer w with pend := p :: ps }

/-- A waiting writer goes on (R202). (log 55: DEDUCED) -/
def State.flushWriter (s : State) (w : Nat) : State := s.flushPend w (s.writer w).pend

/-- Whether a writer waits for a bundle (R202). (log 55: DEDUCED) -/
def State.waiting (s : State) (w : Nat) : Bool := !(s.writer w).pend.isEmpty

/-- Whether a writer can open a record for queue `q` (R202, R244, R503). -/
def State.writerRefuses (s : State) (w q : Nat) : Bool :=
  s.waiting w || s.queueRefuses q || s.mg.frozen

/-- A record is closed by writer `w`: header, body, and the descriptor for queue `q`, or none for a
retained record. A writer that cannot write it at once waits, which is counted (R202, R205, R207). (log 55: DEDUCED) -/
def State.emit (s : State) (w typ src epoch course : Nat) (body : List Word) (fl : HdrFlags)
    (q : Nat) (start final push : Bool) : State :=
  let x := s.writer w
  let len := body.length + 1
  let h := header typ src epoch course len fl (s.rd NODE_ID.ID) x.seq
  let d := s.fillDesc q
    { queue := q, course := course, len := len, start := start, final := final : Desc }
  let s := s.setWriter w { x with seq := (x.seq + 1) % 2 ^ 16, pend := x.pend ++ [⟨h :: body, d, push⟩] }
  let s := s.flushWriter w
  if s.waiting w && x.pend.isEmpty then
    s.count (if writerHalf w = 0 then TH_REGION_WAIT.N else TH_REGION_WAIT.S)
  else s

/-! ## Notifications (R376, R377, R523) -/

/-- KIND of a NOTE (R376). -/
inductive NoteKind where
  | event | refusal | summary | reset | saturation
deriving DecidableEq, Repr

/-- The code of a NOTE's kind (R376). -/
def NoteKind.code : NoteKind → Nat
  | .event => 0 | .refusal => 1 | .summary => 2 | .reset => 3 | .saturation => 4

/-- UNIT of a NOTE that concerns the whole device (R376). (log 57: DEDUCED) -/
def deviceWide : Nat := 0xFFFFFFFF

/-- A unit id of R450. (log 57: DEDUCED) -/
def unitId (kind index : Nat) : Nat := kind * 2 ^ 24 + index

/-- The latest NOTE is kept (R523). (log 56: DEDUCED) -/
def State.noteLast (s : State) (h addr bit : Nat) (k : NoteKind) (fate : Nat) : State :=
  let n := s.rd NOTE_LAST_INFO.COUNT + 1
  let s := s.wr NOTE_LAST_ADDR.A addr
  let s := s.wr NOTE_LAST_INFO.BIT bit
  let s := s.wr NOTE_LAST_INFO.KIND k.code
  let s := s.wr NOTE_LAST_INFO.HALF h
  let s := s.wr NOTE_LAST_INFO.FATE fate
  s.wr NOTE_LAST_INFO.COUNT n

/-- Body words that carry arguments ARG3 and on, four to a word (R376). -/
def noteTail (args : List Nat) : List Word :=
  let rest := args.drop 3
  (List.range (ceilDiv rest.length 4)).map fun i =>
    mkWord ((List.range 4).map fun j => (32 * j, 32, rest.getD (4 * i + j) 0))

/-- A NOTE is raised in half `h` (R376): written, suppressed, or lost at its queue's limit (R377). With no
arguments given, `ARG0` is the register's value. (log 56, 57: DEDUCED) -/
def State.note (s : State) (h addr bit : Nat) (k : NoteKind) (unit : Nat) (args : List Nat) : State :=
  let key := (h * 2 ^ 32 + addr) * 32 + bit
  let seen := Tab.get 0 s.notes key
  let w := 614 + h
  let q := if h = 0 then s.eff NT_CFG.QN else s.eff NT_CFG.QS
  if k = .event ∧ seen % 2 = 1 then
    let s := { s with notes := Tab.set 0 s.notes key (seen + 2) }
    (s.count NT_SUPP.N).noteLast h addr bit k 1
  else if s.queueRefuses q ∨ (s.regionOf w).2 = 0 then
    let s := if k = .event then { s with notes := Tab.set 0 s.notes key (seen + 2) } else s
    (s.count NT_LOST.N).noteLast h addr bit k 2
  else
    let args := if args.isEmpty then [(s.reg addr).toNat] else args
    let supp := if k = .event then min (seen / 2) 0xFFFF else 0
    let b1 := mkWord [(0, 64, stamp s.now), (64, 32, addr), (96, 5, bit), (101, 3, k.code),
      (112, 16, supp)]
    let b2 := mkWord [(0, 32, unit), (32, 32, args.getD 0 0), (64, 32, args.getD 1 0),
      (96, 32, args.getD 2 0)]
    let s := if k = .event then { s with notes := Tab.set 0 s.notes key 1 } else s
    let s := s.noteLast h addr bit k 0
    let s := s.count NT_SENT.N
    s.emit w 8 (0x6000 + h) s.epoch s.course (b1 :: b2 :: noteTail args) s.quality q false false true

/-- An EVENT NOTE that reports an event bit, with the register's value as its argument (R376). -/
def State.noteBit (s : State) (h : Nat) (f : Field) (unit : Nat) : State :=
  s.note h f.addr f.lo .event unit []

/-- An event bit is set and its NOTE raised (R376). (log 26: DEDUCED) -/
def State.event (s : State) (h : Nat) (f : Field) (unit : Nat) : State := (s.flag f).noteBit h f unit

/-- At a course boundary each event may be noted again; the suppressed ones stay counted (R377). -/
def State.renewNotes (s : State) : State :=
  { s with notes := s.notes.filterMap fun (k, v) => if v / 2 = 0 then none else some (k, v / 2 * 2) }

/-! ## Refusals (R450, R452) -/

/-- Half of a unit id of R450, for its NOTEs; north for a device-wide unit. -/
def unitHalf (kind index : Nat) : Nat :=
  match kind with
  | 1 => halfOf 512 index
  | 2 => halfOf 96 index
  | 4 => halfOf 64 index
  | 5 => halfOf 32 index
  | 6 => halfOf 32 index
  | 7 => halfOf 16 index
  | 8 => halfOf 8 index
  | 9 => index % 2
  | 10 => index / 32 % 2
  | _ => 0

/-- A refusal of the consistency check (R452). (log 57, 95: DEDUCED) -/
def State.refuse (s : State) (kind index reason detail : Nat) : State :=
  let s := s.wr REFUSE.REASON reason
  let s := s.wr REFUSE.DETAIL detail
  let s := s.wr REFUSE_UNIT.KIND kind
  let s := s.wr REFUSE_UNIT.INDEX index
  let s := s.flag REFUSE.NEW
  let s := s.count REFUSE_CNT.N
  s.note (unitHalf kind index) Addr.REFUSE REFUSE.NEW.lo .refusal (unitId kind index)
    [(s.reg Addr.REFUSE).toNat, (s.reg Addr.REFUSE_UNIT).toNat]

/-! ## Responses (R373 to R375) -/

/-- Status codes of R375. -/
inductive Status where
  | done | ignored | noAddress | denied | busy | poison | refused | linkDown | timeOut | linkLost
  | wrongState | badRequest | duplicate | noRoute
deriving DecidableEq, Repr

/-- The code of a status (R375). -/
def Status.code : Status → Nat
  | .done => 0 | .ignored => 1 | .noAddress => 2 | .denied => 3 | .busy => 4 | .poison => 5
  | .refused => 6 | .linkDown => 7 | .timeOut => 8 | .linkLost => 9 | .wrongState => 10
  | .badRequest => 11 | .duplicate => 12 | .noRoute => 13

/-- A response word (R374). -/
def responseWord (tag node st feSt retry data detail : Nat) : Word :=
  mkWord [(0, 16, tag), (16, 16, node), (32, 8, st), (40, 8, feSt), (48, 16, retry), (64, 32, data),
    (96, 32, detail)]

/-! ## Access errors (R524) -/

/-- Code of a path in ACC_ERR_INFO (R524). -/
def Path.accCode : Path → Nat
  | .ridge => 0 | .mcN => 1 | .mcS => 2 | .soffit => 3

/-- An access that completed IGNORED, NO_ADDRESS or DENIED is recorded (R524). -/
def State.accErr (s : State) (p : Path) (addr : Nat) (st : Status) (write : Bool) : State :=
  let s := s.wr ACC_ERR_ADDR.A addr
  let s := s.wr ACC_ERR_INFO.STATUS st.code
  let s := s.wr ACC_ERR_INFO.PATH (Path.accCode p)
  let s := s.wr ACC_ERR_INFO.WRITE (b2n write)
  s.count ACC_ERR_CNT.N

end Sys2Proof.Machine
end

