-- ==== Sys2Proof/Machine/Maint.lean ====
section
/-! DEFINITION. The maintenance registry (R495, R496, R508). -/

namespace Sys2Proof.Machine

/-- What a request to the registry comes to: an activity id, or a refusal with reason and detail. -/
inductive Grant where
  | refused (reason detail : Nat)
  | id (n : Nat)
deriving DecidableEq, Repr

/-- A resource word (R508). -/
def resWord (r : Nat × Nat × Nat) : Nat := r.1 * 2 ^ 28 + r.2.2 * 2 ^ 14 + r.2.1

/-- Whether two resources meet: one kind, and ranges that overlap (R496). -/
def resMeets (a b : Nat × Nat × Nat) : Bool :=
  a.1 == b.1 && decide (a.2.1 ≤ b.2.2) && decide (b.2.1 ≤ a.2.2)

/-- The registered activity in entry `e` (R496). -/
def State.actIn (s : State) (e : Nat) : Option Activity := s.mg.acts.find? fun a => a.slot == e

/-- The registered activity with an id (R495). -/
def State.act (s : State) (id : Nat) : Option Activity := s.mg.acts.find? fun a => a.id == id

/-- The registered activity of a code, if any. -/
def State.actOf (s : State) (code : Nat) : Option Activity := s.mg.acts.find? fun a => a.code == code

/-- The lowest-numbered entry's activity that holds one of the resources (R496). -/
def State.holder (s : State) (res : List (Nat × Nat × Nat)) : Option Activity :=
  (List.range 16).findSome? fun e =>
    (s.actIn e).filter fun a => a.res.any fun x => res.any fun y => resMeets x y

/-- A request is refused by the registry (R496). -/
def State.regRefused (s : State) (reason detail : Nat) : Grant × State :=
  (.refused reason detail, (s.flag MT_EVT.REFUSED).count MT_REFUSED.N)

/-- A request to register all its resources, or none (R495, R496). -/
def State.register (s : State) (code : Nat) (res : List (Nat × Nat × Nat)) (unit : Nat) :
    Grant × State :=
  match s.holder res with
  | some a => s.regRefused 0xE1 a.id
  | none =>
    match (List.range 16).find? fun e => (s.actIn e).isNone with
    | none => s.regRefused 0xE2 0
    | some e =>
      let serial := if s.mg.serial + 1 < 4096 then s.mg.serial + 1 else 1
      let id := code * 4096 + serial
      let a : Activity :=
        { slot := e, code := code, id := id, res := res, unit := unit, startAt := s.now }
      let s := { s with mg := { s.mg with serial := serial, acts := s.mg.acts ++ [a] } }
      let s := s.wr (MT_REG.ID e) id
      let s := s.wr (MT_REG.STATE e) 2
      let s := s.wr (MT_REG_RES0.RES0 e) ((res[0]?.map resWord).getD 0)
      let s := s.wr (MT_REG_RES1.RES1 e) ((res[1]?.map resWord).getD 0)
      let s := s.wr (MT_REG_COURSE.COURSE e) s.course
      let s := s.wr MT_STAT.USED s.mg.acts.length
      (.id id, s.count MT_STARTED.N)

/-- An activity leaves the registry, and its SUMMARY NOTE is raised: the arguments of its rule, then its
id, its result (0 complete, 1 aborted, 2 failed) and its time in µs (R496). (log 33, 57: DEDUCED) -/
def State.endAct (s : State) (a : Activity) (h addr bit : Nat) (args : List Nat) (result : Nat) :
    State :=
  let s := { s with mg := { s.mg with acts := s.mg.acts.filter fun b => b.slot != a.slot } }
  let s := s.wr (MT_REG.ID a.slot) 0
  let s := s.wr (MT_REG.STATE a.slot) 0
  let s := s.wr (MT_REG_RES0.RES0 a.slot) 0
  let s := s.wr (MT_REG_RES1.RES1 a.slot) 0
  let s := s.wr (MT_REG_COURSE.COURSE a.slot) 0
  let s := s.wr MT_STAT.USED s.mg.acts.length
  s.note h addr bit .summary a.unit (args ++ [a.id, result, tfUs (s.now - a.startAt)])

/-- The registered activity with an id changes by `f`. -/
def State.mapAct (s : State) (id : Nat) (f : Activity → Activity) : State :=
  let acts := s.mg.acts.map fun (a : Activity) => if a.id = id then f a else a
  { s with mg := { s.mg with acts := acts } }

/-- What every abort does besides the unit's own part (R498). -/
def State.abortBooks (s : State) (a : Activity) (reason : Nat) : State :=
  ((s.flag MT_EVT.ABORTED).count MT_ABORTED.N).ledgerEvent 0x08 [a.id, reason]

/-! ## The dump loft (R505) -/

/-- A descriptor leaves a list, once. -/
def dropDesc (d : Desc) : List Desc → List Desc
  | [] => []
  | x :: xs => if x.place = d.place ∧ x.queue = d.queue then xs else x :: dropDesc d xs

/-- Records of the loft have been released by their lane group: once all are, the dump's activity ends (R362, R505). -/
def State.loftDone (s : State) (ds : List Desc) : State :=
  if s.mg.loft.isEmpty || !(ds.any fun d => inLoft d.place.addr) then s
  else
    let loft := ds.foldl (fun l d => dropDesc d l) s.mg.loft
    let s : State := { s with mg := { s.mg with loft := loft } }
    if !loft.isEmpty || s.mg.dump.isSome then s
    else
      let s := s.wr MG_DUMP_STAT.HELD 0
      match s.actOf 1 with
      | some a => s.endAct a 0 Addr.MG_DUMP_STAT MG_DUMP_STAT.HELD.lo [s.rd MG_DUMP_STAT.NO] 0
      | none => s

end Sys2Proof.Machine
end

