-- ==== Sys2Proof/Machine/Control.lean ====
section
/-! DEFINITION. Control transactions: arrival, routing, responses, and what every directive shares
(R368 to R375, R386, R463). -/

namespace Sys2Proof.Machine

/-! ## Responses and Hip data frames -/

/-- The lane group of a lane, as active or spare (R360, R392). -/
def State.laneGroup (s : State) (l : Nat) : Option Nat :=
  let h := halfOf 32 l
  (List.range 16).find? fun g =>
    decide (g / 8 = h) &&
      (bitAt (s.rd (RG_GRP_CTRL.LANES g)) (l % 16) || bitAt (s.rd (RG_GRP_SPARE.MASK g)) (l % 16))

/-- Whether a receive pair can decode frames: its lane is neither DOWN nor PARKED (R357). (log 88: DEDUCED) -/
def State.rxDecodes (s : State) (l : Nat) : Bool :=
  s.rd (RG_LANE_STAT.STATE l) != 0 && s.rd (RG_LANE_STAT.STATE l) != 5

/-- A frame is received on a lane, which therefore holds lock (R357, R391). (log 88: DEDUCED) -/
def State.rxFrameOn (s : State) (l : Nat) : State := (s.flag (RG_LANE_STAT.RX_LOCK l)).count (RG_FRAMES_RX.N l)

/-- The link toward a node: the one recorded, or the parent (R386); none where there is no route. -/
def State.routeTo (s : State) (node : Nat) : Option Nat :=
  match Tab.get 0 s.tree.routes node with
  | 0 => if s.rd TREE_STAT.PARENT = 15 then none else some (s.rd TREE_STAT.PARENT)
  | n + 1 => some n

/-- An item leaves on a link; the latest 32 are kept (R379). -/
def State.hipLaunch (s : State) (l : Nat) (i : HipItem) : State :=
  let x := s.link l
  let out := x.out ++ [i]
  (s.setLink l { x with out := out.drop (out.length - 32) }).count (HIP_ITEMS_TX.N l)

/-- CREDIT (R378). -/
def kindCredit : Nat := 0x3C

/-- A link's waiting data frames leave while credits are in hand, each returning the credit of the link it came on
(R381). (log 98: DEDUCED) -/
def State.hipPump (s : State) (l : Nat) : List HipFrame → State
  | [] => s.setLink l { s.link l with frames := [] }
  | f :: fs =>
    let x := s.link l
    if x.credits = 0 ∨ s.rd (HIP_STAT.STATE l) ≠ 2 then s.setLink l { x with frames := f :: fs }
    else
      let s := s.setLink l { x with credits := x.credits - 1, outFrame := some f }
      let s := match f.back with
        | some b => s.hipLaunch b { kind := kindCredit, data := [1] }
        | none => s
      State.hipPump s l fs

/-- A data frame waits at a link's transmitter for a credit (R381). (log 98: DEDUCED) -/
def State.hipFrame (s : State) (link : Nat) (f : HipFrame) : State :=
  s.hipPump link ((s.link link).frames ++ [f])

/-- A whole one-frame payload for a node of the tree (R381, R386); none where no route exists. -/
def State.hipSend (s : State) (kind dest : Nat) (ws : List Word) : Option State :=
  (s.routeTo dest).map fun l =>
    s.hipFrame l
      { kind := kind, words := ws
        hdr := ⟨true, true, BitVec.ofNat 16 dest, BitVec.ofNat 16 (s.rd NODE_ID.ID)⟩ }

/-- A response waits at lane group `g` (R361); `ends` when it is the one that ends its transaction. -/
def State.respondWord (s : State) (g : Nat) (w : Word) (ends : Bool) : State :=
  let x := s.group g
  s.setGroup g { x with responses := x.responses ++ [(w, ends)] }

/-- The transaction with this tag and group ends at its entry node: its response is handed to a lane (R373). -/
def State.endTrans (s : State) (g tag : Nat) : State :=
  let s := { s with trans := s.trans.filter fun t => !(t.tag == tag && t.group == g) }
  s.wr RG_CTL_STAT.OUT s.trans.length

/-- A transaction has its response, which waits to be handed to a lane (R373). -/
def State.answerTrans (s : State) (g tag : Nat) : State :=
  let f := fun (t : Trans) => if t.tag = tag ∧ t.group = g then { t with answered := true } else t
  { s with trans := s.trans.map f }

/-- Word 0 of a REQUEST or RESPONSE payload on a Hip link (R381). -/
def hipEntryWord (node g : Nat) : Word := mkWord [(0, 4, g), (16, 16, node)]

/-- A response by this node, to its own group or back to the entry node (R373, R374, R386). (log 93: DEDUCED) -/
def State.respond (s : State) (dst : ReplyTo) (tag : Nat) (st : Status) (data detail : Nat)
    (retry : Nat := 0) (feSt : Nat := 0) : State :=
  let s := match st with
    | .busy => s.count RG_BUSY.N
    | .badRequest => s.count RG_BADREQ.N
    | _ => s
  let w := responseWord tag (s.rd NODE_ID.ID) st.code feSt retry data detail
  match dst with
  | .lanes g => (s.answerTrans g tag).respondWord g w true
  | .hip node g => (s.hipSend 2 node [hipEntryWord node g, w]).getD s

/-- A BUSY response: its retry hint is the device's estimate, a free value of 16 bits (R373). (log 93: DEDUCED) -/
def State.respondBusy (s : State) (dst : ReplyTo) (tag : Nat) : State :=
  let (r, s) := s.draw
  s.respond dst tag .busy 0 0 (r % 2 ^ 16)

/-! ## Arrival (R368, R373) -/

/-- The words of a request (R369). -/
def reqWords (tag target op port addr data : Nat) (args : List Word) : List Word :=
  mkWord [(0, 16, tag), (16, 16, target), (32, 4, op), (40, 5, args.length), (48, 9, port),
    (64, 32, addr), (96, 32, data)] :: args

/-- What becomes of a request that a lane receives: it is to be executed here, or has been dealt with.
(log 93: DEDUCED) -/
inductive Entry where
  | here (dst : ReplyTo) (s : State)
  | gone (s : State)

/-- A request arrives on a lane (R368, R373, R386): counted, tested for a tag outstanding and for room, and
kept outstanding; a request for another node is routed. A lane of no group has no group to answer on. -/
def State.arrive (s : State) (lane tag target : Nat) (ws : List Word) : Entry :=
  if !s.rxDecodes lane then .gone s
  else
  let s := (s.rxFrameOn lane).count RG_REQ.N
  match s.laneGroup lane with
  | none => .gone s
  | some g =>
    if s.trans.any fun t => t.tag == tag && t.group == g then
      -- R373: answered without execution; the outstanding transaction stays
      .gone (s.respondWord g (responseWord tag (s.rd NODE_ID.ID) Status.duplicate.code 0 0 0 0) false)
    else if s.rd RG_CTL_CFG.MAXOUT ≤ s.trans.length ∧ !s.rescue then
      .gone (s.respondBusy (.lanes g) tag)
    else
      let here := target == 0xFFFF || target == s.rd NODE_ID.ID
      let t : Trans := { tag := tag, group := g, target := target, at_ := s.now, remote := !here }
      let s := { s with trans := s.trans ++ [t] }
      let s := s.wr RG_CTL_STAT.OUT s.trans.length
      if here then .here (.lanes g) s
      else
        match s.hipSend 1 target (hipEntryWord (s.rd NODE_ID.ID) g :: ws) with
        | some s => .gone s
        | none => .gone (s.respond (.lanes g) tag .noRoute 0 target)

/-! ## Directives (R463, R464) -/

/-- A directive at the node that executes it. -/
structure Dir where
  code : Nat
  dst   : ReplyTo
  tag  : Nat
  data : Nat
  args : List Word

/-- Word 0 [63:32] of a directive, the detail of BAD_REQUEST (R369, R375). -/
def Dir.opWord (d : Dir) : Nat := 8 + d.args.length * 256

/-- A directive completes. -/
def State.complete (s : State) (d : Dir) (st : Status) (data detail : Nat) : State :=
  s.respond d.dst d.tag st data detail

/-- A directive completes DONE (R463). -/
def State.dirDone (s : State) (d : Dir) (data : Nat) : State := s.complete d .done data 0

/-- A directive completes BAD_REQUEST (R463). -/
def State.dirBad (s : State) (d : Dir) : State := s.complete d .badRequest 0 d.opWord

/-- A directive completes WRONG_STATE, with the address of the register that decides it (R375). -/
def State.dirWrong (s : State) (d : Dir) (addr : Nat) : State := s.complete d .wrongState 0 addr

/-- A directive is refused: REFUSE takes the reason, and the response names unit, reason and detail
(R375, R452). (log 95: DEDUCED) -/
def State.dirRefused (s : State) (d : Dir) (kind index reason detail : Nat) : State :=
  (s.refuse kind index reason detail).complete d .refused (unitId kind index)
    (reason % 256 + detail % 2 ^ 16 * 256)

/-- Whether a directive code is allowed (R438, R449, R463); a code from 32 on has no bit, and is none of R464. -/
def State.dirAllowed (s : State) (code : Nat) : Bool :=
  if s.rescue then decide (0x15 ≤ code) && decide (code ≤ 0x18)
  else decide (32 ≤ code) || bitAt s.boot.dirMask.toNat code

/-- A directive is executed at this node (R463, R465, R473): the mask, then its argument count, then its own
meaning. (log 94: DEDUCED) -/
def State.runDir (s : State) (d : Dir) (argw : Nat → Bool) (body : Dir → State → State) : State :=
  if s.inWarm then s.respond d.dst d.tag .busy 0 0 2000
  else if 32 ≤ s.mg.dirs.length then s.respondBusy d.dst d.tag
  else if !s.dirAllowed d.code then s.complete d .denied 0 d.code
  else if !argw d.args.length then s.dirBad d
  else body d s

/-- A directive arrives on a lane and is executed here, or routed (R368, R463). (log 94: DEDUCED) -/
def State.directive (s : State) (code : Nat) (r : DirReq) (argw : Nat → Bool)
    (body : Dir → State → State) : State :=
  let tag := r.tag.toNat
  let target := r.target.toNat
  match s.arrive r.lane tag target (reqWords tag target 8 0 code r.data.toNat r.args) with
  | .gone s => s
  | .here dst s => s.runDir ⟨code, dst, tag, r.data.toNat, r.args⟩ argw body

/-- No argument words. -/
def noArgs (n : Nat) : Bool := n == 0

/-- Argument word `i`, the first being 0. -/
def Dir.arg (d : Dir) (i : Nat) : Word := d.args.getD i 0

/-- A directive whose `DATA` or arguments are malformed completes BAD_REQUEST (R463). -/
def State.dirCheck (s : State) (d : Dir) (ok : Bool) (act : State → State) : State :=
  if ok then act s else s.dirBad d

/-- A directive that starts an activity (R457, R463, R496): its id on success, a refusal otherwise. -/
def State.dirActivity (s : State) (d : Dir) (code : Nat) (res : List (Nat × Nat × Nat)) (unit : Nat)
    (start : Nat → State → State) : State :=
  match s.register code res unit with
  | (.refused reason detail, s) => s.dirRefused d 0x0D d.code reason detail
  | (.id n, s) => (start n s).dirDone d n

end Sys2Proof.Machine
end

