-- ==== Sys2Proof/Machine/Courses.lean ====
section
/-! DEFINITION. Courses and epochs as spans of device time (R57, R58), and items on Hip links
(R379, R380). -/

namespace Sys2Proof.Machine

/-! ## Epochs and courses -/

/-- The coarse part of an epoch's offset A, in Tf (R57). -/
def EpochRec.coarse (e : EpochRec) : Int := e.a - e.a % (tcTf : Int)

/-- Length of a course of the epoch in Tf (R57). -/
def EpochRec.len (e : EpochRec) : Nat := 2 ^ e.n * tcTf

/-- Device time of the first grid point at or after the epoch's start (R58). -/
def EpochRec.grid0 (e : EpochRec) : Nat :=
  let len : Int := e.len
  let m : Int := (e.startAt : Int) + e.coarse
  ((m + len - 1) / len * len - e.coarse).toNat

/-- The course that contains device time `t`: its number, unwrapped, and the device time of its start
(R58). -/
def EpochRec.courseAt (e : EpochRec) (t : Nat) : Nat × Nat :=
  let g := e.grid0
  let k := if g = e.startAt then 0 else 1
  if t < g then (0, e.startAt) else ((t - g) / e.len + k, g + (t - g) / e.len * e.len)

/-- Device time of the start of course `k` of the epoch (R58). -/
def EpochRec.startOf (e : EpochRec) (k : Nat) : Nat :=
  let g := e.grid0
  if g = e.startAt then g + k * e.len else if k = 0 then e.startAt else g + (k - 1) * e.len

/-- The epoch whose span contains device time `t` (R61, R166). -/
def State.epochAt (s : State) (t : Nat) : EpochRec :=
  ((s.time.epoch :: s.time.past).find? fun e => decide (e.startAt ≤ t)).getD s.time.epoch

/-- The epoch with a number, of those kept. -/
def State.epochNum (s : State) (n : Nat) : EpochRec :=
  ((s.time.epoch :: s.time.past).find? fun e => e.num == n).getD s.time.epoch

/-- A course of an epoch as one number: courses in order have rising keys. -/
def courseKey (epoch course : Nat) : Nat := epoch * 2 ^ 48 + course

/-- The epoch of a course key. -/
def keyEpoch (k : Nat) : Nat := k / 2 ^ 48

/-- The course number of a course key, as records carry it (R58). -/
def keyCourse (k : Nat) : Nat := k % 2 ^ 48 % 2 ^ 32

/-- Key of the course that contains device time `t` (R58). -/
def State.keyAt (s : State) (t : Nat) : Nat :=
  let e := s.epochAt t
  courseKey e.num (e.courseAt t).1

/-- Device time of the start of the course with a key (R58). -/
def State.keyStart (s : State) (k : Nat) : Nat := (s.epochNum (keyEpoch k)).startOf (k % 2 ^ 48)

/-- Key of the course in progress. -/
def State.keyNow (s : State) : Nat := s.keyAt s.time.courseAt

/-- Device time of the end of the course with a key: the start of the next course, or of the next epoch
when that comes first (R58, R61). -/
def State.keyEnd (s : State) (k : Nat) : Nat :=
  let e := s.epochNum (keyEpoch k)
  let next := e.startOf (k % 2 ^ 48 + 1)
  match (s.time.past.reverse ++ [s.time.epoch]).find? fun x => decide (e.startAt < x.startAt) with
  | some x => min next x.startAt
  | none => next

/-- Key of the latest course of an epoch with a 32-bit number: numbers wrap inside an epoch (R58). -/
def State.keyOf (s : State) (epoch num : Nat) : Nat :=
  let e := s.epochNum epoch
  let upTo := match (s.time.past.reverse ++ [s.time.epoch]).find? fun x => decide (e.startAt < x.startAt) with
    | some x => x.startAt - 1
    | none => s.now
  let last := (e.courseAt upTo).1
  courseKey epoch (last - (last % 2 ^ 32 + 2 ^ 32 - num % 2 ^ 32) % 2 ^ 32)

/-- The first coarse tick at or after an instant, in Tf (R70, R175). -/
def ceilTick (t : Nat) : Nat := ceilDiv t tcTf * tcTf

/-! ## Hip links -/

/-- Whether this node is the root of its tree (R384). -/
def State.isRoot (s : State) : Bool := s.on TREE_STAT.IS_ROOT

/-- The link toward the parent (R384). -/
def State.parentLink (s : State) : Option Nat :=
  if s.rd TREE_STAT.PARENT = 15 then none else some (s.rd TREE_STAT.PARENT)

/-- Whether a link is UP and usable for tree and routing (R383, R386). -/
def State.linkUp (s : State) (i : Nat) : Bool := s.rd (HIP_STAT.STATE i) == 2 && !(s.link i).dup

/-- The links toward the node's children (R384). -/
def State.childLinks (s : State) : List Nat :=
  (List.range 8).filter fun i => s.linkUp i && (s.link i).parent == s.rd NODE_ID.ID

/-- Block types of the items (R378). -/
def kindPrim : Nat := 0x4B
/-- DEC (R378). -/
def kindDec : Nat := 0x55
/-- TIME (R378). -/
def kindTime : Nat := 0x66
/-- TSET (R378). -/
def kindTset : Nat := 0x2D
/-- HELLO (R378). -/
def kindHello : Nat := 0x33

/-- Whether an item is one of those that the 64-item queue of a link holds (R380). -/
def HipItem.queued (i : HipItem) : Bool := i.kind == kindPrim || i.kind == kindDec

/-- An item for a link: a PRIM or DEC waits at the transmitter for its forwarding instant, and is dropped when it
finds 64 of them there; any other item leaves at once (R379, R380). -/
def State.hipItem (s : State) (l : Nat) (i : HipItem) : State :=
  let x := s.link l
  if !i.queued then s.hipLaunch l i
  else if 64 ≤ x.items.length then s.count (HIP_ITEM_LOST.N l)
  else s.setLink l { x with items := x.items ++ [{ i with arrAt := s.now }] }

/-- The low and the high 64 bits of a word, as two data blocks (R378). -/
def wordBlocks (w : Word) : List Nat := [wfield w 0 64, wfield w 64 64]

end Sys2Proof.Machine
end

