-- ==== Sys2Proof/Machine/Downlink.lean ====
section
/-! DEFINITION. The downlink of an Eave port: characters, sequences and timed commands (R125 to R128). A
sequence's launch is fixed when it is requested, from the instant at which the line is free. -/

namespace Sys2Proof.Machine

/-- One downlink character in Tf: 80 Tc (R125). -/
def charTf : Nat := 80 * tcTf

/-- The first character start at or after a device time (R125). (log 43: DEDUCED) -/
def charFrom (t : Nat) : Nat := ceilDiv t charTf * charTf

/-- A control character in `dlOut`: its code plus 256. -/
def kChar (k : Nat) : Nat := 256 + k

/-- K28.0, TRAINING (R126). -/
def kTraining : Nat := 0x1C
/-- K28.1, HOLD (R126). -/
def kHold : Nat := 0x3C
/-- K28.2, RESUME (R126). -/
def kResume : Nat := 0x5C
/-- K28.3, COURSE (R126). -/
def kCourse : Nat := 0x7C
/-- K28.4, TRIGGER (R126). -/
def kTrigger : Nat := 0x9C
/-- K28.5, IDLE (R115, R126). -/
def kIdle : Nat := 0xBC
/-- K28.6, SYNC (R126). -/
def kSync : Nat := 0xDC
/-- K27.7, start of a transaction (R126). -/
def kStart : Nat := 0xFB
/-- K29.7, end of a transaction (R126). -/
def kEnd : Nat := 0xFD

/-- Ports admitted (R145): in service since their boundary. -/
def State.admittedPorts (s : State) : List Nat :=
  s.enabledPorts.filter fun p => (s.port p).inFrom.isSome

/-- When a sequence that is not interleaved, asked for at `t`, can start: at a character start, with the line
free, after a HOLD or RESUME of the same start (R125, R127, R147). (log 43: DEDUCED) -/
def State.dlStart (s : State) (p t : Nat) : Nat :=
  let x := s.port p
  let a := max (charFrom t) x.dlFree
  if a + 1 = x.holdSlot then a + charTf else a

/-- A sequence starts at `a`. -/
def State.dlLaunch (s : State) (p a : Nat) (chars : List Nat) : State :=
  s.setPort p { s.port p with dlOut := chars, dlFree := a + chars.length * charTf }

/-- HOLD or RESUME goes out at the next character start, between any two characters (R127). (log 42: DEDUCED) -/
def State.dlHold (s : State) (p : Nat) (hold : Bool) : State :=
  s.setPort p { s.port p with
    dlOut := [kChar (if hold then kHold else kResume)], holdSlot := charFrom s.now + 1
    resumeLeft := if hold then 0 else 3 }

/-- The longest wait of a TRIGGER or SYNC: 4,095 Tc (R128). -/
def dlLimit : Nat := 4095 * tcTf

/-- Characters of a TRIGGER or SYNC that starts `delta` Tc after its request (R126). -/
def DlReq.chars (r : DlReq) (delta : Nat) : List Nat :=
  if r.k = kTrigger then
    [kChar kTrigger, r.cls % 16 * 16 + bits delta 8 4, bits delta 0 8, r.id % 256]
  else [kChar kSync, bits delta 8 4, bits delta 0 8]

/-- A requested TRIGGER or SYNC starts, unless it cannot within its limit (R128). (log 43: DEDUCED) -/
def State.dlSend (s : State) (p : Nat) (r : DlReq) : State :=
  let a := s.dlStart p r.at_
  if dlLimit < a - r.at_ then s
  else
    let s := s.setPort p { s.port p with dlReq := (s.port p).dlReq.erase r }
    s.dlLaunch p a (r.chars ((a - r.at_) / tcTf))

/-- A TRIGGER or SYNC is requested at the present instant: it starts at once where the line allows it
(R128). -/
def State.dlRequest (s : State) (p : Nat) (r : DlReq) : State :=
  (s.setPort p { s.port p with dlReq := (s.port p).dlReq ++ [r] }).dlSend p r

/-- A COURSE command is sent (R123, R126, R128): D_cs of its argument is the launch of its first bit. -/
def State.dlCourse (s : State) (p course : Nat) : State :=
  let a := s.dlStart p s.now
  let b := course % 256
  let s := s.dlLaunch p a [kChar kCourse, b]
  let x := s.port p
  s.setPort p { x with dcs := ((b, a) :: x.dcs).take 16 }

/-- The earliest request of a port that meets a condition. -/
def State.dlFirst (s : State) (p : Nat) (ok : DlReq → Bool) : Option DlReq :=
  ((s.port p).dlReq.filter ok).foldl (fun o r => match o with
    | none => some r
    | some a => if r.at_ < a.at_ then some r else o) none

end Sys2Proof.Machine
end

