-- ==== Sys2Proof/Machine/Acq.lean ====
section
/-! DEFINITION. The primitive fast path, decisions, triggers and acquisition groups (R163 to R189). -/

namespace Sys2Proof.Machine

/-! ## Primitives (R163 to R168) -/

/-- Master time of a device time, modulo 2^64, by the epoch that contains it (R166). -/
def State.masterOf (s : State) (t : Nat) : Nat := ((((t : Int) + (s.epochAt t).a) % (2 ^ 64 : Nat)).toNat)

/-- Device time of a master time, by the A in force (R175). -/
def State.deviceOf (s : State) (m : Nat) : Nat :=
  s.unwrap ((((m : Int) - s.time.a) % (2 ^ 64 : Nat)).toNat)

/-- The span from the hand-over of a primitive's opening entry to its deadline: 250 ns (R167). (log 47: DEDUCED) -/
def primDeadlineTf : Nat := 640 * tcTf

/-- The primitive queue of a half (R167). -/
def State.primQ (s : State) (h : Nat) : List PrimItem := if h = 0 then s.acq.primN else s.acq.primS

/-- The primitive queue of a half set. -/
def State.setPrimQ (s : State) (h : Nat) (q : List PrimItem) : State :=
  { s with acq := if h = 0 then { s.acq with primN := q } else { s.acq with primS := q } }

/-- The first copy of a primitive in a list takes a flag bit. -/
def markFirst (w : Word) (bit : Nat) : List (Nat × Nat × Word) → List (Nat × Nat × Word)
  | [] => []
  | (h, k, x) :: t =>
    if x = w then (h, k, x ||| BitVec.ofNat 128 (2 ^ bit)) :: t else (h, k, x) :: markFirst w bit t

/-- The PRIMS copy of a primitive takes `SENT` (108) or `LATE` (109) (R166, R188). -/
def State.markPrim (s : State) (w : Word) (bit : Nat) : State :=
  { s with acq := { s.acq with prims := markFirst w bit s.acq.prims } }

/-- A cluster's primitive (R166). -/
def State.primOf (s : State) (i : Nat) (c : Cluster) : Word :=
  mkWord [(0, 64, s.masterOf c.earliest), (64, 20, c.sum), (84, 8, c.count),
    (92, 1, b2n s.unalignedNow), (93, 1, b2n s.holdover), (94, 1, b2n c.sat), (96, 7, i),
    (104, 4, s.eff (PR_GRP.LABEL i)), (112, 16, s.rd NODE_ID.ID)]

/-! ## Triggers (R175, R176) -/

/-- A trigger enters the acceptance queue, or is lost at its 32 places (R175, R176). A disabled source is
ignored. -/
def State.newTrigger (s : State) (src cls id dAct : Nat) (forced : Bool := false) : State :=
  if !bitAt (s.eff TRG_CTRL.SRC_EN) src then s
  else
    let late := decide (dAct < s.now + 16 * tcTf)
    let actAt := ceilTick (if late then s.now + 16 * tcTf else dAct)
    let s := if late then s.count TRG_LATE_CNT.N else s
    if 32 ≤ s.acq.acceptQ.length then
      (s.count TRG_LOST.N).event 0 TRG_EVT.TRG_LOST deviceWide
    else
      let t : Trig :=
        { cls := cls, id := id, src := 2 ^ src, dAct := dAct, actAt := actAt, late := late, forced := forced }
      { s with acq := { s.acq with acceptQ := s.acq.acceptQ ++ [t] } }

/-- A decision reaches the flashing-bus driver, or finds its 32 places taken (R71). -/
def State.toDriver (s : State) (cls id m : Nat) : State :=
  if !s.on TIME_CFG.FL_DRIVER then s
  else if 32 ≤ s.time.driver.length then
    (s.count TRG_ERR.LOST).event 0 TIME_EVT.TRG_OVERFLOW deviceWide
  else { s with time := { s.time with driver := s.time.driver ++ [(cls, id, (m : Int))] } }

/-- A decision from the tree, or a root's own, applied to this node: passed to the driver where the node
drives the flashing bus, and a HIP trigger (R71, R171, R175, R387). -/
def State.hipDecision (s : State) (cls id m : Nat) (forced : Bool) : State :=
  (s.toDriver cls id m).newTrigger 1 cls id (s.deviceOf m) forced

/-- The 96 bits of a decision (R173). -/
def decisionBits (m cls id : Nat) (forced : Bool) : Nat :=
  m % 2 ^ 64 + cls % 16 * 2 ^ 64 + id % 2 ^ 16 * 2 ^ 68 + b2n forced * 2 ^ 84

/-- A decision goes down every child link as a DEC item (R387). -/
def State.decDown (s : State) (dec hops root : Nat) : State :=
  s.each s.childLinks fun s l =>
    s.hipItem l { kind := kindDec, data := [dec % 2 ^ 64, dec / 2 ^ 64], hops := hops, root := root }

/-- The next id of the node's decision counter (R173). -/
def State.nextDecId (s : State) : Nat × State :=
  (s.acq.decCount.toNat, { s with acq := { s.acq with decCount := s.acq.decCount + 1 } })

/-- A decision is issued: down the tree and to itself on a root, as SELF on any other node (R171, R173). -/
def State.issue (s : State) (cls m : Nat) : State :=
  let (id, s) := s.nextDecId
  let s := { s with acq := { s.acq with lastAct := Tab.set 0 s.acq.lastAct cls (m + 1) } }
  let s := s.count DEC_FIRED.N
  if s.isRoot then
    (s.decDown (decisionBits m cls id false) 0 (s.rd NODE_ID.ID)).hipDecision cls id m false
  else s.newTrigger 2 cls id (s.deviceOf m)

/-! ## The decision unit (R171, R172) -/

/-- Difference `a - b` of two timestamps, modulo 2^64, as a signed count (R11). -/
def tsDiff (a b : Nat) : Int := toSigned 64 (a + 2 ^ 64 - b % 2 ^ 64)

/-- `M_TIME` of a primitive (R166). -/
def mTime (p : Word) : Nat := wfield p 0 64

/-- A primitive placed in order of `M_TIME` (R171). -/
def insertPrim (p : Word) : List Word → List Word
  | [] => [p]
  | x :: xs => if tsDiff (mTime p) (mTime x) < 0 then p :: x :: xs else x :: insertPrim p xs

/-- Class `k` is evaluated on the arrival of primitive `p` (R172). -/
def State.evalClass (s : State) (p : Word) (k : Nat) : State :=
  let mask := s.eff (DEC_COND.LMASK k)
  if !bitAt mask (wfield p 104 4) then s
  else
    let win : Int := s.eff (DEC_WIN.TC k) * tcTf
    let near := fun q => bitAt mask (wfield q 104 4) &&
      decide (-win ≤ tsDiff (mTime q) (mTime p)) && decide (tsDiff (mTime q) (mTime p) ≤ win)
    let set := s.acq.store.filter near
    let set := if set.contains p then set else p :: set
    let sum := set.foldl (fun n q => n + wfield q 64 20) 0
    if set.length < s.eff (DEC_COND.MINCNT k) ∨ sum < s.eff (DEC_SUM.MINSUM k) then s
    else
      let first := set.foldl (fun m q => if tsDiff (mTime q) m < 0 then mTime q else m) (mTime p)
      let m := (first + s.eff (DEC_DELAY.TC k) * tcTf) % 2 ^ 64
      let last := Tab.get 0 s.acq.lastAct k
      -- R172: a new M_ACT at or before the last issued one is always held
      if 0 < last ∧ (tsDiff m (last - 1) < ((s.eff (DEC_HOLD.TC k) * tcTf : Nat) : Int) ∨
          tsDiff m (last - 1) ≤ 0) then
        s.count DEC_HELD.N
      else
        let n := Tab.get 0 s.acq.fired k + 1
        let presc := s.eff (DEC_PRESC.N k)
        if presc ≤ n then
          ({ s with acq := { s.acq with fired := Tab.set 0 s.acq.fired k 0 } }).issue k m
        else
          ({ s with acq := { s.acq with fired := Tab.set 0 s.acq.fired k n } }).count DEC_PRESC_CNT.N

/-- A primitive reaches the node's decision unit: stored among the 1,024 latest, and every class evaluated
in ascending order (R171, R172). (log 47: DEDUCED) -/
def State.decide_ (s : State) (p : Word) : State :=
  let store := insertPrim p s.acq.store
  let s := if 1024 < store.length then
      ({ s with acq := { s.acq with store := store.tail } }).count DEC_EVICT.N |>.flag TRG_EVT.DEC_EVICT
    else { s with acq := { s.acq with store := store } }
  s.each (List.range 16) fun s k => s.evalClass p k

/-- A primitive is cut off at its deadline: counted, not sent; a node that is not the root still decides on
it (R167, R171). -/
def State.cutPrim (s : State) (p : PrimItem) : State :=
  let s := ((s.count PRIM_LATE.N).flag TRG_EVT.PRIM_LATE).markPrim p.prim 109
  if s.isRoot then s else s.decide_ p.prim

/-- A closed cluster becomes a primitive, or is counted (R165 to R168, R187). (log 47: DEDUCED) -/
def State.closeCluster (s : State) (i : Nat) (c : Cluster) : State :=
  let s := { s with acq := { s.acq with clusters := Tab.set none s.acq.clusters i none } }
  if c.count < s.eff (PR_GRP.MINCNT i) ∨ c.sum < s.eff (PR_GRP.MINSUM i) then s.count PRIM_SUPP.N
  else
    let h := i / 64
    let w := s.primOf i c
    let s : State := if s.effOn TRG_CTRL.PRIMS_COPY then
        -- a course whose PRIMS record has closed leaves its primitive to the oldest record still open
        let key := match s.acq.primCourses.find? fun x => x.1 == h && decide (c.course ≤ x.2) with
          | some x => x.2
          | none => c.course
        { s with acq := { s.acq with prims := s.acq.prims ++ [(h, key, w)] } }
      else s
    if 64 ≤ (s.primQ h).length then (s.count PRIM_LOST.N).event h TRG_EVT.PRIM_LOST (unitId 9 h)
    else if s.isRoot then
      -- R167, R171: on a root the primitive enters the decision unit under its deadline
      if c.handAt + primDeadlineTf < s.now then s.cutPrim ⟨w, c.handAt, c.course⟩
      else ((s.count PRIM_SENT.N).markPrim w 108).decide_ w
    else if s.parentLink.isNone then
      ((s.count PRIM_LOST.N).flag TRG_EVT.PRIM_LOST).decide_ w
    else s.setPrimQ h (s.primQ h ++ [⟨w, c.handAt, c.course⟩])

/-- An entry of device group `i`, amplitude `a`, time `t`, handed over at `hand`, opens a cluster or joins
the open one (R165). An entry in the closing cycle opens the next cluster. (log 48: DEDUCED) -/
def State.toCluster (s : State) (i a t hand : Nat) : State :=
  let s := match Tab.get none s.acq.clusters i with
    | some c => if c.closeAt ≤ s.now then s.closeCluster i c else s
    | none => s
  let c := match Tab.get none s.acq.clusters i with
    | none =>
      { openAt := s.now, closeAt := s.now + s.eff PR_TIMING.HOLD * tcTf, handAt := hand, count := 1,
        sum := min a (2 ^ 20 - 1), earliest := t, sat := decide (2 ^ 20 ≤ a), course := s.keyAt t : Cluster }
    | some c =>
      { c with count := min 255 (c.count + 1), sum := min (2 ^ 20 - 1) (c.sum + a),
               earliest := min c.earliest t,
               sat := c.sat || decide (255 ≤ c.count) || decide (2 ^ 20 ≤ c.sum + a) }
  { s with acq := { s.acq with clusters := Tab.set none s.acq.clusters i (some c) } }

/-- A port's stored sample or hit is offered when its amplitude reaches the threshold (R163, R164). (log 48: DEDUCED) -/
def State.offerPort (s : State) (p v t hand : Nat) : State :=
  let a : Int := (v : Int) - s.eff (RD_DB.BASE p)
  if !s.on (RD_CTRL.PR_EN p) || decide (a < (s.eff (RD_PR.THR p) : Int)) then s
  else
    let s := s.count (RD_OFFER.N p)
    s.toCluster (s.eff (RD_PR.PGRP p) + 64 * halfOf 512 p) a.toNat t hand

/-- A timing channel's leading-edge entry is offered with amplitude 1 (R103, R163). -/
def State.offerChan (s : State) (c t : Nat) : State :=
  if !s.on (TCH_CTRL.PRIM_EN c) then s
  else s.toCluster (s.eff (TCH_ACQ.PGRP c) + 64 * halfOf 96 c) 1 t s.now

/-- CLUSTER_CLOSE (R165): a cluster closes at its closing time. -/
def execClusterClose (g : Fin 128) (s : State) : Out :=
  match Tab.get none s.acq.clusters g.val with
  | none => .next s
  | some c => .next ((s.advance c.closeAt).closeCluster g.val c)

/-- Primitives of a frame: each still within its deadline becomes a PRIM item, the others are cut off
(R167, R379). (log 48: DEDUCED) -/
def State.launchPrims (s : State) (l : Nat) : List PrimItem → State
  | [] => s
  | p :: ps =>
    if p.handAt + primDeadlineTf < s.now then State.launchPrims (s.cutPrim p) l ps
    else
      let s := ((s.count PRIM_SENT.N).markPrim p.prim 108).decide_ p.prim
      let s := s.hipLaunch l { kind := kindPrim, data := wordBlocks p.prim, last := ps.isEmpty }
      State.launchPrims s l ps

/-- PRIM_FRAME_LAUNCH (R167): every primitive then waiting leaves on the parent link, at least `BATCH` Tc
after the previous frame left. -/
def execPrimFrameLaunch (s : State) : Out :=
  match s.parentLink with
  | none => .next s
  | some l =>
    if s.isRoot || (s.acq.primN.isEmpty && s.acq.primS.isEmpty) then .next s
    else
      let s := if s.acq.lastLaunch = 0 then s
        else s.advance (s.acq.lastLaunch - 1 + s.eff PR_TIMING.BATCH * tcTf)
      let ps := s.acq.primN ++ s.acq.primS
      let s := { s with acq := { s.acq with primN := [], primS := [], lastLaunch := s.now + 1 } }
      .next (s.launchPrims l ps)

/-- PRIM_DEADLINE (R167): the oldest waiting primitive of a half reaches its deadline and is cut off. -/
def execPrimDeadline (h : Half) (s : State) : Out :=
  match s.primQ h.val with
  | [] => .next s
  | p :: ps => .next (((s.advance (p.handAt + primDeadlineTf)).setPrimQ h.val ps).cutPrim p)

/-- HIP_PRIM_ITEM (R171, R172, R380): a primitive from a child reaches the decision unit; a node with a
parent forwards the item, one hop further, its wait so far kept. -/
def execHipPrimItem (link : Link) (prim : Word) (wait : BitVec 16) (hops : BitVec 8) (last : Bool)
    (s : State) : Out :=
  if !s.linkUp link.val then .next s
  else
    let s := (s.count (HIP_ITEMS_RX.N link.val)).decide_ prim
    match s.parentLink with
    | none => .next s
    | some l =>
      if s.isRoot then .next s
      else .next (s.hipItem l { kind := kindPrim, data := wordBlocks prim, wait := wait.toNat,
                                hops := min 255 (hops.toNat + 1), last := last })

/-- HIP_DEC_ITEM (R387): a decision from the parent is passed to the children and applied as a HIP
trigger. Decisions never travel upward. -/
def execHipDecItem (link : Link) (dec : BitVec 96) (hops : BitVec 8) (root : BitVec 16) (s : State) : Out :=
  if !s.linkUp link.val || s.parentLink != some link.val then .next s
  else
    let s := s.count (HIP_ITEMS_RX.N link.val)
    let d := dec.toNat
    let s := s.decDown d (min 255 (hops.toNat + 1)) root.toNat
    .next (s.hipDecision (bits d 64 4) (bits d 68 16) (bits d 0 64) (bitAt d 84))

/-! ## Acceptance (R176 to R183) -/

/-- Whether group `g` has an active source in half `h` (R181). -/
def State.groupActive (s : State) (h g : Nat) : Bool :=
  (s.groupSources h g).any fun x =>
    if x.1 < 512 then s.rd (EV_STAT.STATE x.1) == 6 else s.on (TCH_STAT.ACTIVE (x.1 - 512))

/-- The group's triggers in the epoch, counted up to and including this one: one count of both halves (R189).
(log 49: DEDUCED) -/
def State.nextSeq (s : State) (g : Nat) : Nat × State :=
  let n := Tab.get 0 s.acq.seq g + 1
  (n, { s with acq := { s.acq with seq := Tab.set 0 s.acq.seq g n } })

/-- Keys of the courses open at the sources of a group in a half. -/
def State.openKeys (s : State) (h g : Nat) : List Nat :=
  (s.groupSources h g).flatMap fun x =>
    if x.1 < 512 then (s.port x.1).courses.map fun c => courseKey c.epoch c.course
    else (s.chan (x.1 - 512)).courses.map fun c => courseKey c.epoch c.course

/-- Course key of a retained record (R182). -/
def State.ringKey (s : State) (r : RingRec) : Nat := s.keyOf r.epoch r.desc.course

/-- Key of the oldest course that the ring of a group in a half still holds (R183). -/
def State.oldestHeld (s : State) (h g : Nat) : Nat :=
  ((s.acq.ring.filter fun r => r.half == h && r.group == g).map s.ringKey ++ s.openKeys h g).foldl
    min s.keyNow

/-- First and last course selected by a window (R182). -/
def Window.first (s : State) (w : Window) : Nat := s.keyAt w.fromD

/-- Last course selected by a window (R182). -/
def Window.last_ (s : State) (w : Window) : Nat := s.keyAt (w.toD - 1)

/-- A window's key range holds a course. -/
def Window.selects (s : State) (w : Window) (k : Nat) : Bool :=
  decide (w.first s ≤ k) && decide (k ≤ w.last_ s)

/-- The device time before which nothing is selected: the latest backward switch (R78, R183). -/
def State.historyFrom (s : State) : Nat :=
  match (s.time.epoch :: s.time.past).find? (·.back) with
  | some e => e.startAt
  | none => 0

/-- `ACQ_STAT` shows the open windows (R193). -/
def State.syncAcq (s : State) (g : Nat) : State :=
  let is := fun h => b2n (s.acq.windows.any fun w => w.half == h && w.group == g)
  (s.wr (ACQ_STAT.OPEN_N g) (is 0)).wr (ACQ_STAT.OPEN_S g) (is 1)

/-- Trigger number `n` of a circular group opens a window in a half, or extends one it overlaps (R182, R183).
(log 49: DEDUCED) -/
def State.openWindow (s : State) (h g : Nat) (t : Trig) (n : Nat) : State :=
  let pre := s.eff (ACQ_PRE.U g) * 256 * tcTf
  let post := s.eff (ACQ_POST.U g) * 256 * tcTf
  let toD := max 1 (t.dAct + post)
  let from0 := t.dAct - pre
  -- R183: courses already pushed, and courses the ring no longer holds, are not selected
  let done := (s.acq.windows.filter fun x => x.half == h && x.group == g && x.pushing).foldl
    (fun n x => max n (x.last_ s + 1)) (Tab.get 0 s.acq.pushedTo (16 * h + g))
  let from1 := max from0 s.historyFrom
  let short := decide (s.keyAt from1 < done) || decide (s.keyAt from1 < s.oldestHeld h g) ||
    decide (from0 < s.historyFrom)
  let firstKey := max (s.keyAt from1) (max done (s.oldestHeld h g))
  let fromD := if s.keyAt from1 < firstKey then min (toD - 1) (s.keyStart firstKey) else from1
  let w : Window := { half := h, group := g, marks := [], fromD := fromD, toD := toD }
  let mark : Mark :=
    { group := g, trig := t, circular := true, shortPre := short, seq := n, course := 0, epoch := 0,
      fromD := fromD, toD := toD }
  let across := s.acq.windows.find? fun x =>
    x.half == h && x.group == g && !x.pushing &&
      decide (x.first s ≤ w.last_ s) && decide (w.first s ≤ x.last_ s)
  let ws := match across with
    | some x => s.acq.windows.map fun y =>
        if y = x then
          { x with marks := x.marks ++ [{ mark with extended := true }], fromD := min x.fromD fromD,
                   toD := max x.toD toD }
        else y
    | none => s.acq.windows ++ [{ w with marks := [mark] }]
  ({ s with acq := { s.acq with windows := ws } }).syncAcq g

/-- A trigger reaches the timing channels whose windows take its class (R89). -/
def State.openTimingWindows (s : State) (t : Trig) : State :=
  s.each s.enabledChans fun s c =>
    if bitAt (s.eff (TCH_WINCLS.MASK c)) t.cls && decide (2 ≤ s.rd (TCH_CTRL.ARM c)) then
      let at0 := t.dAct + s.eff (TCH_WIN.OFS c) * tcTf
      let clipped := decide (at0 < s.now)
      let at1 := if clipped then s.now + 16 * tcTf else at0
      let x := s.chan c
      s.setChan c { x with windows := x.windows ++ [(at1, at1 + s.eff (TCH_WIN.LEN c) * tcTf, clipped)] }
    else s

/-- A trigger is requested on the downlinks that forward its class (R128). -/
def State.forwardTrigger (s : State) (t : Trig) : State :=
  s.each s.enabledPorts fun s p =>
    let x := s.port p
    if x.inFrom.isSome && s.on (EV_CTRL.TRG_FWD p) && bitAt (s.eff (EV_TRG.MASK p)) t.cls then
      let at1 := ceilTick (t.dAct + s.eff (EV_TRG.DLY p) * tcTf)
      s.setPort p { x with dlReq := x.dlReq ++ [{ k := kTrigger, cls := t.cls, id := t.id, at_ := at1 }] }
    else s

/-- Two triggers are one: same class and id, and original action times within the tolerance (R177). -/
def mergesInto (tol : Nat) (t a : Trig) : Bool :=
  t.cls == a.cls && t.id == a.id && decide (t.dAct ≤ a.dAct + tol) && decide (a.dAct ≤ t.dAct + tol)

/-- Sources merged into a trigger (R177). -/
def Trig.absorb (a t : Trig) : Trig := { a with src := Nat.lor a.src t.src }

/-- A trigger merges into an accepted one: its source shows in MARKs not yet written (R177). -/
def State.mergeTrigger (s : State) (a t : Trig) : State :=
  let a' := a.absorb t
  { s with acq := { s.acq with
      accepted := s.acq.accepted.map fun x => if x = a then a' else x
      windows := s.acq.windows.map fun w => if w.pushing then w
        else { w with marks := w.marks.map fun m => if m.trig = a then { m with trig := a' } else m } } }

/-- Groups below 16 that take a class, in a mode (R178, R180). -/
def State.takingGroups (s : State) (cls mode : Nat) : List Nat :=
  (List.range 16).filter fun g =>
    bitAt (s.eff (ACQ_CTRL.CLSMASK g)) cls && s.eff (ACQ_CTRL.MODE g) == mode

/-- An accepted trigger goes to its consumers (R178, R179, R182). -/
def State.acceptTrigger (s : State) (t : Trig) : State :=
  let s := s.count TRG_ACCEPT.N
  let s := { s with acq := { s.acq with
      accepted := t :: s.acq.accepted
      autoFrom := Tab.set 0 s.acq.autoFrom t.cls s.now } }
  let s := s.each (s.takingGroups t.cls 1) fun s g =>
    let (n, s) := s.nextSeq g
    s.each ([0, 1].filter fun h => s.groupActive h g) fun s h => s.openWindow h g t n
  (s.openTimingWindows t).forwardTrigger t

/-- MARKs due in a half (R181). -/
def State.marksDue (s : State) (h : Nat) : List Mark := if h = 0 then s.acq.marksN else s.acq.marksS

/-- MARKs due in a half set. -/
def State.setMarksDue (s : State) (h : Nat) (ms : List Mark) : State :=
  { s with acq := if h = 0 then { s.acq with marksN := ms } else { s.acq with marksS := ms } }

/-- Whether acceptance waits for room among the MARKs due (R181). -/
def State.acceptWaits (s : State) : Bool :=
  decide (32 ≤ s.acq.marksN.length) || decide (32 ≤ s.acq.marksS.length)

/-- TRIGGER_ACCEPT (R176 to R178): the oldest trigger of the acceptance queue merges into an accepted one,
or is accepted. (log 52: DESIGN CHOICE) -/
def execTriggerAccept (s : State) : Out :=
  match s.acq.acceptQ with
  | [] => .next s
  | t :: ts =>
    if s.acceptWaits then .next s
    else
      let s := { s with acq := { s.acq with acceptQ := ts } }
      match s.acq.accepted.find? (mergesInto (s.eff TRG_CTRL.MERGE_TOL * tcTf) t) with
      | some a => .next ((s.mergeTrigger a t).count TRG_MERGED.N)
      | none => .next (s.acceptTrigger t)

/-! ## MARK records (R181, R189) -/

/-- The queue of a group's MARKs in a half (R181). -/
def State.markQueue (s : State) (h g : Nat) : Nat :=
  if h = 0 then s.eff (ACQ_MQ.N g) else s.eff (ACQ_MQ.S g)

/-- The two body words of a MARK (R189). (log 50: DEDUCED) -/
def Mark.body (m : Mark) : List Word :=
  let t := m.trig
  [mkWord [(0, 64, stamp t.dAct), (64, 16, t.id), (80, 4, t.cls), (84, 5, t.src), (89, 1, b2n t.late),
      (90, 1, b2n t.forced), (91, 1, b2n m.circular), (92, 1, b2n m.shortPre), (93, 1, b2n m.extended),
      (96, 32, m.seq)],
   mkWord [(0, 32, m.first), (32, 32, m.last), (64, 32, m.records)]]

/-- A MARK is written and pushed (R181, R189). -/
def State.writeMark (s : State) (h : Nat) (m : Mark) : State :=
  s.emit (610 + h) 5 (0x3000 + m.group + 16 * h) m.epoch m.course m.body s.quality
    (s.markQueue h m.group) false false true

/-- Whether a MARK cannot be written now: an earlier one waits, or its queue is at its limit (R181). -/
def State.markWaits (s : State) (h : Nat) (m : Mark) : Bool :=
  s.writerRefuses (610 + h) (s.markQueue h m.group)

/-- A MARK falls due in a half: written at once, or kept in order (R181). -/
def State.dueMark (s : State) (h : Nat) (m : Mark) : State :=
  if (s.marksDue h).isEmpty && !s.markWaits h m then s.writeMark h m
  else s.setMarksDue h (s.marksDue h ++ [m])

/-- The accepted trigger that acts next: earliest action, then earliest accepted (R175). (log 52: DESIGN CHOICE) -/
def State.nextToAct (s : State) : Option Trig :=
  (s.acq.accepted.reverse.filter fun t => !t.acted).foldl
    (fun o t => match o with
      | none => some t
      | some a => if t.actAt < a.actAt then some t else o) none

/-- A trigger acts: a MARK for each STREAM group that takes its class, in each half with an active source
(R181). (log 49: DEDUCED) -/
def State.actTrigger (s : State) (t : Trig) : State :=
  let s := { s with acq := { s.acq with
      accepted := s.acq.accepted.map fun x => if x = t then { t with acted := true } else x } }
  s.each (s.takingGroups t.cls 0) fun s g =>
    let (n, s) := s.nextSeq g
    s.each ([0, 1].filter fun h => s.groupActive h g) fun s h =>
      let k := s.keyAt t.dAct
      s.dueMark h { group := g, trig := t, seq := n, course := keyCourse k, epoch := keyEpoch k }

/-- TRIGGER_ACT (R175, R181): the accepted trigger that is next acts at its coarse tick. (log 52: DESIGN CHOICE) -/
def execTriggerAct (s : State) : Out :=
  match s.nextToAct with
  | none => .next s
  | some t => .next ((s.advance t.actAt).actTrigger t)

/-- MARK_WRITE (R181): a MARK that was due is written once its queue is below its limit. -/
def execMarkWrite (h : Half) (s : State) : Out :=
  match s.marksDue h.val with
  | [] => .next s
  | m :: ms =>
    if s.markWaits h.val m then .next s
    else .next ((s.setMarksDue h.val ms).writeMark h.val m)

/-! ## Circular windows (R182 to R184) -/

/-- Retained records of a half and group in a window, in the order they are pushed: by source, then by
course (R182). -/
def State.windowRecs (s : State) (w : Window) : List RingRec :=
  let own := s.acq.ring.filter fun r => r.half == w.half && r.group == w.group && w.selects s (s.ringKey r)
  (s.groupSources w.half w.group).flatMap fun x => own.filter fun r => r.writer == x.1

/-- Whether every source has closed the window's last selected course (R182). -/
def State.windowDone (s : State) (w : Window) : Bool :=
  decide (s.keyEnd (w.last_ s) ≤ s.now) && !(s.openKeys w.half w.group).any fun k => decide (k ≤ w.last_ s)

/-- A retained record is pushed, its word 1 flagged `WINDOW` where its type has that bit (R160, R182). -/
def State.pushRing (s : State) (r : RingRec) : State :=
  let s := { s with acq := { s.acq with ring := s.acq.ring.filter fun x => x != r } }
  let a := s.recAddr r.desc.place.addr 1
  let s := if r.writer < 512 then
      s.storeWord a ((s.loadWord a).1 ||| BitVec.ofNat 128 (2 ^ 93)) else s
  s.pushQueue r.desc.queue (s.fillDesc r.desc.queue r.desc) r.epoch

/-- Records are pushed in order while their queues are below their limits; what is left (R182, R244). -/
def State.pushRecs (s : State) : List RingRec → Bool × State
  | [] => (true, s)
  | r :: rs => if s.queueRefuses r.desc.queue then (false, s) else (s.pushRing r).pushRecs rs

/-- A MARK of a window as it is written: the courses of its own selection, the records of them that the window
pushes, and the course that contains its action time, as the epochs then stand (R79, R181, R182, R189). -/
def State.windowMark (s : State) (w : Window) (m : Mark) : Mark :=
  let first := s.keyAt m.fromD
  let last := s.keyAt (m.toD - 1)
  let act := s.keyAt m.trig.dAct
  { m with
    first := keyCourse first, last := keyCourse last
    records := ((s.windowRecs w).filter fun r =>
      decide (first ≤ s.ringKey r) && decide (s.ringKey r ≤ last)).length
    course := keyCourse act, epoch := keyEpoch act }

/-- The MARKs of a window are written in order, each with the records of its own selection; what is left
(R181, R182). (log 50: DEDUCED) -/
def State.writeMarks (s : State) (w : Window) : List Mark → List Mark × State
  | [] => ([], s)
  | m :: ms =>
    if s.markWaits w.half m then (m :: ms, s)
    else (s.writeMark w.half (s.windowMark w m)).writeMarks w ms

/-- CIRC_WINDOW_PUSH (R182, R183): the oldest window of a half and group whose courses are all closed
pushes its MARKs and its records. At a queue's limit the rest waits for a later push. (log 50: DEDUCED) -/
def execCircWindowPush (h : Half) (g : Fin 16) (s : State) : Out :=
  match s.acq.windows.find? fun w => w.half == h.val && w.group == g.val with
  | none => .next s
  | some w =>
    if !w.pushing && !s.windowDone w then .next s
    else if !(s.marksDue h.val).isEmpty then .next s
    else
      let (left, s) := s.writeMarks w w.marks
      let w' := { w with marks := left, pushing := true }
      let keep := fun (s : State) (x : Option Window) =>
        ({ s with acq := { s.acq with
            windows := s.acq.windows.filterMap fun y => if y = w then x else some y } }).syncAcq g.val
      if !left.isEmpty then .next (keep s (some w'))
      else
        match s.pushRecs (s.windowRecs w) with
        | (false, s) => .next (keep s (some w'))
        | (true, s) =>
          let key := 16 * h.val + g.val
          let s := { s with acq := { s.acq with
            pushedTo := Tab.set 0 s.acq.pushedTo key (max (Tab.get 0 s.acq.pushedTo key) (w.last_ s + 1)) } }
          .next (keep s none)

/-- Whether a course of a half's ring is selected by a window (R184). -/
def State.selected (s : State) (h g k : Nat) : Bool :=
  s.acq.windows.any fun w => w.half == h && w.group == g && w.selects s k

/-- Words that a source can write in one course at its maximum rate (R185). (log 51: DEDUCED) -/
def State.courseWords (s : State) (rate : Nat) : Nat :=
  ceilDiv (rate * (s.time.epoch.len / tcTf)) (2560 * 16)

/-- Whether each slice of a group's ring in a half has room for one more course at its maximum rate,
counting bundles that nothing holds (R184, R203). (log 51: DEDUCED) -/
def State.ringRoom (s : State) (h g : Nat) : Bool :=
  (s.groupSources h g).all fun x =>
    match s.enters x.1 (s.courseWords x.2) with
    | none => false
    | some bs => bs.all fun b => s.isFree b || (s.holds b == 0 && s.writerLeft b)

/-- The oldest unselected course of a ring is reclaimed, with all its records (R184). (log 51: DEDUCED) -/
def State.reclaim (s : State) (h g k : Nat) : State :=
  let mine := s.acq.ring.filter fun r => r.half == h && r.group == g && s.ringKey r == k
  let s := s.each mine fun s r => s.release r.desc.place
  let s := { s with acq := { s.acq with
      ring := s.acq.ring.filter fun r => !(r.half == h && r.group == g && s.ringKey r == k) } }
  s.count (ACQ_RECLAIM.N g)

/-- A new course opens: the ring reclaims unselected courses, oldest first, until it has room, and refuses
when only selected ones remain (R184). `fuel` bounds the courses a ring can hold. (log 51: DEDUCED) -/
def State.ringOpen (s : State) (h g : Nat) : Nat → State
  | 0 => s
  | fuel + 1 =>
    if s.ringRoom h g then s
    else
      let keys := (s.acq.ring.filter fun r => r.half == h && r.group == g).map s.ringKey
      match (keys.filter fun k => !s.selected h g k).min? with
      | some k => (s.reclaim h g k).ringOpen h g fuel
      | none =>
        if keys.isEmpty then s
        else (s.wr (ACQ_STAT.REFUSING g) 1).flag TRG_EVT.RING_REFUSE

/-- A new course opens in both halves' rings of a group (R184); `fuel` as for one. -/
def State.ringsOpen (s : State) (g fuel : Nat) : State :=
  ((s.wr (ACQ_STAT.REFUSING g) 0).ringOpen 0 g fuel).ringOpen 1 g fuel

/-- A group that has turned from CIRCULAR to STREAM reclaims every unselected course (R186). -/
def State.ringLeave (s : State) (h g : Nat) : State :=
  let keys := ((s.acq.ring.filter fun r => r.half == h && r.group == g).map s.ringKey).eraseDups
  s.each (keys.filter fun k => !s.selected h g k) fun s k => s.reclaim h g k

/-! ## PRIMS records (R188) -/

/-- The PRIMS queue of a half (R188). -/
def State.primsQueue (s : State) (h : Nat) : Nat := if h = 0 then s.eff TRG_PQ.N else s.eff TRG_PQ.S

/-- The PRIMS records of a course: at most 2,046 primitives each (R188). -/
def State.primsRecs (s : State) (h key part : Nat) : Nat → List Word → State
  | 0, _ => s
  | fuel + 1, ws =>
    let now := ws.take 2046
    let rest := ws.drop 2046
    let body := mkWord [(0, 64, stamp (s.keyStart key)), (64, 16, now.length), (80, 8, part),
      (88, 1, b2n rest.isEmpty)] :: now
    let s := s.emit (608 + h) 4 (0x2000 + h) (keyEpoch key) (keyCourse key) body s.quality
      (s.primsQueue h) false false true
    if rest.isEmpty then s else State.primsRecs s h key (part + 1) fuel rest

/-- PRIMS_RECORD_CLOSE (R188): a half's oldest open PRIMS record closes when no cluster of its course is
open and 2,560 Tc have passed since the next boundary. -/
def execPrimsRecordClose (h : Half) (s : State) : Out :=
  match s.acq.primCourses.find? fun x => x.1 == h.val with
  | none => .next s
  | some x =>
    let key := x.2
    if s.keyNow ≤ key then .next s
    else
      let s := s.advance (s.keyEnd key + 2560 * tcTf)
      let openC := s.acq.clusters.any fun (i, c) =>
        i / 64 == h.val && match c with
          | some c => c.course == key
          | none => false
      if openC || s.writerRefuses (608 + h.val) (s.primsQueue h.val) then .next s
      else
        let mine := s.acq.prims.filter fun p => p.1 == h.val && p.2.1 == key
        let s := { s with acq := { s.acq with
            primCourses := s.acq.primCourses.erase x
            prims := s.acq.prims.filter fun p => !(p.1 == h.val && p.2.1 == key) } }
        .next (s.primsRecs h.val key 0 (mine.length + 1) (mine.map fun p => p.2.2))

/-! ## The TRIGGER directive and auto triggers (R175, R179) -/

/-- AUTO_TRIGGER (R179): a class that has accepted no trigger for `TMO` µs fires. -/
def execAutoTrigger (k : Fin 16) (s : State) : Out :=
  let tmo := s.eff (TRG_AUTO.TMO k.val)
  if tmo = 0 || !bitAt (s.eff TRG_CTRL.SRC_EN) 4 || !s.running then .next s
  else
    let due := Tab.get 0 s.acq.autoFrom k.val + usTf tmo
    let s := s.advance due
    if s.now < due then .next s
    else
      let s := s.count AUTO_FIRED.N
      let s := { s with acq := { s.acq with autoFrom := Tab.set 0 s.acq.autoFrom k.val s.now } }
      let (id, s) := s.nextDecId
      if s.isRoot then
        let m := (s.masterOf s.now + s.eff (DEC_DELAY.TC k.val) * tcTf) % 2 ^ 64
        let s := { s with acq := { s.acq with lastAct := Tab.set 0 s.acq.lastAct k.val (m + 1) } }
        .next ((s.decDown (decisionBits m k.val id true) 0 (s.rd NODE_ID.ID)).hipDecision k.val id m true)
      else .next (s.newTrigger 4 k.val id s.now true)

/-- What the TRIGGER directive does (R175, R464): with no `M_ACT`, or an `M_ACT` of 0, the action time is
`DIR_DLY` Tc after arrival. -/
def dirTrigger (d : Dir) (s : State) : State :=
  s.dirCheck d (bits d.data 4 12 == 0 && wfield (d.arg 0) 64 64 == 0) fun s =>
    let m := wfield (d.arg 0) 0 64
    let dAct := if m = 0 then s.now + s.eff TRG_CTRL.DIR_DLY * tcTf else s.deviceOf m
    (s.newTrigger 3 (bits d.data 0 4) (bits d.data 16 16) dAct).dirDone d 0

/-- TRIGGER (R175, R464). -/
def execTrigger (r : DirReq) (s : State) : Out :=
  .next (s.directive 0x03 r (fun n => decide (n ≤ 1)) dirTrigger)

end Sys2Proof.Machine
end

