-- ==== Sys2Proof/Machine/Regs.lean ====
section
/-! DEFINITION. Register access: the access codes, what each path may reach, and the conditions of reset
(R18, R19, R511, R512, R516, R524). -/

namespace Sys2Proof.Machine

/-- What a write of `data` makes of a register's value by the access codes of its fields, and whether any
field took it (R18, R19). -/
def codeValue (run : Bool) (rows : List FieldRow) (old data : Nat) : Nat × Bool :=
  rows.foldl (fun (acc : Nat × Bool) r =>
    let x := bits data r.lo r.w
    match r.access with
    | .ro => acc
    | .rc => acc
    | .rw => (setBits acc.1 r.lo r.w x, true)
    | .rwt => (setBits acc.1 r.lo r.w x, true)
    | .w1c => (setBits acc.1 r.lo r.w (Nat.land (bits old r.lo r.w) (Nat.xor x (2 ^ r.w - 1))), true)
    | .wo => (acc.1, true)
    | .rwl => if run then acc else (setBits acc.1 r.lo r.w x, true)) (old, false)

/-- A write by the access codes alone (R18). (log 12: DESIGN CHOICE) -/
def State.codeWrite (s : State) (addr data : Nat) : Status × State :=
  match regAt addr with
  | none => (.noAddress, s)
  | some r =>
    match codeValue s.running r.rows (s.reg addr).toNat data with
    | (v, true) => (.done, s.setReg addr (BitVec.ofNat 32 v))
    | (_, false) => (.ignored, s)

/-- A write by the access codes whose new value waits for the next course boundary while the device runs
(R12). (log 109: DEDUCED) -/
def State.codeStage (s : State) (addr data : Nat) : Status × State :=
  if !s.running then s.codeWrite addr data
  else match regAt addr with
    | none => (.noAddress, s)
    | some r =>
      match codeValue s.running r.rows (s.reg addr).toNat data with
      | (v, true) => (.done, s.stage addr (BitVec.ofNat 32 v))
      | (_, false) => (.ignored, s)

/-- A write that its unit takes only while its enable bit is 0, and ignores otherwise (R19). -/
def State.whileOff (s : State) (en : Field) (w : State → Status × State) : Status × State :=
  if s.on en then (.ignored, s) else w s

/-- An address in a family of registers. -/
def inFamily (a base stride n : Nat) : Bool :=
  decide (base ≤ a) && decide (a < base + stride * n) && (a - base) % stride == 0

/-- Registers that hold enable bits, and `GLOBAL_CTRL` (R450, R516). -/
def enableReg (a : Nat) : Bool :=
  a == Addr.GLOBAL_CTRL || a == Addr.PROF_CTRL || a == Addr.TRG_CTRL ||
  inFamily a (Addr.EV_CTRL 0) 0x100 512 || inFamily a (Addr.TCH_CTRL 0) 0x100 96 ||
  inFamily a (Addr.RC_CTRL 0) 0x1000 64 || inFamily a (Addr.SH_CTRL 0) 0x100 32 ||
  inFamily a (Addr.RG_LANE_CTRL 0) 0x100 32 || inFamily a (Addr.RG_GRP_CTRL 0) 0x40 16 ||
  inFamily a (Addr.HIP_CTRL 0) 0x100 8 || inFamily a (Addr.GA_CTRL 0) 0x4000 2 ||
  ((List.range 2).any fun h => inFamily a (Addr.GA_IN_A h 0) 0x20 28) || inFamily a (Addr.PD_QGEN 0) 4 256

/-- Whether a control transaction may write the register at `a` (R371, R438, R511). -/
def State.inBounds (s : State) (a bit : Nat) : Bool :=
  s.boot.bounds.any fun (base, size, perm) =>
    decide (base ≤ a) && decide (a < base + size) && bitAt perm bit

/-- Whether a status is one that R524 records. -/
def Status.recorded : Status → Bool
  | .ignored => true
  | .noAddress => true
  | .denied => true
  | _ => false

/-- A register write of `data` at `addr` on a path (R511, R516, R524): what the path, the resets and the
image's state allow, then the register's own meaning `h`. -/
def State.writeAs (s : State) (p : Path) (addr : Nat) (h : State → Status × State) : Status × State :=
  if !s.pins.answered then (.ignored, s)
  else
    let (st, s) :=
      if (regAt addr).isNone then (Status.noAddress, s)
      else if !s.pins.applied then (.ignored, s)
      else if p = .ridge ∧ (s.rescue ∨ !s.inBounds addr 0) then (.denied, s)
      else if s.inWarm && enableReg addr then (.busy, s)
      else h s
    if st.recorded then (st, s.accErr p addr st true) else (st, s)

/-- A write on a path to a register with a row of its own. -/
def State.writeRow (s : State) (p : Path) (addr : Nat) (h : State → Status × State) : Out :=
  .next (s.writeAs p addr h).2

/-- A write that reaches a management-only field acts on no field: DENIED from a control transaction,
ignored from the Soffit port (R512). -/
def State.mgmtOnly (s : State) (p : Path) (reaches : Bool) (h : State → Status × State) : Status × State :=
  if reaches then
    match p with
    | .ridge => (.denied, s)
    | .soffit => (.ignored, s)
    | _ => h s
  else h s

/-- A path's latch of the register at `addr` (R514). -/
def State.latchOf (s : State) (p : Path) (addr : Nat) : U32 :=
  Tab.get 0 s.latch (Path.accCode p * 2 ^ 32 + addr)

/-- A path's latch of the register at `addr` takes `v` (R514). -/
def State.setLatch (s : State) (p : Path) (addr : Nat) (v : U32) : State :=
  { s with latch := Tab.set 0 s.latch (Path.accCode p * 2 ^ 32 + addr) v }

/-! ## Enable bits and their checks (R450, R453) -/

/-- An enable write: the register's other fields are written, the bit keeps its value, and the check of the
new one is queued. A bit that has the value written, with no check of the unit waiting, needs none.
(log 14: DESIGN CHOICE) -/
def State.reqEnable (s : State) (kind index : Nat) (en : Field) (data : Nat)
    (others : State → Status × State) : Status × State :=
  let old := s.rd en
  let (_, s) := others s
  let s := s.wr en old
  let want := bits data en.lo en.w
  if want = old ∧ !s.boot.checks.any fun c => c.kind == kind && c.index == index then (.done, s)
  else
    let c : Check := { kind := kind, index := index, enable := want == 1 }
    (.done, { s with boot := { s.boot with checks := s.boot.checks ++ [c] } })

end Sys2Proof.Machine
end

