-- ==== Sys2Proof/Machine/Thatch.lean ====
section
/-! DEFINITION. The store's own commands: bundles, handshake FIFOs, arbitration, bank reads, scrubbing,
migration and the word window (R201, R209 to R237). -/

namespace Sys2Proof.Machine

/-! ## Banks and bundles -/

/-- Half of a bank or spare (R194, R197). -/
def bankHalf (b : Nat) : Nat := if b < 128 then 0 else if b < 256 then 1 else if b < 260 then 0 else 1

/-- The banks that hold a bundle: the sixteen of its bank group (R194). -/
def bundleBanks (b : Nat) : List Nat := (List.range 16).map fun i => 16 * (b / 2048) + i

/-- Whether a lock holds back the recycling of a bundle (R219). -/
def State.bundleLocked (s : State) (b : Nat) : Bool :=
  (bundleBanks b).any fun k => Tab.get 0 s.th.locks k != 0

/-- Every writer that waits for a bundle goes on as far as it can (R202). -/
def State.resumeWriters (s : State) : State :=
  s.each ((s.th.writers.filter fun x => !x.2.pend.isEmpty).map (·.1)) State.flushWriter

/-- BUNDLE_RECYCLE (R201, R202, R219): a bundle in use, with no hold and left by its writer, is cleared and
becomes free; a writer that waits for it continues. -/
def execBundleRecycle (b : Bundle) (s : State) : Out :=
  if s.isFree b.val || s.holds b.val != 0 || !s.writerLeft b.val || s.bundleLocked b.val then .next s
  else .next ((s.recycle b.val).syncPool.resumeWriters)

/-! ## Handshake FIFOs (R209 to R214) -/

/-- FIFO classes (R212). -/
inductive FifoClass where
  | data | event | control
deriving DecidableEq, Repr

end Sys2Proof.Machine

namespace Sys2Proof

/-- Key of a FIFO in the table of FIFOs. -/
def FifoId.key : FifoId → Nat
  | .eaveRx p => p.val
  | .octetWriter o => 0x1000 + o.val
  | .timingWriter g => 0x2000 + g.val
  | .shingleIn e => 0x3000 + e.val
  | .bridge d c => 0x4000 + 16 * b2n d + c.val
  | .primitive h => 0x5000 + h.val
  | .control h => 0x6000 + h.val

/-- Depth in items (R214); the register-and-transaction FIFO takes the bridge's 64. -/
def FifoId.depth : FifoId → Nat
  | .eaveRx _ => 512
  | .octetWriter _ => 256
  | .timingWriter _ => 128
  | .shingleIn _ => 4096
  | .bridge _ _ => 64
  | .primitive _ => 16
  | .control _ => 64

end Sys2Proof

namespace Sys2Proof.Machine

/-- Class of a FIFO (R212, R214): on the bridge, management traffic and register distribution are
CONTROL (R30). (log 58: DEDUCED) -/
def fifoClass : FifoId → FifoClass
  | .bridge _ c => if 3 ≤ c.val then .control else .data
  | .primitive _ => .event
  | .control _ => .control
  | _ => .data

/-- High mark of a FIFO, none where it has none (R213, R214). -/
def State.fifoHigh (s : State) : FifoId → Option Nat
  | .eaveRx p => some (s.eff (EV_FIFO.HIGH p.val))
  | .octetWriter _ => some (s.rd TH_WFIFO.OCT_HIGH)
  | .timingWriter _ => some (s.rd TH_WFIFO.TIM_HIGH)
  | _ => none

/-- State of a FIFO. -/
def State.fifo (s : State) (f : FifoId) : FifoSt := Tab.get {} s.th.fifos f.key

/-- State of a FIFO set. -/
def State.setFifo (s : State) (f : FifoId) (x : FifoSt) : State :=
  { s with th := { s.th with fifos := Tab.set {} s.th.fifos f.key x } }

/-- Words of the frames in a port's receive FIFO (R140): a header and its body. -/
def rxWords (fs : List RxFrame) : Nat := fs.foldl (fun n f => n + f.body.length + 1) 0

/-- Occupancy W − R (R209); a port's receive FIFO holds its frames too. -/
def State.fifoOcc (s : State) (f : FifoId) : Nat :=
  (s.fifo f).items.length + match f with
    | .eaveRx p => rxWords (s.port p.val).rx
    | _ => 0

/-- Whether a FIFO refuses pushes (R213). -/
def State.fifoRefuses (s : State) (f : FifoId) : Bool :=
  match s.fifoHigh f with
  | some h => decide (h < s.fifoOcc f)
  | none => false

/-- What the check of an item finds (R212). -/
inductive Ecc where
  | clean | corrected | uncorrectable | silent
deriving DecidableEq, Repr

/-- A SEC-DED check of an item with `errs` bits in error; beyond two bits the outcome is free (R212).
(log 59: DEDUCED) -/
def State.secded (s : State) (errs : Nat) : Ecc × State :=
  match errs with
  | 0 => (.clean, s)
  | 1 => (.corrected, s)
  | 2 => (.uncorrectable, s)
  | _ =>
    let (v, s) := s.draw
    (match v % 3 with
      | 0 => .corrected
      | 1 => .uncorrectable
      | _ => .silent, s)

/-- The counts of a FIFO item's check (R212, R486). -/
def State.fifoCount (s : State) (e : Ecc) : State :=
  match e with
  | .corrected => (s.count TH_FIFO_CORR.N).tally 0x101
  | .uncorrectable => ((s.count TH_FIFO_UNCORR.N).tally 0x121).flag TH_EVT.FIFO_UNCORR
  | _ => s

/-- An item of class EVENT is discarded at its source, with a NOTE (R212). -/
def State.fifoDiscard (s : State) (f : FifoId) : State :=
  match f with
  | .primitive h => (s.count PRIM_LOST.N).event h.val TRG_EVT.PRIM_LOST (unitId 9 h.val)
  | _ => s

/-- What a miscorrected item holds: free bits (R212). (log 59: DEDUCED) -/
def State.garble (s : State) (item : Word) (errs : Nat) (e : Ecc) : Word × State :=
  if errs ≤ 2 ∨ e = .uncorrectable then (item, s)
  else
    let (v, s) := s.draw
    (BitVec.ofNat 128 v, s)

/-- FIFO_MARK (R210): M := P. (log 58: DEDUCED) -/
def execFifoMark (f : FifoId) (s : State) : Out :=
  let x := s.fifo f
  .next (s.setFifo f { x with m := x.p })

/-- FIFO_REWIND (R210): P := M. (log 38, 58: DEDUCED) -/
def execFifoRewind (f : FifoId) (s : State) : Out :=
  let x := s.fifo f
  .next (s.setFifo f { x with p := x.m })

/-- FIFO_RELEASE (R210): the items before P are freed, R := P and M := P. (log 58: DEDUCED) -/
def execFifoRelease (f : FifoId) (s : State) : Out :=
  let x := s.fifo f
  .next (s.setFifo f { x with items := x.items.drop x.p, p := 0, m := 0 })

/-! ## Arbitration (R217, R221) -/

/-- Weight of a class in a half in the present window: the register's, or the value it had at the window's
start (R221). -/
def State.weight (s : State) (h cls : Nat) : Nat :=
  match Tab.get 0 s.th.weights (12 * h + cls) with
  | 0 => if h = 0 then s.rd (TH_WEIGHT_N.W cls) else s.rd (TH_WEIGHT_S.W cls)
  | n + 1 => n

/-- Credit counter of a class at a bank: its weight less the grants taken in the window (R217). (log 62: DEDUCED) -/
def State.credit (s : State) (b cls : Nat) : Nat :=
  s.weight (bankHalf b) cls - Tab.get 0 s.th.credits (12 * b + cls)

/-- A grant takes one from the winning counter, which stops at 0 (R217). (log 62: DEDUCED) -/
def State.grant (s : State) (b cls : Nat) : State :=
  if s.credit b cls = 0 then s
  else { s with th := { s.th with
    credits := Tab.set 0 s.th.credits (12 * b + cls) (Tab.get 0 s.th.credits (12 * b + cls) + 1) } }

/-- ARBITER_WINDOW (R217, R221): every counter is set to its class's weight, and weight writes take
effect. (log 62: DEDUCED) -/
def execArbiterWindow (s : State) : Out :=
  .next { s with th := { s.th with credits := [], weights := [], starveNoted := [] } }

/-- STARVATION (R221): a class pending at a bank beyond the limit is flagged and recorded; one NOTE per
class per window names the bank. (log 62: DEDUCED) -/
def execStarvation (b : Bank) (cls : Fin 12) (s : State) : Out :=
  let h := bankHalf b.val
  let addr := if h = 0 then Addr.TH_STARVE_N else Addr.TH_STARVE_S
  let s := s.flag ⟨addr, cls.val, 1⟩
  let s := (s.wr TH_STARVE_LAST.BANK b.val).wr TH_STARVE_LAST.CLASS cls.val
  let s := s.flag TH_EVT.STARVE
  let key := 12 * h + cls.val
  if s.th.starveNoted.contains key then .next s
  else
    let s := { s with th := { s.th with starveNoted := key :: s.th.starveNoted } }
    .next (s.note h addr cls.val .event b.val [])

/-- A weight write (R221): the value in force stays until the next window. -/
def writeWeight (h cls data : Nat) (s : State) : Status × State :=
  let addr := if h = 0 then Addr.TH_WEIGHT_N cls else Addr.TH_WEIGHT_S cls
  let key := 12 * h + cls
  let s := if Tab.get 0 s.th.weights key = 0 then
      { s with th := { s.th with weights := Tab.set 0 s.th.weights key (s.weight h cls + 1) } } else s
  s.codeWrite addr data

/-- TH_WEIGHT_WRITE (R221). -/
def execThWeightWrite (path : Path) (h : Half) (cls : Fin 12) (data : U32) (s : State) : Out :=
  s.writeRow path (if h = 0 then Addr.TH_WEIGHT_N cls.val else Addr.TH_WEIGHT_S cls.val)
    (writeWeight h.val cls.val data.toNat)

/-! ## Bank reads (R222, R224, R231) -/

/-- A bank's error count since its last scrub reaches its limit: a migration is due (R231). (log 60: DEDUCED) -/
def State.migWatch (s : State) (b : Nat) (uncorr : Bool) : State :=
  let t := if uncorr then s.th.migUncorr else s.th.migCorr
  let n := Tab.get 0 t b + 1
  let t := Tab.set 0 t b n
  let s := { s with th := if uncorr then { s.th with migUncorr := t } else { s.th with migCorr := t } }
  let limit := if uncorr then s.rd TH_MIG_LIMIT.UNCORR_LIMIT else s.rd TH_MIG_LIMIT.CORR_LIMIT
  if n = limit then s.event (bankHalf b) TH_EVT.MIG_DUE b else s

/-- What a scrub pass counts of one read (R228). -/
def State.scrubCount (s : State) (a cls : Nat) (corr uncorr unwr : Nat) : State :=
  match s.th.scrub with
  | some p =>
    if cls = 10 ∧ p.first ≤ a ∧ a ≤ p.last then
      { s with th := { s.th with scrub := some { p with
        read := p.read + 1, corr := p.corr + corr, uncorr := p.uncorr + uncorr, unwr := p.unwr + unwr } } }
    else s
  | none => s

/-- A word is poisoned (R224). -/
def State.poisonWord (s : State) (a : Nat) (w : TWord) : State :=
  let b := bankOf a
  let s := s.setTWord a (some { w with poison := true })
  let s := ((s.count (TH_BANK_ERR.UNCORR b)).flag TH_EVT.UNCORR).tally 0x120
  s.migWatch b true

/-- A word is corrected and written back (R224). -/
def State.correctWord (s : State) (a : Nat) : State :=
  let b := bankOf a
  ((s.count (TH_BANK_ERR.CORR b)).tally 0x100).migWatch b false

/-- BANK_READ (R217, R222, R224, R228): a granted read of a word with `errs` bits in error. An unwritten
word is not decoded; a poisoned one is not counted again; beyond three bits the outcome is free. (log 59: DEDUCED) -/
def execBankRead (addr : BitVec 23) (cls : Fin 12) (errs : Nat) (s : State) : Out :=
  let a := addr.toNat
  let s := s.grant (bankOf a) cls.val
  match s.tword a with
  | none => .next (s.scrubCount a cls.val 0 0 1)
  | some w =>
    if w.poison then .next (s.scrubCount a cls.val 0 1 0)
    else match errs with
      | 0 => .next (s.scrubCount a cls.val 0 0 0)
      | 1 => .next ((s.correctWord a).scrubCount a cls.val 1 0 0)
      | 2 => .next ((s.correctWord a).scrubCount a cls.val 1 0 0)
      | 3 => .next ((s.poisonWord a w).scrubCount a cls.val 0 1 0)
      | _ =>
        let (v, s) := s.draw
        let (x, s) := s.draw
        match v % 3 with
        | 0 => .next ((s.poisonWord a w).scrubCount a cls.val 0 1 0)
        | 1 => .next (((s.storeWord a (BitVec.ofNat 128 x)).correctWord a).scrubCount a cls.val 1 0 0)
        | _ => .next ((s.storeWord a (BitVec.ofNat 128 x)).scrubCount a cls.val 0 0 0)

/-! ## The word window (R237) -/

/-- Byte address of a quarter of a word in the window (R237). -/
def windowAddr (a q : Nat) : Nat := 0x10000000 + 16 * a + 4 * q

/-- A window access is allowed to a path (R371, R511, R516): answered, and within a bound for a control
transaction (`PERM`[1] read, `PERM`[2] write). -/
def State.windowGate (s : State) (p : Path) (a q bit : Nat) : Option Status :=
  if !s.pins.applied then some .ignored
  else if p = .ridge ∧ (s.rescue ∨ !s.inBounds (windowAddr a q) bit) then some .denied
  else none

/-- A window read of quarter `q` of word `a`: status and value (R225, R237). Quarter 0 latches the word for
the path; the other quarters of the latched word come from the latch. -/
def readWindow (p : Path) (a q : Nat) (s : State) : (Status × Nat) × State :=
  match s.windowGate p a q 1 with
  | some st => ((st, 0), if st.recorded then s.accErr p (windowAddr a q) st false else s)
  | none =>
    let (w, poison) := match Tab.get none s.winLatch (Path.accCode p) with
      | some (la, lw, lp) => if q ≠ 0 ∧ la = a then (lw, lp) else s.loadWord a
      | none => s.loadWord a
    let s := if q = 0 then
        { s with winLatch := Tab.set none s.winLatch (Path.accCode p) (some (a, w, poison)) } else s
    ((if poison then .poison else .done, wfield w (32 * q) 32), s)

/-- A window write of quarter `q` of word `a` (R196, R237). -/
def writeWindow (p : Path) (a q data : Nat) (s : State) : Status × State :=
  let st := match s.windowGate p a q 2 with
    | some st => st
    | none => if inLoft a then .ignored else .done
  if st ≠ .done then (st, s.accErr p (windowAddr a q) st true)
  else
    let (w, poison) := s.loadWord a
    (.done, s.storeWord a (BitVec.ofNat 128 (setBits w.toNat (32 * q) 32 data)) poison)

/-- WINDOW_READ (R237). -/
def execWindowRead (path : Path) (_consume : Bool) (addr : BitVec 23) (q : Fin 4) (s : State) : Out :=
  if !s.pins.answered then .next s else .next (readWindow path addr.toNat q.val s).2

/-- WINDOW_WRITE (R196, R237). -/
def execWindowWrite (path : Path) (addr : BitVec 23) (q : Fin 4) (data : U32) (s : State) : Out :=
  if !s.pins.answered then .next s else .next (writeWindow path addr.toNat q.val data.toNat s).2

/-! ## Maintenance requests outside a directive -/

/-- A refused start that came by a register write or the schedule is reported under the activity's code
(R450, R452). (log 95: DEDUCED) -/
def State.refuseStart (s : State) (code : Nat) : Grant × State → State
  | (.refused reason detail, s') => s'.refuse 0x0E (code * 4096) reason detail
  | (.id _, s') => let _ := s; s'

/-- A directive that asked for an activity completes with its id, or is refused (R463). -/
def State.dirGrant (d : Dir) : Grant × State → State
  | (.refused reason detail, s) => s.dirRefused d 0x0D d.code reason detail
  | (.id n, s) => s.dirDone d n

/-! ## Scrubbing (R228 to R230) -/

/-- Lowest and highest bank of a word range: whole groups, but for an end of fewer than sixteen words. -/
def rangeBanks (first last : Nat) : Nat × Nat :=
  let g0 := first / 2 ^ 19
  let g1 := last / 2 ^ 19
  let end0 := min last (g0 * 2 ^ 19 + 2 ^ 19 - 1)
  let start1 := max first (g1 * 2 ^ 19)
  (if 16 ≤ end0 + 1 - first ∨ end0 % 16 < first % 16 then 16 * g0 else bankOf first,
   if 16 ≤ last + 1 - start1 ∨ last % 16 < start1 % 16 then 16 * g1 + 15 else bankOf last)

/-- A scrub pass over a range is asked for (R228, R229). (log 61: DEDUCED) -/
def State.startScrub (s : State) (first last : Nat) : Grant × State :=
  if last < first ∨ storeWords ≤ last then (.refused 0x36 (first % 2 ^ 16), s.wr TH_SCRUB_STAT.REFUSED 1)
  else match s.th.scrub with
    | some p =>
      let (g, s) := s.regRefused 0xE1 p.id
      (g, s.wr TH_SCRUB_STAT.REFUSED 1)
    | none =>
      let (b0, b1) := rangeBanks first last
      let res := (1, b0, b1) :: if loftFirst ≤ last / 256 then [(8, 0, 0)] else []
      match s.register 9 res deviceWide with
      | (.refused r d, s) => (.refused r d, s.wr TH_SCRUB_STAT.REFUSED 1)
      | (.id n, s) =>
        let s := { s with th := { s.th with scrub := some { first := first, last := last, startAt := s.now, id := n } } }
        (.id n, (s.setReg Addr.TH_SCRUB_STAT 0).wr TH_SCRUB_STAT.BUSY 1)

/-- Counts of a whole pass over a range: every word read, those unwritten, and those poisoned (R228). -/
def State.scrubWhole (s : State) (p : Scrub) : Scrub :=
  let here := s.th.words.filter fun x => decide (p.first ≤ x.1) && decide (x.1 ≤ p.last)
  { p with read := p.last + 1 - p.first, unwr := p.last + 1 - p.first - here.length,
           uncorr := (here.filter fun x => match x.2 with
             | some w => w.poison
             | none => false).length }

/-- A pass ends, complete or aborted (R230, R498). -/
def State.endScrub (s : State) (p : Scrub) (aborted : Bool) : State :=
  let us := tfUs (s.now - p.startAt)
  let s := s.wr TH_SCRUB_READ.N p.read
  let s := s.wr TH_SCRUB_CORR.N p.corr
  let s := s.wr TH_SCRUB_UNCORR.N p.uncorr
  let s := s.wr TH_SCRUB_UNWR.N p.unwr
  let s := s.wr TH_SCRUB_TIME.US us
  let s := s.wr TH_SCRUB_STAT.BUSY 0
  let s := if aborted then s.wr TH_SCRUB_STAT.ABORTED 1 else s.wr TH_SCRUB_STAT.DONE 1
  let s := s.flag TH_EVT.SCRUB_DONE
  let sum := [p.read, p.corr, p.uncorr, p.unwr, us]
  let s := s.ledgerEvent 0x0C sum
  let (b0, b1) := rangeBanks p.first p.last
  let inR := fun (x : Nat × Nat) => decide (b0 ≤ x.1) && decide (x.1 ≤ b1)
  let s := { s with th := { s.th with
    scrub := none
    migCorr := s.th.migCorr.filter fun x => !inR x
    migUncorr := s.th.migUncorr.filter fun x => !inR x } }
  match s.act p.id with
  | some a => s.endAct a 0 Addr.TH_EVT TH_EVT.SCRUB_DONE.lo sum (b2n aborted)
  | none => s

/-- SCRUB_PASS_DONE (R230). -/
def execScrubPassDone (s : State) : Out :=
  match s.th.scrub with
  | none => .next s
  | some p => .next (s.endScrub (s.scrubWhole p) false)

/-- Reasons of an abort, as MAINT_ABORT events carry them (R488, R498). -/
inductive AbortWhy where
  | directive | warmReset | unitReset | takeover | freeze | pfail | register
deriving DecidableEq, Repr

/-- Number of an abort's reason. -/
def AbortWhy.code : AbortWhy → Nat
  | .directive => 0 | .warmReset => 1 | .unitReset => 2 | .takeover => 3 | .freeze => 4 | .pfail => 5
  | .register => 6

/-- The running pass is aborted with the counts reached so far (R230, R498). -/
def State.abortScrub (s : State) (why : AbortWhy) : State :=
  match s.th.scrub with
  | none => s
  | some p =>
    let s := match s.act p.id with
      | some a => s.abortBooks a why.code
      | none => s
    s.endScrub p true

/-- A write of TH_SCRUB_CTRL (R228, R230, R512). -/
def writeScrubCtrl (path : Path) (data : Nat) (s : State) : Status × State :=
  s.mgmtOnly path (bitAt data 0) fun s =>
    let s := if bitAt data 1 then s.abortScrub .register else s
    let s := if bitAt data 0 then
        s.refuseStart 9 (s.startScrub (s.rd TH_SCRUB_START.A) (s.rd TH_SCRUB_END.A)) else s
    (.done, s)

/-- TH_SCRUB_START (R228). -/
def execThScrubStart (path : Path) (data : U32) (s : State) : Out :=
  s.writeRow path Addr.TH_SCRUB_CTRL (writeScrubCtrl path data.toNat)

/-- TH_SCRUB_ABORT (R230). -/
def execThScrubAbort (path : Path) (data : U32) (s : State) : Out :=
  s.writeRow path Addr.TH_SCRUB_CTRL (writeScrubCtrl path data.toNat)

/-- What SCRUB does (R228, R464). -/
def dirScrub (d : Dir) (s : State) : State :=
  let w := d.arg 0
  s.dirCheck d (d.data == 0 && wfield w 23 9 == 0 && wfield w 55 73 == 0) fun s =>
    State.dirGrant d (s.startScrub (wfield w 0 23) (wfield w 32 23))

/-- SCRUB (R228, R464). -/
def execScrub (r : DirReq) (s : State) : Out := .next (s.directive 0x09 r (· == 1) dirScrub)

/-! ## Migration (R231 to R235) -/

/-- Whether a spare is free: not in service, not receiving, and not itself retired (R232, R233). -/
def State.spareFree (s : State) (i : Nat) : Bool :=
  !s.on (TH_REMAP.USED i) && !s.th.bankOff.contains (256 + i) &&
    match s.th.mig with
    | some m => m.spare != 256 + i
    | none => true

/-- The lowest-numbered free spare of a half (R197, R232). (log 61: DEDUCED) -/
def State.freeSpare (s : State) (h : Nat) : Option Nat :=
  ([0, 1, 2, 3].map (· + 4 * h)).find? s.spareFree

/-- What a request for a migration comes to: no spare is free, or the registry's answer (R231, R234).
(log 60, 61: DEDUCED) -/
def State.startMigration (s : State) (b : Nat) : Option (Grant × State) :=
  if 256 ≤ b then some (.refused 0xE0 (b % 2 ^ 16), s)
  else match s.th.mig with
    | some m => some (s.regRefused 0xE1 m.id)
    | none =>
      match s.freeSpare (bankHalf b) with
      | none => none
      | some i =>
        match s.register 2 [(1, b, b), (1, 256 + i, 256 + i)] b with
        | (.refused r d, s) => some (.refused r d, s)
        | (.id n, s) =>
          let s := { s with th := { s.th with mig := some { bank := b, spare := 256 + i, id := n } } }
          let s := (s.wr TH_MIG_STAT.BANK b).wr TH_MIG_STAT.SPARE (256 + i)
          some (.id n, (s.wr TH_MIG_STAT.BUSY 1).wr TH_MIG_PROG.C 0)

/-- No spare of the half is free: the migration is not started (R234). -/
def State.sparesOut (s : State) (b : Nat) : State := s.event (bankHalf b) TH_EVT.SPARES_OUT b

/-- A write of TH_MIG_CTRL (R231, R512): both fields are management-only. -/
def writeMigCtrl (path : Path) (data : Nat) (s : State) : Status × State :=
  s.mgmtOnly path (bits data 0 9 != 0 || bitAt data 31) fun s =>
    if !bitAt data 31 then (.done, s)
    else match s.startMigration (bits data 0 9) with
      | none => (.done, s.sparesOut (bits data 0 9))
      | some g => (.done, s.refuseStart 2 g)

/-- TH_MIG_START (R231). -/
def execThMigStart (path : Path) (data : U32) (s : State) : Out :=
  s.writeRow path Addr.TH_MIG_CTRL (writeMigCtrl path data.toNat)

/-- What BANK_MIGRATE does (R231, R234, R464): with no spare free it is not accepted in the present state,
which the half's first TH_REMAP shows. -/
def dirBankMigrate (d : Dir) (s : State) : State :=
  match s.startMigration d.data with
  | none => (s.sparesOut d.data).dirWrong d (Addr.TH_REMAP (4 * bankHalf d.data))
  | some g => State.dirGrant d g

/-- BANK_MIGRATE (R231, R464). -/
def execBankMigrate (r : DirReq) (s : State) : Out := .next (s.directive 0x0E r noArgs dirBankMigrate)

/-- The bank, or the spare in its place, that serves bank number `b` now: the spare taken last (R197). -/
def State.serving (s : State) (b : Nat) : Nat :=
  match ((List.range 8).filter fun i => s.on (TH_REMAP.USED i) && s.rd (TH_REMAP.BANK i) == b).getLast? with
  | some i => 256 + i
  | none => b

/-- MIGRATION_DONE (R232, R486, R488): the spare takes the bank's number, the old bank powers down, and the
pair is entered in the ledger. -/
def execMigrationDone (s : State) : Out :=
  match s.th.mig with
  | none => .next s
  | some m =>
    let i := m.spare - 256
    let s := { s with th := { s.th with
      mig := none, bankOff := s.serving m.bank :: s.th.bankOff
      migCorr := Tab.set 0 s.th.migCorr m.bank 0, migUncorr := Tab.set 0 s.th.migUncorr m.bank 0 } }
    let s := (s.wr (TH_REMAP.BANK i) m.bank).wr (TH_REMAP.USED i) 1
    let s := (s.wr TH_MIG_PROG.C 32768).wr TH_MIG_STAT.BUSY 0
    let s := s.flag TH_EVT.MIG_DONE
    let s := ((s.tally 0x0500).tally 0x0501).setTally (0x0800 + i) (m.bank + 1)
    let s := s.ledgerEvent 0x03 [m.bank, m.spare]
    match s.act m.id with
    | some a => .next (s.endAct a (bankHalf m.bank) Addr.TH_EVT TH_EVT.MIG_DONE.lo [] 0)
    | none => .next s

/-- A migration ends early: the old bank stays in service and the spare is freed (R235, R498). -/
def State.abortMigration (s : State) (why : AbortWhy) : State :=
  match s.th.mig with
  | none => s
  | some m =>
    let s := { s with th := { s.th with mig := none } }
    let s := s.wr TH_MIG_STAT.BUSY 0
    match s.act m.id with
    | some a => (s.abortBooks a why.code).endAct a (bankHalf m.bank) Addr.TH_EVT TH_EVT.MIG_DONE.lo [] 1
    | none => s

end Sys2Proof.Machine
end

