-- ==== Sys2Proof/Machine/Timing.lean ====
section
/-! DEFINITION. Timing channels: from a transition to an entry, the edge buffer, TIMES records, full
recalibration and the self-test (R85 to R111). -/

namespace Sys2Proof.Machine

/-- TYPE of a TIMES record (R205). -/
def typeTimes : Nat := 3

/-- TYPE of a BREAK record (R205). -/
def typeBreak : Nat := 6

/-! ## Settings in force -/

/-- EVERY calibration is in force (R42, R93). -/
def State.calEvery (s : State) (c : Nat) : Bool :=
  match s.rd (TCH_CTRL.CALMODE c) with
  | 0 => s.rd PROF_STAT.PITCH != 3
  | m => m == 1

/-- Places of the edge buffer: B of R97. -/
def State.bufPlaces (s : State) (c : Nat) : Nat := if s.chanFull c then 16 else 1

/-- Tc between two takes: P of R97. -/
def State.takeTc (s : State) (c : Nat) : Nat := if s.chanFull c then 64 else 128

/-- The queue for a channel's records of a course (R99). -/
def State.chanQueue (s : State) (c course : Nat) : Nat :=
  s.rd (TCH_QUEUE.QBASE c) + course % (s.rd (TCH_QUEUE.QCOUNT c) + 1)

/-- The write path of a channel refuses: the queue of its current record at its limit, a record that waits
for its region, its group's FIFO above its high mark, its ring full of selected courses, or a freeze
(R90, R98, R184, R202, R503). -/
def State.chanRefuses (s : State) (c : Nat) : Bool :=
  let w := 512 + c
  let course := match (s.chan c).courses.head? with
    | some k => k.course
    | none => keyCourse s.keyNow
  s.waiting w || s.fifoRefuses (.timingWriter ⟨c / 8 % 12, Nat.mod_lt _ (by decide)⟩) || s.mg.frozen ||
    (if s.circular w then s.on (ACQ_STAT.REFUSING (s.rd (TCH_ACQ.GROUP c)))
     else s.queueRefuses (s.chanQueue c course))

/-! ## Counts of a course -/

/-- The open course of a channel that contains a device time, changed by `f`; the newest when none does.
(log 27: DESIGN CHOICE) -/
def State.inCourse (s : State) (c t : Nat) (f : TchCourse → TchCourse) : State :=
  let x := s.chan c
  let k := s.keyAt t
  let hit := fun (r : TchCourse) => r.epoch == keyEpoch k && r.course == keyCourse k
  match x.courses.reverse with
  | [] => s
  | last :: older =>
    if x.courses.any hit then
      s.setChan c { x with courses := x.courses.map fun r => if hit r then f r else r }
    else s.setChan c { x with courses := older.reverse ++ [f last] }

/-- The next entry's `LOSS` counts one more edge, and `TCH_EVT.LOSS` is set (R90, R102, R104). -/
def State.chanLoss (s : State) (c : Nat) : State :=
  let x := s.chan c
  (s.setChan c { x with loss := min 0xFFFF (x.loss + 1) }).flag (TCH_EVT.LOSS c)

/-- Losses of conditions 4 and 5 in the course that contains `t` (R104). -/
def State.courseLosses (s : State) (c t : Nat) : Nat :=
  let k := keyCourse (s.keyAt t)
  match (s.chan c).courses.find? (fun r => r.course == k) <|> (s.chan c).courses.getLast? with
  | some r => r.lostFull + r.lostClose
  | none => 0

/-- One NOTE for a course whose losses have just passed `LOSS_NOTE` (R104). -/
def State.lossNote (s : State) (c t : Nat) : State :=
  let lim := s.eff (TCH_NOTE.LOSS_NOTE c)
  if lim ≠ 0 ∧ s.courseLosses c t = lim + 1 then
    s.noteBit (halfOf 96 c) (TCH_EVT.LOSS c) (unitId 2 c)
  else s

/-! ## Judging a transition (R86 to R90) -/

/-- What becomes of a transition (R90), in order of the conditions. -/
inductive Verdict where
  | outOfService | disarmed | holdoff | tooClose | noRoom | accepted
deriving DecidableEq, Repr

/-- Whether the channel captures a polarity (R86). -/
def captures (edge : Nat) (lead : Bool) : Bool :=
  match edge with
  | 0 => lead
  | 1 => !lead
  | _ => true

/-- Whether the selected gate is open (R89). -/
def State.gateOpen (s : State) (c gates : Nat) : Bool :=
  bitAt gates (s.rd (TCH_CTRL.GATE_SEL c)) != s.on (TCH_CTRL.GATE_POL c)

/-- Whether a trigger window is open at a device time (R89). -/
def State.windowOpen (s : State) (c t : Nat) : Bool :=
  match (s.chan c).openUntil with
  | some u => decide (t < u)
  | none => false

/-- Whether a channel is armed for an edge in the tick at `t` (R89). -/
def State.armed (s : State) (c t gates : Nat) : Bool :=
  match s.rd (TCH_CTRL.ARM c) with
  | 0 => true
  | 1 => s.gateOpen c gates
  | 2 => s.windowOpen c t
  | _ => s.gateOpen c gates && s.windowOpen c t

/-- Whether the channel is in service (R90). -/
def State.chanInService (s : State) (c : Nat) : Bool := (s.chan c).admitted && (s.chan c).oosAt.isNone

/-- Minimum spacing in Tc: 16, or 32 on one interpolator alone (R90, R95). -/
def State.spacing (s : State) (c : Nat) : Nat :=
  if s.on (TCH_STAT.I0_FAULT c) != s.on (TCH_STAT.I1_FAULT c) then 32 else 16

/-- The verdict on a transition in coarse tick `k` (R90). Spans are between coarse ticks. (log 35: DEDUCED) -/
def State.judge (s : State) (c k gates : Nat) : Verdict :=
  let x := s.chan c
  let since := k + 1 - x.lastTick
  if !s.chanInService c then .outOfService
  else if !s.armed c (k * tcTf) gates then .disarmed
  else if x.lastTick ≠ 0 ∧ since < s.eff (TCH_HOLD.TC c) then .holdoff
  else if x.lastTick ≠ 0 ∧ since < s.spacing c then .tooClose
  else if s.chanRefuses c || decide (s.bufPlaces c ≤ x.buf.length) then .noRoom
  else .accepted

/-- A transition that is not accepted is counted, in one counter (R90, R101, R104). (log 27: DESIGN CHOICE) -/
def State.turnAway (s : State) (c t : Nat) (v : Verdict) : State :=
  match v with
  | .outOfService => ((s.count (LOST_OOS.N c)).inCourse c t fun r => { r with lostOos := r.lostOos + 1 }).chanLoss c
  | .disarmed => (s.count (DISARMED_CNT.N c)).inCourse c t fun r => { r with disarmed := r.disarmed + 1 }
  | .holdoff => (s.count (HOLDOFF_CNT.N c)).inCourse c t fun r => { r with holdoff := r.holdoff + 1 }
  | .tooClose =>
    (((s.count (LOST_CLOSE.N c)).inCourse c t fun r => { r with lostClose := r.lostClose + 1 }).chanLoss c).lossNote c t
  | .noRoom =>
    (((s.count (LOST_FULL.N c)).inCourse c t fun r => { r with lostFull := r.lostFull + 1 }).chanLoss c).lossNote c t
  | .accepted => s

/-! ## Interpolators (R91 to R95) -/

/-- The interpolator `i` of a channel. -/
def TchSt.interp (x : TchSt) (i : Nat) : Interp := if i = 0 then x.i0 else x.i1

/-- The interpolator `i` of a channel set. -/
def TchSt.setInterp (x : TchSt) (i : Nat) (p : Interp) : TchSt :=
  if i = 0 then { x with i0 := p } else { x with i1 := p }

/-- Fault bit of an interpolator (R95). -/
def faultBit (c i : Nat) : Field := if i = 0 then TCH_STAT.I0_FAULT c else TCH_STAT.I1_FAULT c

/-- g and off of an interpolator's last accepted pair (R94, R110). -/
def State.coefs (s : State) (c i : Nat) : Nat × Nat :=
  if i = 0 then (s.rd (TCH_CAL0.GAIN c), s.rd (TCH_CAL0.OFFSET c))
  else (s.rd (TCH_CAL1.GAIN c), s.rd (TCH_CAL1.OFFSET c))

/-- An accepted pair's coefficients (R95, R110). -/
def State.setCoefs (s : State) (c i g off : Nat) : State :=
  if i = 0 then (s.wr (TCH_CAL0.GAIN c) g).wr (TCH_CAL0.OFFSET c) off
  else (s.wr (TCH_CAL1.GAIN c) g).wr (TCH_CAL1.OFFSET c) off

/-- The interpolator for an edge at device time `t` (R92, R95): one that is not faulty before one that is, a
free one before a busy one, then the one whose last measurement is older. (log 30: DEDUCED) -/
def State.pickInterp (s : State) (c t : Nat) : Nat :=
  let x := s.chan c
  let rank := fun i => (b2n (s.on (faultBit c i)), b2n (decide (t < (x.interp i).busyUntil)),
    (x.interp i).lastMeas)
  let (f0, b0, m0) := rank 0
  let (f1, b1, m1) := rank 1
  if f0 < f1 then 0 else if f1 < f0 then 1
  else if b0 < b1 then 0 else if b1 < b0 then 1
  else if m0 ≤ m1 then 0 else 1

/-- Interval u from edge to stop tick, in Tf, rounded with halves up, and whether it was clamped
(R94, R95). -/
def fineTf (f g off : Nat) : Int × Bool :=
  let num : Int := (f : Int) - off
  if 10 * num < 9 * (g : Int) then (1024, true)
  else if 21 * (g : Int) < 10 * num then (2048, true)
  else ((2 * 1024 * num + g) / (2 * (g : Int)), false)

/-- Correction of a channel's timestamps in Tf (R94, R105). -/
def State.correction (s : State) (c : Nat) : Int :=
  toSigned 16 (s.rd (TCH_ALIGN.TF c)) + toSigned 16 (s.rd (TCH_SKEW.TF c))

/-- A measurement of an edge in tick `k` with code `f`: corrected timestamp, flags of R102 from bit 32 on,
and the state whose interpolator has measured it (R91 to R95). (log 28: DESIGN CHOICE; 30: DEDUCED) -/
def State.measure (s : State) (c k f : Nat) : Nat × Nat × State :=
  if s.on (TCH_STAT.COARSE_ONLY c) then
    ((((k * 1024 + 512 : Nat) : Int) + s.correction c).toNat, 2 ^ 6, s)
  else
    let t := k * tcTf
    let i := s.pickInterp c t
    let x := s.chan c
    let p := x.interp i
    let cal := s.calEvery c || decide (64 ≤ p.since + 1)
    let p' := { p with busyUntil := t + (if cal then 32 else 16) * tcTf, lastMeas := t,
                       since := p.since + 1, calibrating := cal }
    let (g, off) := s.coefs c i
    let s := s.setChan c (x.setInterp i p')
    let (u, clamped, s) :=
      if g = 0 then
        -- no pair of this interpolator has been accepted: the fine part is open
        let (v, s) := s.draw
        (((1024 + v % 1025 : Nat) : Int), true, s)
      else
        let (u, cl) := fineTf f g off
        (u, cl, s)
    let ts := (((k + 2) * 1024 : Nat) : Int) - u + s.correction c
    (ts.toNat, 2 ^ 2 * i + 2 ^ 4 * b2n (clamped || p.stale), s)

/-- An accepted edge enters the edge buffer, and is offered to the fast path when it leads
(R90, R102, R103). -/
def State.enterEdge (s : State) (c k : Nat) (lead : Bool) (ts flags : Nat) : State :=
  let s := s.count (EDGES.N c)
  let x := s.chan c
  let settle := decide (s.now < x.settleUntil)
  let fl := 1 + 2 * b2n lead + flags + 2 ^ 5 * b2n settle
  let s := s.setChan c { x with
    buf := x.buf ++ [⟨ts, fl, x.loss⟩], loss := 0, lastTick := k + 1, lastTs := ts, lastLevel := lead }
  if lead then s.offerChan c ts else s

/-- TIN_TRANSITION (R85 to R94): a transition of a captured polarity on an enabled channel is judged, and
counted, or measured and entered. (log 13: DESIGN CHOICE) -/
def execTinTransition (c : Channel) (level : Bool) (tick : BitVec 54) (gates code : BitVec 12)
    (s : State) : Out :=
  let c := c.val
  let t := s.unwrap (tick.toNat * 1024)
  let s := s.advance t
  let s := (s.wr (TCH_STAT.LEVEL c) (b2n level)).wr TGATE_LVL.LVL gates.toNat
  if !s.on (TCH_CTRL.EN c) || !captures (s.rd (TCH_CTRL.EDGE c)) level then .next s
  else
    let k := t / tcTf
    match s.judge c k gates.toNat with
    | .accepted =>
      let (ts, fl, s) := s.measure c k code.toNat
      .next (s.enterEdge c k level ts fl)
    | v => .next (s.turnAway c t v)

/-- HOLDOFF_END (R87): in both-edge mode the comparator's level at the end of the hold-off, when it is
opposite to the one the last accepted edge left, makes an entry at exactly that time. -/
def execHoldoffEnd (c : Channel) (s : State) : Out :=
  let c := c.val
  let x := s.chan c
  let hold := s.eff (TCH_HOLD.TC c)
  let k := x.lastTick - 1 + hold
  if !s.on (TCH_CTRL.EN c) || s.rd (TCH_CTRL.EDGE c) != 2 || x.lastTick == 0 ||
      decide (k * tcTf < s.now) then .next s
  else
    let s := s.advance (k * tcTf)
    let level := s.on (TCH_STAT.LEVEL c)
    if level = x.lastLevel then .next s
    else match s.judge c k (s.rd TGATE_LVL.LVL) with
      | .accepted => .next (s.enterEdge c k level (x.lastTs + hold * tcTf) (2 ^ 3))
      | v => .next (s.turnAway c (k * tcTf) v)

/-! ## Trigger windows (R89) -/

/-- The window that opens next. -/
def TchSt.nextWindow (x : TchSt) : Option (Nat × Nat × Bool) :=
  x.windows.foldl (fun o w => match o with
    | none => some w
    | some a => if w.1 < a.1 then some w else o) none

/-- TCH_WINDOW_OPEN (R89): overlapping windows merge into one; one that opened late marks its course. -/
def execTchWindowOpen (c : Channel) (s : State) : Out :=
  let c := c.val
  match (s.chan c).nextWindow with
  | none => .next s
  | some w =>
    let s := s.advance w.1
    let x := s.chan c
    let until_ := match x.openUntil with
      | some u => max u w.2.1
      | none => w.2.1
    let s := s.setChan c { x with windows := x.windows.erase w, openUntil := some until_ }
    .next (if w.2.2 then s.inCourse c s.now fun r => { r with clipped := true } else s)

/-- TCH_WINDOW_CLOSE (R89). -/
def execTchWindowClose (c : Channel) (s : State) : Out :=
  match (s.chan c.val).openUntil with
  | none => .next s
  | some u =>
    let s := s.advance u
    .next (s.setChan c.val { s.chan c.val with openUntil := none })

/-! ## Calibration pairs and faults (R93, R95) -/

/-- Both interpolators are faulty: coarse-only entries, or the channel's enable bit falls at the next course
boundary, with a NOTE (R95). (log 30: DEDUCED) -/
def State.bothFaulty (s : State) (c : Nat) : State :=
  if s.on (TCH_STAT.I0_FAULT c) && s.on (TCH_STAT.I1_FAULT c) then
    if s.on (TCH_CTRL.COARSE_FALLBACK c) then s.flag (TCH_STAT.COARSE_ONLY c)
    else
      let s := s.noteBit (halfOf 96 c) (TCH_EVT.CAL_FAULT c) (unitId 2 c)
      { s with boot := { s.boot with changes := s.boot.changes ++ [⟨2, c, false⟩] } }
  else s.wr (TCH_STAT.COARSE_ONLY c) 0

/-- CAL_PAIR_DONE (R93, R95): a calibration pair is accepted within its limits; a failed one keeps the
previous coefficients, and the third in a row marks the interpolator faulty. (log 13: DESIGN CHOICE) -/
def execCalPairDone (c : Channel) (i : Fin 2) (c1 c2 : BitVec 12) (s : State) : Out :=
  let c := c.val
  let p := (s.chan c).interp i.val
  if !p.calibrating then .next s
  else
    let s := s.advance p.busyUntil
    let g : Int := (c2.toNat : Int) - c1.toNat
    let off : Int := 2 * (c1.toNat : Int) - c2.toNat
    let x := s.chan c
    let p := { p with calibrating := false, lastCal := s.now, since := 0 }
    if 900 ≤ g ∧ g ≤ 1300 ∧ 0 ≤ off ∧ off ≤ 600 then
      let s := s.setChan c (x.setInterp i.val { p with fails := 0, stale := false })
      .next (s.setCoefs c i.val g.toNat off.toNat)
    else
      let s := s.setChan c (x.setInterp i.val { p with fails := p.fails + 1, stale := true })
      let s := s.flag (TCH_EVT.CAL_FAULT c)
      if p.fails + 1 = 3 then .next ((s.flag (faultBit c i.val)).bothFaulty c) else .next s

/-- IDLE_CALIBRATION_START (R93): a free interpolator that has taken no pair for 2^12 Tc starts one, when its
twin runs none. -/
def execIdleCalibrationStart (c : Channel) (i : Fin 2) (s : State) : Out :=
  let c := c.val
  let x := s.chan c
  let p := x.interp i.val
  let twin := x.interp (1 - i.val)
  let due := p.lastCal + 4096 * tcTf
  if !s.chanInService c || s.on (faultBit c i.val) || p.calibrating ||
      (twin.calibrating && decide (twin.busyUntil ≤ max due s.now)) then .next s
  else
    let s := s.advance (max due p.busyUntil)
    .next (s.setChan c ((s.chan c).setInterp i.val { p with calibrating := true }))

/-! ## TIMES records (R97 to R102) -/

/-- Words 1 and 2 of a TIMES record (R101). -/
def State.timesHead (s : State) (c : Nat) (r : TchCourse) (n : Nat) (last : Bool) : List Word :=
  [mkWord [(0, 64, stamp r.dCourse), (64, 16, n), (80, 8, r.partNo), (88, 1, b2n last),
      (89, 1, b2n r.start), (90, 1, b2n r.part), (91, 1, b2n r.maint), (92, 1, b2n r.settle),
      (93, 1, b2n r.coarse), (94, 1, b2n r.clipped), (95, 1, b2n (!s.calEvery c)),
      (96, 2, s.rd (TCH_CTRL.EDGE c)), (98, 2, s.rd (TCH_CTRL.ARM c)),
      (112, 16, min 0xFFFF (s.chan c).skipped)],
   mkWord [(0, 32, min (2 ^ 32 - 1) r.lostFull), (32, 24, min (2 ^ 24 - 1) r.lostClose),
      (56, 24, min (2 ^ 24 - 1) r.lostOos), (80, 16, min 0xFFFF r.holdoff),
      (96, 16, min 0xFFFF r.disarmed), (112, 16, min 0xFFFF r.oosLen)]]

/-- A channel's record of a course is written, with the entries gathered so far (R99, R101). -/
def State.emitTimes (s : State) (c : Nat) (r : TchCourse) (last : Bool) : State :=
  let w := 512 + c
  let body := s.timesHead c r r.entries.length last ++ packWords 64 r.entries
  let s := s.setChan c { s.chan c with skipped := 0 }
  s.emit w typeTimes (0x1000 + c) r.epoch r.course body (s.qualitySince r.dCourse) (s.chanQueue c r.course)
    r.start (r.final && last) (!s.circular w)

/-- A BREAK record opens a stream of the new epoch (R61, R83): on the queue of course 0, and always
pushed. (log 22: DEDUCED) -/
def State.emitBreak (s : State) (w src q epoch dStart : Nat) (body : List Word) : State :=
  if body.isEmpty then s
  else s.emit w typeBreak src epoch 0 body (s.qualitySince dStart) q false false true

/-- The BREAK record of the oldest open course, once no record of the old epoch is to come (R61). (log 22: DEDUCED) -/
def State.chanBreak (s : State) (c : Nat) : State :=
  match (s.chan c).courses with
  | [] => s
  | r :: rs =>
    let s := s.setChan c { s.chan c with courses := { r with brk := [] } :: rs }
    s.emitBreak (512 + c) (0x1000 + c) (s.chanQueue c 0) r.epoch r.dCourse r.brk

/-- Whether a course writes a record (R99). (log 31: DEDUCED) -/
def State.timesWanted (s : State) (c : Nat) (r : TchCourse) : Bool :=
  !r.entries.isEmpty || r.partNo != 0 || s.on (TCH_CTRL.EMPTY c) || r.start || r.part || r.maint || r.final ||
  decide (0 < r.lostFull + r.lostClose + r.lostOos + r.holdoff + r.disarmed + r.oosLen)

/-- The oldest open course of a channel closes (R99, R100). -/
def State.closeTimes (s : State) (c : Nat) : State :=
  match (s.chan c).courses with
  | [] => s
  | r :: rs =>
    let s := s.setChan c { s.chan c with courses := rs }
    let s := if s.timesWanted c r then s.emitTimes c r true
      else s.setChan c { s.chan c with skipped := (s.chan c).skipped + 1 }
    s.chanBreak c

/-- A course opens on a channel (R99). -/
def State.openTimes (s : State) (c key : Nat) (start : Bool) (brk : List Word) : State :=
  let x := s.chan c
  let r : TchCourse :=
    { course := keyCourse key, epoch := keyEpoch key, dCourse := s.keyStart key, start := start,
      coarse := s.on (TCH_STAT.COARSE_ONLY c), maint := x.oosAt.isSome, part := x.oosAt.isSome, brk := brk }
  let s := s.setChan c { x with courses := x.courses ++ [r] }
  if x.courses.isEmpty then s.chanBreak c else s

/-- Every course before course `k`, that of an entry, closes (R100). `fuel` is the number open. -/
def State.closeBefore (s : State) (c : Nat) (k : Nat × Nat) : Nat → State
  | 0 => s
  | fuel + 1 =>
    match (s.chan c).courses with
    | r :: _ :: _ => if courseLt (r.epoch, r.course) k then (s.closeTimes c).closeBefore c k fuel else s
    | _ => s

/-- 64 bits of an entry (R102). -/
def TimeEntry.word (e : TimeEntry) (dCourse : Nat) : Nat :=
  (e.ts - dCourse) % 2 ^ 32 + e.flags % 2 ^ 16 * 2 ^ 32 + e.loss % 2 ^ 16 * 2 ^ 48

/-- An entry joins the oldest open course; a full record is written and the course continues with the next
`PART` (R99). (log 32: DEDUCED) -/
def State.addEntry (s : State) (c : Nat) (e : TimeEntry) : State :=
  match (s.chan c).courses with
  | [] => s
  | r :: rs =>
    let (r, s) := if 4090 ≤ r.entries.length
      then ({ r with entries := [], partNo := r.partNo + 1 }, s.emitTimes c r false) else (r, s)
    let r := { r with entries := r.entries ++ [e.word r.dCourse]
                      settle := r.settle || bitAt e.flags 5
                      coarse := r.coarse || bitAt e.flags 6 }
    s.setChan c { s.chan c with courses := r :: rs }

/-- The oldest entry of the edge buffer goes to its course (R97, R100). An entry of a course that has not
begun yet opens it. -/
def State.takeEntry (s : State) (c : Nat) : State :=
  let x := s.chan c
  match x.buf, x.courses.getLast? with
  | e :: es, some last =>
    let key := s.keyAt e.ts
    let s := s.setChan c { x with buf := es, lastTake := s.now + 1 }
    let k := (keyEpoch key, keyCourse key)
    let s := if courseLt (last.epoch, last.course) k then s.openTimes c key false [] else s
    let s := s.closeBefore c k (x.courses.length + 1)
    s.addEntry c e
  | _, _ => s

/-- TIMES_ENTRY_TAKE (R97): P Tc after the last take, while the write path does not refuse. -/
def execTimesEntryTake (c : Channel) (s : State) : Out :=
  let c := c.val
  let x := s.chan c
  if x.buf.isEmpty then .next s
  else
    let s := if x.lastTake = 0 then s else s.advance (x.lastTake - 1 + s.takeTc c * tcTf)
    if s.chanRefuses c then .next s else .next (s.takeEntry c)

/-- TIMES_RECORD_CLOSE (R100): 128 Tc after the next boundary, when the buffer holds no entry of the oldest
open course. (log 31: DEDUCED) -/
def execTimesRecordClose (c : Channel) (s : State) : Out :=
  let c := c.val
  let x := s.chan c
  match x.courses with
  | [] => .next s
  | r :: _ =>
    let key := s.keyOf r.epoch r.course
    let held := x.buf.any fun e => decide (s.keyAt e.ts ≤ key)
    if held || decide (s.keyNow ≤ key) then .next s
    else
      let s := s.advance (s.keyEnd key + 128 * tcTf)
      -- R244: a record that no entry has opened is not opened at the queue's limit
      let unopened := r.entries.isEmpty && r.partNo == 0 && s.timesWanted c r
      if unopened && !s.circular (512 + c) && s.queueRefuses (s.chanQueue c r.course) then .next s
      else .next (s.closeTimes c)

/-! ## Full recalibration (R105, R106) -/

/-- Channels of a timing group. -/
def groupChans (g : Nat) : List Nat := (List.range 8).map fun i => 8 * g + i

/-- Half of a timing group (R6). -/
def timingHalf (g : Nat) : Nat := halfOf 12 g

/-- What a full recalibration measured on a channel (R95, R106): skew, comparator offset, faults. The
calibration pairs that its interval self-test took leave coefficients within R95's limits, free values.
(log 29: DEDUCED) -/
def State.applyChanCal (s : State) (r : ChanCal) : State :=
  let c := r.chan.val
  let old := toSigned 16 (s.rd (TCH_SKEW.TF c))
  let new := toSigned 16 r.skew.toNat
  let id := 0x600 + c / 8
  let s := s.setTally id (max (s.tallyOf id) (new - old).natAbs)
  let s := (s.wr (TCH_SKEW.TF c) r.skew.toNat).wr (TCH_SKEW.CMP_OFS c) r.cmpOfs.toNat
  let s := s.each [0, 1] fun s i =>
    let bad := if i = 0 then r.fail0 else r.fail1
    let s := s.wr (faultBit c i) (b2n bad)
    let x := s.chan c
    let p := x.interp i
    let s := s.setChan c (x.setInterp i
      { p with fails := 0, stale := bad, since := 0, lastCal := s.now, calibrating := false })
    if bad then s
    else
      let (g, s) := s.draw
      let (o, s) := s.draw
      s.setCoefs c i (900 + g % 401) (o % 601)
  s.bothFaulty c

/-- A group is to leave service at the next course boundary (R106). -/
def State.recalNext (s : State) (g : Nat) : State :=
  s.each (groupChans g) fun s c => s.setChan c { s.chan c with recalDue := true }

/-- What a request for a full recalibration comes to (R106, R495): group 0 to 11, or 0xF for all. -/
def State.startRecal (s : State) (sel : Nat) : Grant × State :=
  if 12 ≤ sel ∧ sel ≠ 0xF then (.refused 0xE0 (sel % 2 ^ 16), s)
  else
    let gs := if sel = 0xF then List.range 12 else [sel]
    match s.register 6 [(2, gs.headD 0, gs.getLastD 0)] deviceWide with
    | (.refused r d, s) => (.refused r d, s)
    | (.id n, s) =>
      let s := s.mapAct n fun a => { a with todo := gs }
      let first := [0, 1].filterMap fun h => gs.find? fun g => timingHalf g == h
      (.id n, s.each first State.recalNext)

/-- What TIMING_RECAL does (R106, R464). -/
def dirTimingRecal (d : Dir) (s : State) : State := State.dirGrant d (s.startRecal d.data)

/-- TIMING_RECAL (R106, R464). -/
def execTimingRecal (r : DirReq) (s : State) : Out := .next (s.directive 0x0A r noArgs dirTimingRecal)

/-- Time out of service up to now enters the open course, in units of 64 Tc (R101, R106). -/
def State.bookOutage (s : State) (c : Nat) : State :=
  let x := s.chan c
  match x.oosAt with
  | none => s
  | some t =>
    let n := (s.now - t) / (64 * tcTf)
    let courses := match x.courses.reverse with
      | [] => []
      | r :: rs => rs.reverse ++ [{ r with oosLen := r.oosLen + n, maint := true, part := true }]
    s.setChan c { x with courses := courses, oosAt := some s.now }

/-- A group leaves service for its recalibration at a course boundary (R106). -/
def State.recalLeave (s : State) (c : Nat) : State :=
  let x := s.chan c
  if !x.recalDue then s
  else
    let s := s.setChan c { x with recalDue := false, oosAt := some s.now }
    (s.wr (TCH_STAT.ACTIVE c) 0).flag (TCH_STAT.MAINT c)

/-- A channel returns to service at once (R106). -/
def State.recalReturn (s : State) (c : Nat) : State :=
  let s := s.bookOutage c
  let x := s.chan c
  let s := s.setChan c { x with oosAt := none, recalDue := false }
  (s.wr (TCH_STAT.ACTIVE c) (b2n x.admitted)).wr (TCH_STAT.MAINT c) 0

/-- RECAL_GROUP_DONE (R106): the group returns at once with what was measured, and the next group of its half
follows; the activity ends with its last group. (log 33: DEDUCED) -/
def execRecalGroupDone (g : Fin 12) (chans : List ChanCal) (s : State) : Out :=
  let g := g.val
  match s.mg.acts.find? fun a => a.code == 6 && a.todo.contains g with
  | none => .next s
  | some a =>
    if !(groupChans g).all fun c => (s.chan c).oosAt.isSome then .next s
    else
      let s := s.each (chans.filter fun r => r.chan.val / 8 == g) State.applyChanCal
      let s := s.each (groupChans g) fun s c => (s.recalReturn c).flag (TCH_EVT.RECAL_DONE c)
      let todo := a.todo.erase g
      let s := s.mapAct a.id fun a => { a with todo := todo }
      if todo.isEmpty then
        .next (s.endAct a (timingHalf g) (Addr.TCH_EVT (8 * g)) (TCH_EVT.RECAL_DONE (8 * g)).lo [] 0)
      else match todo.find? fun x => timingHalf x == timingHalf g with
        | some n => .next (s.recalNext n)
        | none => .next s

/-- A recalibration is aborted: its groups return to service as they are (R498). (log 33: DEDUCED) -/
def State.abortRecal (s : State) (a : Activity) (why : AbortWhy) : State :=
  let s := s.each (a.todo.flatMap groupChans) State.recalReturn
  let g := a.todo.headD 0
  (s.abortBooks a why.code).endAct a (timingHalf g) (Addr.TCH_EVT (8 * g)) (TCH_EVT.RECAL_DONE (8 * g)).lo [] 1

/-! ## Self-test (R107, R108) -/

/-- Pairs that a self-test of `now - at` has completed: they start 256 Tc apart (R107). (log 34: DESIGN CHOICE) -/
def State.testPairs (s : State) (c : Nat) : Nat :=
  min (2 ^ s.rd (ST_CTRL.LOG2N c)) ((s.now - (s.chan c).stAt) / (256 * tcTf))

/-- A running self-test is aborted (R108). (log 34: DESIGN CHOICE) -/
def State.abortTest (s : State) (c : Nat) : State :=
  if !s.on (ST_STAT.BUSY c) then s
  else
    let s := s.wr (ST_STAT.PAIRS c) (min 0xFFFF (s.testPairs c))
    ((s.wr (ST_STAT.BUSY c) 0).flag (ST_STAT.ABORTED c))

/-- A write of ST_CTRL (R107, R108): `K` and `LOG2N` outside their ranges, or a start while the channel is
enabled, make it an ignored write. -/
def writeStCtrl (c data : Nat) (s : State) : Status × State :=
  if bits data 4 7 < 16 ∨ bits data 12 4 < 8 ∨ (bitAt data 0 ∧ s.on (TCH_CTRL.EN c)) then (.ignored, s)
  else
    let s := if bitAt data 1 then s.abortTest c else s
    let (st, s) := s.codeWrite (Addr.ST_CTRL c) data
    if bitAt data 0 && !s.on (ST_STAT.BUSY c) then
      (st, (s.setChan c { s.chan c with stAt := s.now }).flag (ST_STAT.BUSY c))
    else (st, s)

/-- ST_START (R107, R108). (log 34: DESIGN CHOICE) -/
def execStStart (path : Path) (c : Channel) (data : U32) (s : State) : Out :=
  s.writeRow path (Addr.ST_CTRL c.val) (writeStCtrl c.val data.toNat)

/-- ST_ABORT (R108). -/
def execStAbort (path : Path) (c : Channel) (data : U32) (s : State) : Out :=
  s.writeRow path (Addr.ST_CTRL c.val) (writeStCtrl c.val data.toNat)

/-- SELF_TEST_DONE (R107): the mean and the RMS, in 1/16 Tf, and the verdict. -/
def execSelfTestDone (c : Channel) (mean rms : U32) (s : State) : Out :=
  let c := c.val
  if !s.on (ST_STAT.BUSY c) then .next s
  else
    let n := 2 ^ s.rd (ST_CTRL.LOG2N c)
    let s := s.advance ((s.chan c).stAt + n * 256 * tcTf)
    -- R107: 2 Tf are 32 sixteenths; 3.7 Tf are 59.2, and 11.1 Tf are 177.6
    let ok := decide ((toSigned 32 mean.toNat).natAbs ≤ 32) &&
      decide (rms.toNat ≤ if s.calEvery c then 59 else 177)
    let s := (s.wr (ST_MEAN.V c) mean.toNat).wr (ST_RMS.V c) rms.toNat
    let s := (s.wr (ST_STAT.PASS c) (b2n ok)).wr (ST_STAT.FAIL c) (b2n !ok)
    let s := (s.wr (ST_STAT.ABORTED c) 0).wr (ST_STAT.BUSY c) 0
    .next ((s.wr (ST_STAT.PAIRS c) (min 0xFFFF n)).flag (TCH_EVT.ST_DONE c))

/-! ## Register writes (R88, R109) -/

/-- A write of TCH_CTRL (R86, R108, R109): the fields beside `EN` only while it is 0, and `EN` through the
check. Setting it ends a self-test. -/
def writeTchCtrl (c data : Nat) (s : State) : Status × State :=
  if !s.on (TCH_CTRL.EN c) ∧ bits data 1 2 = 3 then (.ignored, s)
  else
    let s := if bitAt data 0 then s.abortTest c else s
    s.reqEnable 2 c (TCH_CTRL.EN c) data fun s =>
      s.whileOff (TCH_CTRL.EN c) fun s => s.codeWrite (Addr.TCH_CTRL c) data

/-- TCH_EN_WRITE (R109). -/
def execTchEnWrite (path : Path) (c : Channel) (data : U32) (s : State) : Out :=
  s.writeRow path (Addr.TCH_CTRL c.val) (writeTchCtrl c.val data.toNat)

/-- A write of TCH_THR within its ranges acts at the next boundary (R85, R88, R109). -/
def writeTchThr (c data : Nat) (s : State) : Status × State :=
  if (toSigned 10 (bits data 0 10)).natAbs ≤ 250 ∧ bits data 16 6 ≤ 40 then s.codeStage (Addr.TCH_THR c) data
  else (.ignored, s)

/-- A write of TCH_HOLD within its range acts at the next boundary (R87, R88, R109). -/
def writeTchHold (c data : Nat) (s : State) : Status × State :=
  if bits data 0 7 ≤ 64 then s.codeStage (Addr.TCH_HOLD c) data else (.ignored, s)

/-- A write of TCH_ALIGN or TCH_QUEUE is taken while the channel is disabled (R109). -/
def writeTchOff (c addr data : Nat) (s : State) : Status × State :=
  s.whileOff (TCH_CTRL.EN c) fun s => s.codeWrite addr data

end Sys2Proof.Machine
end

