-- ==== Sys2Proof/Machine/Reduce.lean ====
section
/-! DEFINITION. Port courses, HOLD, reduction and the records of a port (R140, R141, R152 to R162). -/

namespace Sys2Proof.Machine

/-! ## HOLD (R141) -/

/-- The queue for a port's records of a course (R159). -/
def State.portQueue (s : State) (p course : Nat) : Nat :=
  s.eff (EV_QUEUE.QBASE p) + course % (s.rd (RD_CTRL.QROT p) + 1)

/-- A port's records go to a ring (R182). -/
def State.portCircular (s : State) (p : Nat) : Bool := s.circular p

/-- The queue of a port's open record is at its limit (R141). -/
def State.portLimit (s : State) (p : Nat) : Bool :=
  match (s.port p).courses.getLast? with
  | some c => !s.portCircular p && s.atLimit (s.portQueue p c.course)
  | none => false

/-- A port's receive FIFO as R209 numbers it. -/
def rxFifo (p : Nat) : FifoId := .eaveRx ⟨p % 512, Nat.mod_lt _ (by decide)⟩

/-- A condition of R141, or a freeze (R503), makes a port hold. -/
def State.holdWanted (s : State) (p : Nat) : Bool :=
  s.mg.frozen || decide (s.eff (EV_FIFO.HIGH p) < s.fifoOcc (rxFifo p)) || s.portLimit p

/-- A hold begins: it is counted, and HOLD goes out (R141). -/
def State.holdStart (s : State) (p : Nat) : State :=
  let s := (s.flag (EV_STAT.HOLDING p)).count (EV_HOLDS.N p)
  (s.setPort p { s.port p with holdAt := s.now }).dlHold p true

/-- A hold ends: its duration is added up, and RESUME goes out (R141). -/
def State.holdEnd (s : State) (p : Nat) : State :=
  let s := s.count (EV_HOLD_TIME.N p) ((s.now - (s.port p).holdAt) / (64 * tcTf))
  (s.wr (EV_STAT.HOLDING p) 0).dlHold p false

/-- An ACTIVE port holds or resumes as R141 has it. -/
def State.holdPort (s : State) (p : Nat) : State :=
  if s.rd (EV_STAT.STATE p) ≠ 6 then s
  else if s.on (EV_STAT.HOLDING p) then
    if !s.holdWanted p && decide (s.fifoOcc (rxFifo p) ≤ s.eff (EV_FIFO.LOW p)) then s.holdEnd p else s
  else if s.holdWanted p then s.holdStart p else s

/-! ## Records of a port (R159 to R162) -/

/-- The two kinds of a port's records: 0 CHANGES, 1 HITS (R159). -/
def kindType (kind : Nat) : Nat := if kind = 0 then 2 else 1

/-- The record being built of a kind. -/
def PortCourse.built (c : PortCourse) (kind : Nat) : RecBuild := if kind = 0 then c.changes else c.hits

/-- The record being built of a kind set. -/
def PortCourse.setBuilt (c : PortCourse) (kind : Nat) (b : RecBuild) : PortCourse :=
  if kind = 0 then { c with changes := b } else { c with hits := b }

/-- Words 1 and 2 of a port's record (R160). -/
def State.portHead (s : State) (p kind : Nat) (c : PortCourse) (last : Bool) : List Word :=
  let b := c.built kind
  [mkWord [(0, 64, stamp c.dCourse), (64, 16, b.entries.length), (80, 8, b.part), (88, 1, b2n last),
      (89, 1, b2n c.start), (90, 1, b2n c.part), (91, 1, b2n c.key),
      (92, 1, b2n (s.rd (RD_CTRL.MODE p) == 2)), (94, 1, b2n c.final), (96, 3, b.phase)],
   mkWord [(0, 32, b.frames), (32, 24, min (2 ^ 24 - 1) b.lost), (56, 24, min (2 ^ 24 - 1) b.feLoss),
      (80, 24, min (2 ^ 24 - 1) b.held), (104, 24, min (2 ^ 24 - 1) b.supp)]]

/-- A port's record of a kind is written (R159). -/
def State.emitPort (s : State) (p kind : Nat) (c : PortCourse) (last : Bool) : State :=
  let body := s.portHead p kind c last ++ packWords (if kind = 0 then 32 else 64) (c.built kind).entries
  let final := c.final && last && kind == s.rd (RD_CTRL.KIND p)
  s.emit p (kindType kind) p c.epoch c.course body (s.qualitySince c.dCourse) (s.portQueue p c.course)
    c.start final (!s.portCircular p)

/-- The BREAK record of the oldest open course (R61). (log 22: DEDUCED) -/
def State.portBreak (s : State) (p : Nat) : State :=
  match (s.port p).courses with
  | [] => s
  | c :: cs =>
    let s := s.setPort p { s.port p with courses := { c with brk := [] } :: cs }
    s.emitBreak p p (s.portQueue p 0) c.epoch c.dCourse c.brk

/-- Key state of every channel of a port set (R154). -/
def State.keyAll (s : State) (p : Nat) : State := s.setPort p { s.port p with key := BitVec.allOnes 256 }

/-- The oldest open course's records are written: the other kind when it has an entry, then the primary
(R159). A key course in which no frame was reduced has set the key state all the same (R154). -/
def State.writePort (s : State) (p : Nat) : State :=
  match (s.port p).courses with
  | [] => s
  | c :: cs =>
    let s := s.setPort p { s.port p with courses := cs }
    let s := if c.keyDue then s.keyAll p else s
    let kind := s.rd (RD_CTRL.KIND p)
    let other := c.built (1 - kind)
    let s := if !other.entries.isEmpty || other.part != 0 then s.emitPort p (1 - kind) c true else s
    (s.emitPort p kind c true).portBreak p

/-- Whether frames handed over, and not yet reduced, belong to a course or an earlier one. -/
def State.rxHolds (s : State) (p : Nat) (k : Nat × Nat) : Bool :=
  let old := fun (t : Nat) =>
    let key := s.keyAt t
    !courseLt k (keyEpoch key, keyCourse key)
  (s.port p).rx.any fun f => old f.t || f.hits.any fun h => match h with
    | some t => old t
    | none => false

/-- A course's record can be opened, or is open already (R202, R244, R503). -/
def State.canOpen (s : State) (p : Nat) (c : PortCourse) : Bool :=
  c.opened || s.portCircular p || !s.queueRefuses (s.portQueue p c.course)

/-- Whether the oldest open course is closed for intake and every frame of it reduced (R124). -/
def State.courseReady (s : State) (p : Nat) : Bool :=
  match (s.port p).courses, (s.port p).closed with
  | c :: _, some k =>
    !courseLt k (c.epoch, c.course) && !s.rxHolds p (c.epoch, c.course) && s.canOpen p c
  | _, _ => false

/-- The records of closed courses are written, oldest first (R124, R159). -/
def State.flushPort (s : State) (p : Nat) : Nat → State
  | 0 => s
  | fuel + 1 => if s.courseReady p then (s.writePort p).flushPort p fuel else s

/-- As `flushPort`, for every open course; then HOLD or RESUME. A retired port whose last course is written
leaves service, and powers down where its image says so (R146). -/
def State.settlePort (s : State) (p : Nat) : State :=
  let s := s.flushPort p (s.port p).courses.length
  let x := s.port p
  if x.courses.isEmpty && x.outFrom.isSome then
    let s := s.setPort p { x with inFrom := none, outFrom := none }
    if s.on (EV_CTRL.PWRDN p) then
      (s.setPort p { s.port p with poweredDown := true }).wr (EV_STAT.STATE p) 0
    else s
  else s.holdPort p

/-- Every port goes on as far as it can: the records of closed courses that may be opened now are written, and it holds
or resumes (R124, R141, R244). -/
def State.holdAll (s : State) : State :=
  s.each (s.enabledPorts ++ (s.ports.map (·.1)).filter fun p => !s.on (EV_CTRL.EN p)) State.settlePort

/-- A port's courses up to `k` are closed for intake (R124). -/
def State.closeUpTo (s : State) (p : Nat) (k : Nat × Nat) : State :=
  let x := s.port p
  let k' := match x.closed with
    | some j => if courseLt j k then k else j
    | none => k
  s.setPort p { x with closed := some k' }

/-- Every open course of a port ends now, partial (R137, R147, R503). -/
def State.partPort (s : State) (p : Nat) : State :=
  let x := s.port p
  let s := s.setPort p { x with courses := x.courses.map fun c => { c with part := true } }
  match x.courses.getLast? with
  | some c => (s.closeUpTo p (c.epoch, c.course)).settlePort p
  | none => s

/-- A key course (R154). -/
def State.keyCourseOf (s : State) (p course : Nat) (start : Bool) : Bool :=
  start || course == 0 ||
    (s.eff (RD_CTRL.KEY p) != 0 && course % s.eff (RD_CTRL.KEY p) == 0)

/-- A course opens on a port (R154, R159). -/
def State.openPort (s : State) (p key : Nat) (start : Bool) (brk : List Word) : State :=
  let x := s.port p
  let course := keyCourse key
  let isKey := s.keyCourseOf p course start
  let c : PortCourse :=
    { course := course, epoch := keyEpoch key, dCourse := s.keyStart key, start := start, key := isKey,
      keyDue := isKey, brk := brk, opened := !s.queueRefuses (s.portQueue p course) }
  let s := s.setPort p { x with courses := x.courses ++ [c] }
  if x.courses.isEmpty then s.portBreak p else s

/-! ## Reduction of a frame (R153 to R157) -/

/-- TYPE of a frame header (R119). -/
def hdrType (h : U64) : Nat := bits h.toNat 60 4
/-- CLO (R119). -/
def hdrClo (h : U64) : Nat := bits h.toNat 52 8
/-- FTAG (R119). -/
def hdrFtag (h : U64) : Nat := bits h.toNat 32 20
/-- LEN (R119). -/
def hdrLen (h : U64) : Nat := bits h.toNat 24 8
/-- SEQ (R119). -/
def hdrSeq (h : U64) : Nat := bits h.toNat 16 8
/-- CH0 (R119). -/
def hdrCh0 (h : U64) : Nat := bits h.toNat 8 8
/-- FE_LOSS (R119). -/
def hdrFeLoss (h : U64) : Bool := bitAt h.toNat 0
/-- HELD (R119). -/
def hdrHeld (h : U64) : Bool := bitAt h.toNat 1

/-- The samples of a SAMPLE frame: channel and value (R120). -/
def frameSamples (f : RxFrame) : List (Nat × Nat) :=
  f.body.zipIdx.flatMap fun (w, j) =>
    (List.range 4).map fun i => (hdrCh0 f.header + 4 * j + i, bits w.toNat (16 * i) 16)

/-- Whether a sample is to be stored by itself (R153). -/
def State.wantsSample (s : State) (p : Nat) (x : PortSt) (ch v : Nat) : Bool :=
  let far := fun (m : Nat) => decide (s.eff (RD_DB.DB p) < ((v : Int) - m).natAbs)
  match s.rd (RD_CTRL.MODE p) with
  | 0 => far (Tab.get 0 x.lval ch).toNat || x.key.getLsbD ch
  | 1 => far (s.eff (RD_DB.BASE p))
  | _ => true

/-- A slot of a CHANGES record that marks what follows (R161). -/
def marker (mkind n tofs : Nat) : Nat := 2 ^ 31 + mkind % 4 * 2 ^ 29 + n % 128 * 2 ^ 22 + tofs % 2 ^ 22

/-- Two samples to a full slot (R161). -/
def fullSlots : List (Nat × Nat) → List Nat
  | a :: b :: rest => (a.2 + b.2 * 2 ^ 16) :: fullSlots rest
  | [a] => [a.2]
  | [] => []

/-- What a SAMPLE frame stores: its slots, its stored samples, and whether it is FULL (R155). -/
def State.reduceSamples (s : State) (p : Nat) (x : PortSt) (f : RxFrame) (tofs : Nat) :
    List Nat × List (Nat × Nat) × Bool :=
  let all := frameSamples f
  let want := all.filter fun a => s.wantsSample p x a.1 a.2
  let n := f.body.length
  if s.rd (RD_CTRL.MODE p) = 2 ∧ n ≠ 0 ∨ 2 * n < want.length then
    (marker 1 (2 * n - 1) tofs :: fullSlots all, all, true)
  else if want.isEmpty then ([], [], false)
  else (marker 0 (want.length - 1) tofs :: want.map fun a => a.1 % 256 * 2 ^ 16 + a.2, want, false)

/-- Most entries of a record: 2,045 words after its header and words 1 and 2 (R159). -/
def recRoom (kind : Nat) : Nat := if kind = 0 then 4 * 2045 else 2 * 2045

/-- The open course of a port with an epoch and number changes by `f`. -/
def State.mapCourse (s : State) (p : Nat) (k : Nat × Nat) (f : PortCourse → PortCourse) : State :=
  let x := s.port p
  s.setPort p { x with courses := x.courses.map fun c => if (c.epoch, c.course) = k then f c else c }

/-- Entries that belong together enter a course's record of a kind; one that lacks the room for them is
written, and the course continues with the next `PART` (R159). -/
def State.addPort (s : State) (p kind : Nat) (k : Nat × Nat) (es : List Nat) (phase : Nat) : State :=
  if es.isEmpty then s
  else match (s.port p).courses.find? fun c => (c.epoch, c.course) == k with
    | none => s
    | some c =>
      let b := c.built kind
      let s := if recRoom kind < b.entries.length + es.length then s.emitPort p kind c false else s
      s.mapCourse p k fun c =>
        let b := c.built kind
        let b := if recRoom kind < b.entries.length + es.length
          then { b with entries := [], part := b.part + 1 } else b
        { c.setBuilt kind { b with entries := b.entries ++ es, phase := phase, any := true } with opened := true }

/-- PHASE of a time in a course: Tc past its start, modulo 8 (R160). -/
def phaseOf (t dCourse : Nat) : Nat := (t - dCourse) / tcTf % 8

/-- The counts of a frame in its course's record of a kind (R160). -/
def State.countFrame (s : State) (p kind : Nat) (k : Nat × Nat) (f : RxFrame) (supp phase : Nat) : State :=
  s.mapCourse p k fun c =>
    let b := c.built kind
    let b := { b with
      frames := b.frames + 1, lost := b.lost + f.lost
      feLoss := b.feLoss + b2n (hdrFeLoss f.header), held := b.held + b2n (hdrHeld f.header), supp := b.supp + supp
      phase := phase }
    c.setBuilt kind b

/-- Samples stored: L takes their values, and their key bits clear (R154). -/
def State.storeSamples (s : State) (p : Nat) (ss : List (Nat × Nat)) : State :=
  let x := s.port p
  s.setPort p { x with
    lval := ss.foldl (fun t a => Tab.set 0 t a.1 (BitVec.ofNat 16 a.2)) x.lval
    key := ss.foldl (fun k a => k &&& ~~~(BitVec.ofNat 256 (2 ^ a.1))) x.key }

/-- A frame's course, as epoch and number. -/
def State.courseOf (s : State) (t : Nat) : Nat × Nat := (keyEpoch (s.keyAt t), keyCourse (s.keyAt t))

/-- Device time of the start of the course that contains a time. -/
def State.courseStart (s : State) (t : Nat) : Nat := s.keyStart (s.keyAt t)

/-- Key state is set before a frame at the start of a key course, and after a LOSS entry (R154). -/
def State.keyBefore (s : State) (p : Nat) (k : Nat × Nat) (lost : Nat) : State :=
  let x := s.port p
  let begun := fun (c : PortCourse) => !courseLt k (c.epoch, c.course)
  let due := x.courses.any fun c => begun c && c.keyDue
  let s := s.setPort p { x with
    courses := x.courses.map fun c => if begun c then { c with keyDue := false } else c }
  if due || decide (0 < lost) then s.keyAll p else s

/-- A SAMPLE frame is reduced (R153 to R157, R161). -/
def State.reduceSample (s : State) (p : Nat) (f : RxFrame) : State :=
  let k := s.courseOf f.t
  let d := s.courseStart f.t
  let s := s.keyBefore p k f.lost
  let tofs := (f.t - d) / tcTf
  let (slots, stored, full) := s.reduceSamples p (s.port p) f tofs
  let supp := 4 * f.body.length - stored.length
  let loss := if 0 < f.lost then [marker 2 0 (min f.lost 0x3FFFFF)] else []
  let s := s.countFrame p 0 k f supp (phaseOf f.t d)
  let s := s.addPort p 0 k (loss ++ slots) (phaseOf f.t d)
  let s := s.storeSamples p stored
  let s := if full then s.count (RD_FULL.N p) else s
  let s := s.count (RD_STORED.N p) (if full then 2 * f.body.length else stored.length)
  let s := (s.count (RD_SUPP.N p) supp).count (RD_LOSTFR.N p) f.lost
  if hdrFeLoss f.header then s.keyAll p else s

/-- A HITS entry (R162). -/
def hitEntry (t dCourse chan value : Nat) : Nat :=
  let hofs := ((t - dCourse) / tcTf - phaseOf t dCourse) / 8
  hofs % 2 ^ 20 * 2 ^ 44 + chan % 2 ^ 12 * 2 ^ 32 + value % 2 ^ 32

/-- The hits of a HIT frame that were kept: time, channel, value (R120, R156). -/
def frameHits (f : RxFrame) : List (Nat × Nat × Nat) :=
  (f.body.zip f.hits).filterMap fun (w, h) => h.map fun t => (t, bits w.toNat 52 12, bits w.toNat 0 32)

/-- A HIT frame is passed through (R153, R154, R156, R157, R162). -/
def State.reduceHit (s : State) (p : Nat) (f : RxFrame) : State :=
  let k := s.courseOf f.t
  let d := s.courseStart f.t
  let s := s.keyBefore p k f.lost
  let s := s.countFrame p 1 k f 0 (phaseOf f.t d)
  let s := if 0 < f.lost then s.addPort p 1 k [hitEntry f.t d 0xFFF f.lost] (phaseOf f.t d) else s
  let hits := frameHits f
  let s := s.each hits fun s (t, ch, v) =>
    let d := s.courseStart t
    s.addPort p 1 (s.courseOf t) [hitEntry t d ch v] (phaseOf t d)
  let s := (s.count (RD_STORED.N p) hits.length).count (RD_LOSTFR.N p) f.lost
  if hdrFeLoss f.header then s.keyAll p else s

/-- What a frame offers to the fast path: value and time of each stored sample, or of each hit (R163). -/
def State.offersOf (s : State) (p : Nat) (f : RxFrame) : List (Nat × Nat) :=
  if hdrType f.header = 1 then
    let x := (s.keyBefore p (s.courseOf f.t) f.lost).port p
    (s.reduceSamples p x f 0).2.1.map fun a => (a.2, f.t)
  else (frameHits f).map fun (t, _, v) => (v % 2 ^ 16, t)

/-- A frame's entries are offered, once (R163). (log 38: DEDUCED) -/
def State.offerFrame (s : State) (p : Nat) (f : RxFrame) : State :=
  if (s.port p).offered then s
  else s.each (s.offersOf p f) fun s a => s.offerPort p a.1 a.2 f.handAt

/-- The octet-to-bank FIFO of a port (R140, R214). -/
def octetFifo (p : Nat) : FifoId := .octetWriter ⟨p / 8 % 64, Nat.mod_lt _ (by decide)⟩

/-- Reduction takes no words of a port whose output is refused: a record that waits, a queue at its limit
with no record open, or a ring full of selected courses (R140, R184, R202, R244). In a freeze the frames already
received are reduced into the courses that end (R503). -/
def State.outputRefused (s : State) (p : Nat) (k : Nat × Nat) : Bool :=
  s.waiting p ||
  (s.portCircular p && s.on (ACQ_STAT.REFUSING (s.rd (RD_CTRL.GROUP p)))) ||
  !((s.port p).courses.all fun c => (c.epoch, c.course) != k || s.canOpen p c)

/-- FRAME_REDUCTION (R140, R152 to R157, R163): the oldest frame of the receive FIFO is reduced and released.
When the octet-to-bank FIFO refuses, its entries have been offered and reduction rewinds. (log 38: DEDUCED) -/
def execFrameReduction (p : Port) (s : State) : Out :=
  let p := p.val
  match (s.port p).rx with
  | [] => .next s
  | f :: fs =>
    let k := s.courseOf f.t
    if s.outputRefused p k then .next s
    else
      let s := s.offerFrame p f
      if s.fifoRefuses (octetFifo p) then
        .next (s.setPort p { s.port p with offered := true })
      else
        let s := if hdrType f.header = 1 then s.reduceSample p f else s.reduceHit p f
        let x := s.port p
        let s := s.setPort p { x with rx := fs, offered := false }
        let s := s.count (OCT_INTAKE.N (p / 8)) (f.body.length + 1)
        .next (s.settlePort p)

/-- Whether a port's course is closed for intake (R124). -/
def PortSt.shut (x : PortSt) (c : PortCourse) : Bool :=
  match x.closed with
  | some k => !courseLt k (c.epoch, c.course)
  | none => false

/-- EV_COURSE_CLOSE (R124): 64 × `EV_CLOSE.TMO` Tc after the next boundary the oldest course still open for intake
closes. -/
def execEvCourseClose (p : Port) (s : State) : Out :=
  let p := p.val
  match (s.port p).courses.find? fun c => !(s.port p).shut c with
  | none => .next s
  | some c =>
    let key := s.keyOf c.epoch c.course
    if s.keyNow ≤ key then .next s
    else
      let s := s.advance (s.keyEnd key + 64 * s.eff (EV_CLOSE.TMO p) * tcTf)
      .next ((s.closeUpTo p (c.epoch, c.course)).settlePort p)

/-! ## Register writes (R158) -/

/-- A write of RD_CTRL (R158): `KEY` at the next boundary, the other fields only while the port is
disabled. -/
def writeRdCtrl (p data : Nat) (s : State) : Status × State :=
  let a := Addr.RD_CTRL p
  if s.on (EV_CTRL.EN p) then
    s.codeStage a (setBits (s.reg a).toNat 16 8 (bits data 16 8))
  else s.codeWrite a data

end Sys2Proof.Machine
end

