-- ==== Sys2Proof/Machine/Eave.lean ====
section
/-! DEFINITION. Eave ports: frames, the downlink's timed commands, relays to front ends, bring-up, admission
and the pattern test (R112 to R151). -/

namespace Sys2Proof.Machine

/-! ## Link states (R134) -/

/-- States of R134. -/
def evDark : Nat := 0
/-- CLOCKING (R134). -/
def evClocking : Nat := 1
/-- ALIGN (R134). -/
def evAlign : Nat := 2
/-- TRAIN (R134). -/
def evTrain : Nat := 3
/-- SWAP_WAIT (R134). -/
def evSwapWait : Nat := 4
/-- LINKED (R134). -/
def evLinked : Nat := 5
/-- ACTIVE (R134). -/
def evActive : Nat := 6
/-- PATTERN (R134). -/
def evPattern : Nat := 7
/-- FAULT (R134). -/
def evFault : Nat := 8

/-- The state of a port (R134). -/
def State.evState (s : State) (p : Nat) : Nat := s.rd (EV_STAT.STATE p)

/-- A port is LINKED or ACTIVE. -/
def State.evUp (s : State) (p : Nat) : Bool := s.evState p == evLinked || s.evState p == evActive

/-- A port enters a state (R134, R150, R151). -/
def State.setEvState (s : State) (p st : Nat) : State :=
  let s := s.wr (EV_STAT.STATE p) st
  let s := s.wr (EV_PAT_STAT.BUSY p) (b2n (st == evPattern))
  s.wr ⟨Addr.OCT_STAT (p / 8), p % 8, 1⟩ (b2n (st == evActive))

/-- A NOTE about a port (R376). -/
def State.portNote (s : State) (p : Nat) (f : Field) : State := s.event (halfOf 512 p) f (unitId 1 p)

/-- The LINK_RETRAIN activity of a unit ends with the state reached, by its SUMMARY NOTE (R548). -/
def State.retrainReached (s : State) (kind index half addr state : Nat) (ok : Bool) : State :=
  match s.mg.acts.find? fun a => a.code == 5 && a.res == [(kind, index, index)] with
  | some a => s.endAct a half addr 0 [state] (if ok then 0 else 2)
  | none => s

/-- A port enters LINKED: the HOLD state in force goes out, and the port holds until it is admitted
(R134, R137, R548). (log 42: DEDUCED) -/
def State.evLink (s : State) (p : Nat) : State :=
  let s := s.setEvState p evLinked
  let s := if s.on (EV_STAT.HOLDING p) then s.dlHold p true else s.holdStart p
  s.retrainReached 5 p (halfOf 512 p) (Addr.EV_STAT p) evLinked true

/-- A port enters FAULT, with a NOTE of the state in which the fault arose (R134). -/
def State.evFail (s : State) (p : Nat) : State :=
  let from_ := s.evState p
  let s := (s.setEvState p evFault).flag (EV_EVT.FAULT p)
  let s := s.note (halfOf 512 p) (Addr.EV_EVT p) (EV_EVT.FAULT p).lo .event (unitId 1 p) [from_]
  s.retrainReached 5 p (halfOf 512 p) (Addr.EV_STAT p) evFault false

/-- A port leaves DARK when it may, and enters it when it must (R134). -/
def State.evWake (s : State) (p : Nat) : State :=
  if s.on (EV_CTRL.PRESENT p) && s.time.runs && !(s.port p).poweredDown then
    if s.evState p = evDark then s.setEvState p evClocking else s
  else if s.evState p = evDark then s else s.setEvState p evDark

/-- Sequence tracking starts afresh (R121). -/
def State.freshSeq (s : State) (p : Nat) : State :=
  s.setPort p { s.port p with seqSeen := 0, discarded := 0, lost := 0 }

/-! ## Relays to front ends (R129 to R131) -/

/-- `EV_STAT.OUTSTANDING` (R150). -/
def State.syncRelays (s : State) (p : Nat) : State := s.wr (EV_STAT.OUTSTANDING p) (s.port p).relays.length

/-- Every outstanding transaction of a port completes as link lost (R131). (log 39: DEDUCED) -/
def State.loseRelays (s : State) (p : Nat) : State :=
  let x := s.port p
  let s := s.setPort p { x with relays := [], relayWait := [] }
  (s.each (x.relays ++ x.relayWait) fun s r => s.respond r.dst r.tag .linkLost 0 0).syncRelays p

/-- A relay to a front end arrives (R129): link down, BUSY beyond 16 waiting, or waiting its turn. -/
def State.takeRelay (s : State) (p : Nat) (r : Relay) : State :=
  if !s.evUp p then s.respond r.dst r.tag .linkDown 0 (s.evState p)
  else if 16 ≤ (s.port p).relayWait.length then s.respondBusy r.dst r.tag
  else s.setPort p { s.port p with relayWait := (s.port p).relayWait ++ [r] }

/-- A relay request on a lane: executed here or routed (R129, R368, R370). -/
def State.relayRequest (s : State) (lane tag target op p addr data mask : Nat) (args : List Word) : State :=
  match s.arrive lane tag target (reqWords tag target op p addr data args) with
  | .gone s => s
  | .here dst s =>
    s.takeRelay p { tag := tag, dst := dst, op := op - 3, addr := addr % 2 ^ 24, data := data, mask := mask }

/-- FE_READ (R129, R370). -/
def execFeRead (lane : Lane) (tag target : BitVec 16) (port : Port) (addr : U32) (s : State) : Out :=
  .next (s.relayRequest lane tag.toNat target.toNat 4 port addr.toNat 0 0 [])

/-- FE_WRITE (R129, R370). -/
def execFeWrite (lane : Lane) (tag target : BitVec 16) (port : Port) (addr data : U32) (s : State) : Out :=
  .next (s.relayRequest lane tag.toNat target.toNat 5 port addr.toNat data.toNat 0 [])

/-- FE_RMW (R129, R370). -/
def execFeRmw (lane : Lane) (tag target : BitVec 16) (port : Port) (addr data mask : U32) (s : State) : Out :=
  .next (s.relayRequest lane tag.toNat target.toNat 6 port addr.toNat data.toNat mask.toNat
    [mkWord [(0, 32, mask.toNat)]])

/-- CRC-8 of R118. -/
def evCrc (bytes : List Nat) : Nat := crcMsb 8 0x2F 0xFF (bytes.flatMap (bitsMsb 8))

/-- The bytes of a 64-bit frame word, bits [63:56] first (R115, R118). -/
def frameBytes (w : U64) : List Nat := (List.range 8).map fun i => bits w.toNat (56 - 8 * i) 8

/-- Bytes of a number, high byte first. -/
def bytesHigh (n v : Nat) : List Nat := (List.range n).map fun i => bits v (8 * (n - 1 - i)) 8

/-- A transaction frame (R130). -/
def Relay.chars (r : Relay) : List Nat :=
  let bytes := [r.op * 16, r.feTag] ++ bytesHigh 3 r.addr ++
    (if r.op = 1 then [] else bytesHigh 4 r.data) ++ (if r.op = 3 then bytesHigh 4 r.mask else [])
  kChar kStart :: bytes ++ [evCrc bytes, kChar kEnd]

/-- The next tag that is neither outstanding nor timed out within the last 256 assignments (R129). -/
def PortSt.freeTag (x : PortSt) : Option Nat :=
  ((List.range 256).map fun i => (x.nextTag + i) % 256).find? fun t =>
    !(x.relays.any fun r => r.feTag == t) &&
    !(x.timedOut.any fun e => e.1 == t && decide (x.assigned < e.2 + 256))

/-- RELAY_ISSUE (R129, R130): the oldest waiting relay goes out under the next free tag. -/
def execRelayIssue (p : Port) (s : State) : Out :=
  let p := p.val
  let x := s.port p
  match x.relayWait, x.freeTag with
  | r :: rs, some t =>
    if !s.evUp p || decide (s.rd (EV_RLY.MAXOUT p) ≤ x.relays.length) then .next s
    else
      let r := { r with feTag := t, at_ := s.now }
      let s := s.setPort p { x with
        relays := x.relays ++ [r], relayWait := rs, nextTag := (t + 1) % 256, assigned := x.assigned + 1
        dlOut := r.chars }
      .next (s.syncRelays p)
  | _, _ => .next s

/-- RELAY_TIMEOUT (R131): the oldest outstanding transaction has had no reply for `EV_RLY.TMO` µs. (log 39: DEDUCED) -/
def execRelayTimeout (p : Port) (s : State) : Out :=
  let p := p.val
  match (s.port p).relays with
  | [] => .next s
  | r :: rs =>
    let s := s.advance (r.at_ + usTf (s.rd (EV_RLY.TMO p)))
    let x := s.port p
    let s := s.setPort p { x with relays := rs, timedOut := (r.feTag, x.assigned) :: x.timedOut.take 255 }
    .next ((s.syncRelays p).respond r.dst r.tag .timeOut 0 0)

/-- A REPLY frame answers its transaction, or is an orphan (R131). -/
def State.takeReply (s : State) (p : Nat) (w : U64) : State :=
  let x := s.port p
  match x.relays.find? fun r => r.feTag == bits w.toNat 56 8 with
  | none => s.count (EV_RLY_ORPHAN.N p)
  | some r =>
    let s := (s.setPort p { x with relays := x.relays.erase r }).syncRelays p
    s.respond r.dst r.tag .done (bits w.toNat 0 32) 0 0 (bits w.toNat 48 8)

/-! ## Frames (R119 to R124, R144) -/

/-- Whether a frame is good by R121: CRC, TYPE, LEN and end. -/
def frameGood (h : U64) (body : List U64) (crc : BitVec 8) (endOk : Bool) : Bool :=
  let n := hdrLen h
  endOk && body.length == n && evCrc ((h :: body).flatMap frameBytes) == crc.toNat &&
  match hdrType h with
  | 1 => decide (n ≤ 64) && decide (hdrCh0 h + 4 * n ≤ 256)
  | 2 => true
  | 3 => n == 1
  | 4 => n == 1
  | 5 => n == 2
  | _ => false

/-- A frame whose boundaries were found is discarded (R121). (log 36: DEDUCED) -/
def State.discardFrame (s : State) (p : Nat) : State :=
  (s.setPort p { s.port p with discarded := (s.port p).discarded + 1 }).flag (EV_EVT.LOSS p)

/-- The least number that is at least `d` and leaves the remainder of `k` modulo 256 (R121). -/
def lostFrames (d k : Nat) : Nat := d + (k + 256 - d % 256) % 256

/-- `SEQ` of a good frame: the gap, and the lost frames it makes known (R121). -/
def State.trackSeq (s : State) (p : Nat) (h : U64) : State :=
  let x := s.port p
  let q := hdrSeq h
  let (k, n) := if x.seqSeen = 0 then (0, 0)
    else
      let k := (q + 256 - x.seqSeen % 256) % 256
      (k, lostFrames x.discarded k)
  let s := s.setPort p { x with seqSeen := q + 1, discarded := 0, lost := x.lost + n }
  let s := s.count (EV_SEQGAP.N p) k
  if 0 < n then s.flag (EV_EVT.LOSS p) else s

/-- A frame's or a hit's time T (R123); none when `CLO` names no kept COURSE command. (log 37: DEDUCED) -/
def State.frameTime (s : State) (p clo tag : Nat) : Option Nat :=
  ((s.port p).dcs.find? fun c => c.1 == clo).map fun c =>
    ((c.2 : Int) + (8 * (tag : Int) + toSigned 16 (s.eff (EV_TIME.TOFS p))) * tcTf).toNat

/-- A frame is counted late, early or stale (R124). (log 44: DEDUCED) -/
def State.lateFrame (s : State) (p : Nat) : State := (s.count (EV_LATE.N p)).flag (EV_EVT.LOSS p)

/-- Whether a time lies in a port's admitted service (R137, R145, R146). -/
def PortSt.serves (x : PortSt) (t : Nat) : Bool :=
  match x.inFrom with
  | none => false
  | some a => decide (a ≤ t) && match x.outFrom with
    | some b => decide (t < b)
    | none => true

/-- Whether a time lies in a course that the port has closed (R124). -/
def State.isClosed (s : State) (p t : Nat) : Bool :=
  match (s.port p).closed with
  | some k => !courseLt k (s.courseOf t)
  | none => false

/-- Device time of the end of the course in progress (R124). -/
def State.courseEnd (s : State) : Nat := s.keyEnd s.keyNow

/-- A SAMPLE or HIT frame in time is handed to reduction: earlier courses close, each hit is judged, and the
frame waits in the receive FIFO (R122, R124, R140, R156). (log 36: DEDUCED) -/
def State.handOver (s : State) (p : Nat) (h : U64) (body : List U64) (t : Nat) : State :=
  let s := s.count (EV_FRAMES.N p)
  let earlier := (s.port p).courses.filter fun c => courseLt (c.epoch, c.course) (s.courseOf t)
  let s := match earlier.getLast? with
    | some c => s.closeUpTo p (c.epoch, c.course)
    | none => s
  let hits := if hdrType h = 2 then
      body.map fun w => match s.frameTime p (hdrClo h) (bits w.toNat 32 20) with
        | some ht => if s.isClosed p ht || decide (s.courseEnd ≤ ht) || !(s.port p).serves ht then none else some ht
        | none => none
    else []
  let s := s.count (EV_LATE.N p) (hits.filter Option.isNone).length
  let x := s.port p
  let f : RxFrame := { header := h, body := body, lost := x.lost, handAt := s.now, t := t, hits := hits }
  (s.setPort p { x with rx := x.rx ++ [f], lost := 0 }).settlePort p

/-- A good SAMPLE or HIT frame (R121 to R124, R144 to R146). (log 36: DEDUCED) -/
def State.dataFrame (s : State) (p : Nat) (h : U64) (body : List U64) : State :=
  let t := s.frameTime p (hdrClo h) (hdrFtag h)
  let inService := match t with
    | some t => (s.port p).serves t
    | none => (s.port p).inFrom.isSome
  if inService && decide (512 < s.fifoOcc (rxFifo p) + body.length + 1) then
    (s.count (EV_LOST_FULL.N p)).discardFrame p
  else
    let s := s.trackSeq p h
    if !inService then
      -- R147: after a warm reset, frames from before the first resumed course are late
      if (s.port p).warmed && (s.port p).outFrom.isNone then s.count (EV_LATE.N p) else s.count (EV_LOST_OOS.N p)
    else match t with
      | none => s.lateFrame p
      | some t =>
        if s.isClosed p t || decide (s.courseEnd ≤ t) then s.lateFrame p else s.handOver p h body t

/-- A frame is received whole on a port that is LINKED or ACTIVE (R120 to R122, R131). (log 36: DEDUCED) -/
def State.rxFrame (s : State) (p : Nat) (h : U64) (body : List U64) (crc : BitVec 8) (endOk : Bool) : State :=
  if !s.evUp p then s
  else if !frameGood h body crc endOk then (s.count (EV_BADFRM.N p)).discardFrame p
  else match hdrType h with
    | 3 => (s.trackSeq p h).takeReply p (body.headD 0)
    | 4 =>
      let s := s.trackSeq p h
      (s.wr (EV_FESTAT.S p) (bits (body.headD 0).toNat 0 32)).flag (EV_EVT.FE_STATUS p)
    | 5 => s
    | _ => s.dataFrame p h body

/-- SAMPLE_FRAME (R120). (log 23: DESIGN CHOICE) -/
def execSampleFrame (p : Port) (header : U64) (body : List U64) (crc : BitVec 8) (endOk : Bool)
    (s : State) : Out := .next (s.rxFrame p header body crc endOk)

/-- HIT_FRAME (R120). -/
def execHitFrame (p : Port) (header : U64) (body : List U64) (crc : BitVec 8) (endOk : Bool)
    (s : State) : Out := .next (s.rxFrame p header body crc endOk)

/-- REPLY_FRAME (R120, R131). -/
def execReplyFrame (p : Port) (header : U64) (body : List U64) (crc : BitVec 8) (endOk : Bool)
    (s : State) : Out := .next (s.rxFrame p header body crc endOk)

/-- STATUS_FRAME (R120, R122). -/
def execStatusFrame (p : Port) (header : U64) (body : List U64) (crc : BitVec 8) (endOk : Bool)
    (s : State) : Out := .next (s.rxFrame p header body crc endOk)

/-- EV3_CODEWORD (R117, R121): symbols corrected, or an uncorrectable codeword with the frames in it whose
header was read. (log 41: DESIGN CHOICE) -/
def execEv3Codeword (p : Port) (corrected : Nat) (uncorrectable : Bool) (headersRead : Nat) (s : State) : Out :=
  let p := p.val
  if s.rd (EV_CTRL.GEN p) != 2 || s.evState p == evDark || s.evState p == evClocking then .next s
  else if !uncorrectable then .next (s.count (EV_FEC_CORR.N p) corrected)
  else
    let s := s.count (EV_FEC_UNCORR.N p)
    let s := s.setPort p { s.port p with discarded := (s.port p).discarded + headersRead }
    .next (if 0 < headersRead then s.flag (EV_EVT.LOSS p) else s)

/-! ## Bring-up (R132 to R137) -/

/-- The neighbour of a port (R136). -/
def neighbour (p : Nat) : Nat := if p % 2 = 0 then p + 1 else p - 1

/-- A swap of two neighbours' uplinks is possible (R136). (log 40: DEDUCED) -/
def State.canSwap (s : State) (p : Nat) : Bool :=
  let q := neighbour p
  s.on (EV_CTRL.PRESENT p) && s.on (EV_CTRL.PRESENT q) &&
  s.rd (EV_CTRL.GEN p) == s.rd (EV_CTRL.GEN q) && s.on (EV_CTRL.AUTO_SWAP p) && s.on (EV_CTRL.AUTO_SWAP q)

/-- Pair swap (R136): both ports return to TRAIN with their receivers swapped. (log 40: DEDUCED) -/
def State.swapPair (s : State) (p : Nat) : State :=
  let q := neighbour p
  let pair : Field := ⟨Addr.OCT_STAT (p / 8), 8 + p % 8 / 2, 1⟩
  let on := 1 - s.rd pair
  let s := s.wr pair on
  s.each [min p q, max p q] fun s r =>
    let s := (s.setEvState r evTrain).wr (EV_STAT.SWAPPED r) on
    let s := s.setPort r { s.port r with goodTrain := 0, echo := 0 }
    s.portNote r (EV_EVT.SWAP r)

/-- A port that cannot be linked as its TRAIN frames have it: reason 0x45 (R136, R149). (log 40: DEDUCED) -/
def State.evForeign (s : State) (p detail : Nat) : State := (s.refuse 1 p 0x45 detail).evFail p

/-- Sixteen good TRAIN frames name the neighbour: SWAP_WAIT, and the swap when the neighbour waits for it
too (R134, R136). (log 40: DEDUCED) -/
def State.evSwap (s : State) (p : Nat) : State :=
  let q := neighbour p
  if !s.canSwap p then s.evForeign p q
  else
    let s := s.setEvState p evSwapWait
    if s.evState q = evSwapWait then s.swapPair p else s

/-- A good TRAIN frame, upright and without inversion, counts toward 16 in a row with one ECHO (R134). -/
def State.countTrain (s : State) (p echo : Nat) (valid : Bool) : State :=
  let x := s.port p
  if !valid then s.setPort p { x with goodTrain := 0 }
  else if echo ≠ p ∧ echo ≠ neighbour p then s.evForeign p echo
  else
    let n := if x.goodTrain ≠ 0 ∧ x.echo = echo then x.goodTrain + 1 else 1
    let s := s.setPort p { x with goodTrain := n, echo := echo }
    if n < 16 then s
    else if echo = p then s.evLink p
    else s.evSwap p

/-- An inversion is corrected (R135). (log 40: DEDUCED) -/
def State.invert (s : State) (p : Nat) (f : Field) : State :=
  let s := s.wr f (1 - s.rd f)
  (s.setPort p { s.port p with goodTrain := 0 }).portNote p (EV_EVT.POL p)

/-- `PATTERN` of a TRAIN frame (R133). -/
def trainPattern : U64 := 0x96F03CA50F5AC369

/-- TRAIN_FRAME (R133 to R136): identity, inversions, and the count toward LINKED or a pair swap. -/
def execTrainFrame (p : Port) (upright : Bool) (header : U64) (body : List U64) (crc : BitVec 8)
    (endOk : Bool) (s : State) : Out :=
  let p := p.val
  if s.evState p ≠ evTrain then .next s
  else if !frameGood header body crc endOk || hdrType header != 5 || body.getD 1 0 != trainPattern then
    let s := s.count (EV_BADFRM.N p)
    .next (s.setPort p { s.port p with goodTrain := 0 })
  else
    let w := (body.headD 0).toNat
    let s := s.wr (EV_FEID.ID p) (bits w 0 32)
    let dlInv := bitAt w 53 && bitAt w 54
    let s := if !upright then s.invert p (EV_STAT.UL_INV p) else s
    let s := if dlInv then s.invert p (EV_STAT.DL_INV p) else s
    if !upright || dlInv then .next s else .next (s.countTrain p (bits w 55 9) (bitAt w 54))

/-- EV_CLOCKING_DONE (R134). -/
def execEvClockingDone (p : Port) (s : State) : Out :=
  .next (if s.evState p = evClocking then s.setEvState p evAlign else s)

/-- EV_LOCK (R134). -/
def execEvLock (p : Port) (s : State) : Out :=
  if s.evState p ≠ evAlign then .next s
  else .next ((s.setEvState p evTrain).setPort p { s.port p with alignFails := 0, goodTrain := 0, echo := 0 })

/-- EV_ALIGN_TIMEOUT (R134): the eighth failure in a row is a FAULT. -/
def execEvAlignTimeout (p : Port) (s : State) : Out :=
  if s.evState p ≠ evAlign then .next s
  else
    let n := (s.port p).alignFails + 1
    let s := s.setPort p { s.port p with alignFails := if n = 8 then 0 else n }
    .next (if n = 8 then s.evFail p else s.setEvState p evClocking)

/-- EV_TRAIN_TIMEOUT (R134). -/
def execEvTrainTimeout (p : Port) (s : State) : Out :=
  .next (if s.evState p = evTrain then s.setEvState p evAlign else s)

/-- EV_SWAP_TIMEOUT (R134). -/
def execEvSwapTimeout (p : Port) (s : State) : Out :=
  .next (if s.evState p = evSwapWait then s.evForeign p (neighbour p) else s)

/-- A retirement of the port waits for its boundary (R147). -/
def State.retirePend (s : State) (kind index : Nat) : Bool :=
  s.boot.changes.any fun c => c.kind == kind && c.index == index && !c.enable

/-- Lock is lost on a LINKED or ACTIVE port (R137, R147). -/
def State.evLose (s : State) (p : Nat) : State :=
  let was := s.evState p == evActive
  let s := (s.count (EV_RETRAINS.N p)).flag (EV_EVT.RETRAIN p)
  let s := (s.tally (0x200 + p)).setEvState p evAlign
  let s := (s.loseRelays p).freshSeq p
  let s := s.setPort p { s.port p with warmed := false }
  if !was then s
  else
    let s := s.setPort p { s.port p with returning := true }
    if s.retirePend 1 p then
      -- R147: the record of the course in progress waits for the retirement's boundary
      let x := s.port p
      let s := s.setPort p { x with courses := x.courses.map fun c => { c with part := true } }
      match (s.port p).courses.reverse with
      | _ :: c :: _ => (s.closeUpTo p (c.epoch, c.course)).settlePort p
      | _ => s
    else
      let s := s.partPort p
      s.setPort p { s.port p with inFrom := none }

/-- EV_LOCK_LOSS (R137). -/
def execEvLockLoss (p : Port) (s : State) : Out := .next (if s.evUp p then s.evLose p else s)

/-! ## Timed downlink commands (R127, R128, R132) -/

/-- HOLD_REPEAT (R127): HOLD again while the port holds, or RESUME three times after one. -/
def execHoldRepeat (p : Port) (s : State) : Out :=
  let p := p.val
  if s.evState p = evDark then .next s
  else if s.on (EV_STAT.HOLDING p) then .next (s.dlHold p true)
  else match (s.port p).resumeLeft with
    | 0 => .next s
    | n + 1 =>
      let s := s.dlHold p false
      .next (s.setPort p { s.port p with resumeLeft := n })

/-- TRAINING_SEND (R126, R132). -/
def execTrainingSend (p : Port) (s : State) : Out :=
  let p := p.val
  if evClocking ≤ s.evState p ∧ s.evState p ≤ evSwapWait then
    .next (s.dlLaunch p (s.dlStart p s.now) [kChar kTraining, p % 256, p / 256 * 128 + 0x55])
  else .next s

/-- EV_TRIGGER_CMD (R128): the TRIGGER requested first goes out, with its DELTA. -/
def execEvTriggerCmd (p : Port) (s : State) : Out :=
  let p := p.val
  match s.dlFirst p fun r => r.k == kTrigger with
  | none => .next s
  | some r => .next ((s.advance r.at_).dlSend p r)

/-- EV_CMD_DROP (R128): a TRIGGER or SYNC that cannot start within 4,095 Tc of its request is not sent. -/
def execEvCmdDrop (p : Port) (s : State) : Out :=
  let p := p.val
  match s.dlFirst p fun r => decide (dlLimit < s.dlStart p r.at_ - r.at_) with
  | none => .next s
  | some r =>
    let s := s.advance (r.at_ + dlLimit)
    let s := s.setPort p { s.port p with dlReq := (s.port p).dlReq.erase r }
    .next ((s.count (EV_TRG_DROP.N p)).flag (EV_EVT.TRG_DROP p))

/-! ## Admission and retirement (R145 to R147) -/

/-- EV_ADMIT_TIMEOUT (R145): not LINKED within 100 ms of the check. -/
def execEvAdmitTimeout (p : Port) (s : State) : Out :=
  let p := p.val
  if !s.on (EV_STAT.ADMIT_PEND p) || s.evUp p then .next s
  else
    let s := s.advance ((s.port p).admitAt + usTf 100000)
    let s := (s.wr (EV_STAT.ADMIT_PEND p) 0).wr (EV_CTRL.EN p) 0
    .next (s.refuse 1 p 0x44 (s.evState p))

/-- The check of an admission has passed: the port waits for a boundary at which it is LINKED (R145). -/
def State.portPassed (s : State) (p : Nat) : State :=
  (((s.wr (EV_CTRL.EN p) 1).flag (EV_STAT.ADMIT_PEND p)).setPort p
    { s.port p with admitAt := s.now, poweredDown := false }).evWake p

/-- The port enters service at a boundary: RESUME unless R141 holds it, and a course flagged as a start
(R137, R145). -/
def State.portEnter (s : State) (p : Nat) : State :=
  let s := (s.wr (EV_STAT.ADMIT_PEND p) 0).setEvState p evActive
  let s := s.freshSeq p
  let s := s.setPort p { s.port p with returning := false, inFrom := some s.time.courseAt, outFrom := none, closed := none }
  if s.holdWanted p then s else if s.on (EV_STAT.HOLDING p) then s.holdEnd p else s

/-- A port is retired at a boundary (R146, R147): under HOLD, its last course flagged; during a retrain one
record is written for the course that ends there, final and partial. -/
def State.portRetire (s : State) (p : Nat) : State :=
  let x := s.port p
  let last := s.keyAt (s.time.courseAt - 1)
  let k := (keyEpoch last, keyCourse last)
  if s.evState p = evActive then
    let s := s.setPort p { x with
      outFrom := some s.time.courseAt
      courses := x.courses.map fun c => if (c.epoch, c.course) = k then { c with final := true } else c }
    let s := s.setEvState p evLinked
    if s.on (EV_STAT.HOLDING p) then s.dlHold p true else s.holdStart p
  else if x.returning then
    let here := x.courses.any fun c => (c.epoch, c.course) == k
    let c : PortCourse := { course := k.2, epoch := k.1, dCourse := s.keyStart last, opened := true }
    let cs := if here then x.courses else x.courses ++ [c]
    let s := s.setPort p { x with
      returning := false, outFrom := some s.time.courseAt
      courses := cs.map fun c => if (c.epoch, c.course) = k then { c with final := true, part := true } else c }
    (s.closeUpTo p k).settlePort p
  else s

/-- A course boundary at a port (R124, R128, R137, R145): service begins where it is due, the course opens,
and the COURSE command goes out. -/
def State.portBoundary (s : State) (p : Nat) (brk : List Word) : State :=
  let due := s.evState p == evLinked && (s.on (EV_STAT.ADMIT_PEND p) || (s.port p).returning)
  let s := if due then s.portEnter p else s
  let s := if s.evState p = evActive then (s.openPort p s.keyNow due brk).holdPort p else s
  if s.evUp p then s.dlCourse p s.course else s

/-- A write of EV_CTRL (R134, R145 to R147): a pending admission is cancelled by `EN` = 0, FAULT ends on any
write of `EN`, and a pattern test ends on `EN` = 1. -/
def writeEvCtrl (p data : Nat) (s : State) : Status × State :=
  let en := bitAt data 0
  let s := if s.evState p = evFault then s.setEvState p evClocking
    else if s.evState p = evPattern ∧ en then s.setEvState p evAlign else s
  if !en && s.on (EV_STAT.ADMIT_PEND p) then
    let (_, s) := s.codeWrite (Addr.EV_CTRL p) data
    (.done, ((s.wr (EV_STAT.ADMIT_PEND p) 0).wr (EV_CTRL.EN p) 0).evWake p)
  else
    let (st, s) := s.reqEnable 1 p (EV_CTRL.EN p) data fun s => s.codeWrite (Addr.EV_CTRL p) data
    (st, s.evWake p)

/-- EV_EN_WRITE (R145, R146). -/
def execEvEnWrite (path : Path) (p : Port) (data : U32) (s : State) : Out :=
  s.writeRow path (Addr.EV_CTRL p.val) (writeEvCtrl p.val data.toNat)

/-- A write of an equalisation register (R139). -/
def writeEvEq (p addr data : Nat) (s : State) : Status × State :=
  if s.on (EV_CTRL.EN p) then (.ignored, s)
  else
    let (st, s) := s.codeWrite addr data
    (st, if s.evState p = evLinked ∨ s.evState p = evPattern then s.setEvState p evAlign else s)

/-- EV_EQ_WRITE (R139). -/
def execEvEqWrite (path : Path) (p : Port) (hi : Bool) (data : U32) (s : State) : Out :=
  let a := if hi then Addr.EV_EQ_HI p.val else Addr.EV_EQ_LO p.val
  s.writeRow path a (writeEvEq p.val a data.toNat)

/-! ## Pattern test (R148, R150) -/

/-- A write of EV_PAT_CTRL (R148): ignored with an `INJ_LOG2` outside 0 and 10 to 31, and when it starts a
test on an enabled or DARK port. -/
def writePatCtrl (p data : Nat) (s : State) : Status × State :=
  let log := bits data 8 5
  let start := bitAt data 0
  if (log ≠ 0 ∧ log < 10) ∨ (start ∧ (s.on (EV_CTRL.EN p) ∨ s.evState p = evDark)) then (.ignored, s)
  else
    let (st, s) := s.codeWrite (Addr.EV_PAT_CTRL p) data
    let s := if bitAt data 1 && s.evState p == evPattern then s.setEvState p evAlign else s
    let s := if start then (s.setEvState p evPattern).wr (EV_PAT_STAT.SYNC p) 0 else s
    let s := if bitAt data 2 && s.evState p == evPattern then
        s.setPort p { s.port p with patInject := (s.port p).patInject + 1 } else s
    (st, s)

/-- EV_PAT_START (R148). (log 41: DESIGN CHOICE) -/
def execEvPatStart (path : Path) (p : Port) (data : U32) (s : State) : Out :=
  s.writeRow path (Addr.EV_PAT_CTRL p.val) (writePatCtrl p.val data.toNat)

/-- EV_PAT_STOP (R134, R148). -/
def execEvPatStop (path : Path) (p : Port) (data : U32) (s : State) : Out :=
  s.writeRow path (Addr.EV_PAT_CTRL p.val) (writePatCtrl p.val data.toNat)

/-- EV_PAT_INJ_ONE (R148). -/
def execEvPatInjOne (path : Path) (p : Port) (data : U32) (s : State) : Out :=
  s.writeRow path (Addr.EV_PAT_CTRL p.val) (writePatCtrl p.val data.toNat)

/-- A read of EV_PAT_BITS (R150, R514): the low 32 bits; unless it is a peek the upper 16 are latched and the
count clears. (log 41: DESIGN CHOICE) -/
def readPatBits (path : Path) (consume : Bool) (p : Nat) (s : State) : Nat × State :=
  let n := (s.port p).patBits
  if !consume then (n % 2 ^ 32, s)
  else
    let s := s.setLatch path (Addr.EV_PAT_BITS_HI p) (BitVec.ofNat 32 (n / 2 ^ 32 % 2 ^ 16))
    (n % 2 ^ 32, s.setPort p { s.port p with patBits := 0 })

/-- EV_PAT_BITS_READ (R150). -/
def execEvPatBitsRead (path : Path) (consume : Bool) (p : Port) (s : State) : Out :=
  if !s.pins.answered then .next s else .next (readPatBits path consume p.val s).2

/-! ## Resets (R46 to R48, R147) -/

/-- Frames waiting in a port's receive FIFO are discarded and counted (R147). -/
def State.dropRx (s : State) (p : Nat) : State :=
  let x := s.port p
  (s.count (EV_LOST_OOS.N p) x.rx.length).setPort p { x with rx := [], offered := false }

/-- A unit reset of a port (R46 to R48, R147, R207). -/
def State.resetPort (s : State) (p : Nat) : State :=
  let was := s.evState p == evActive || (s.port p).returning
  let s := ((s.loseRelays p).dropRx p).freshSeq p
  let s := if s.evState p = evActive then s.partPort p else s
  let s := if s.evState p = evDark then s else s.setEvState p evClocking
  let x := s.port p
  let s := s.setPort p { x with returning := was, warmed := false, inFrom := none, goodTrain := 0, alignFails := 0, dlReq := [] }
  let s := s.setWriter p { s.writer p with seq := 0 }
  if s.on (EV_STAT.ADMIT_PEND p) then (s.wr (EV_STAT.ADMIT_PEND p) 0).wr (EV_CTRL.EN p) 0 else s

/-- A warm reset at a port (R48, R50, R131, R147): the link is kept under HOLD, and open courses are lost. -/
def State.warmPort (s : State) (p : Nat) : State :=
  let s := ((s.loseRelays p).dropRx p).freshSeq p
  let was := s.evState p == evActive
  let s := if was then s.setEvState p evLinked else s
  let s := if s.evUp p then (if s.on (EV_STAT.HOLDING p) then s.dlHold p true else s.holdStart p) else s
  let x := s.port p
  s.setPort p { x with
    courses := [], closed := none, inFrom := none, outFrom := none, returning := x.returning || was
    dlReq := [], warmed := x.returning || was }

end Sys2Proof.Machine
end

