-- ==== Sys2Proof/Machine/Ridge.lean ====
section
/-! DEFINITION. Ridge lanes and lane groups: frames, acknowledgement, lane states, failover and parking
(R353 to R367, R389 to R392). -/

namespace Sys2Proof.Machine

/-! ## Lanes (R360, R364) -/

/-- DOWN (R364). -/
def rgDown : Nat := 0
/-- TRAIN (R364). -/
def rgTrain : Nat := 1
/-- READY (R364). -/
def rgReady : Nat := 2
/-- ACTIVE (R364). -/
def rgActive : Nat := 3
/-- SPARE (R364). -/
def rgSpare : Nat := 4
/-- PARKED (R364). -/
def rgParked : Nat := 5
/-- FAILED (R364). -/
def rgFailed : Nat := 6

/-- The state of a lane (R364). -/
def State.laneState (s : State) (l : Nat) : Nat := s.rd (RG_LANE_STAT.STATE l)

/-- The lanes that a mask of group `g` names, ascending (R392). -/
def groupLanes (g mask : Nat) : List Nat :=
  ((List.range 16).filter fun i => bitAt mask i).map fun i => 16 * (g / 8) + i

/-- The lanes that `LANES` names (R360). -/
def State.namedLanes (s : State) (g : Nat) : List Nat := groupLanes g (s.rd (RG_GRP_CTRL.LANES g))

/-- The spares of a group (R360). -/
def State.spareLanes (s : State) (g : Nat) : List Nat := groupLanes g (s.rd (RG_GRP_SPARE.MASK g))

/-- Every lane of a group, ascending. -/
def State.allLanes (s : State) (g : Nat) : List Nat :=
  groupLanes g (Nat.lor (s.rd (RG_GRP_CTRL.LANES g)) (s.rd (RG_GRP_SPARE.MASK g)))

/-- The lanes of a group in a state, ascending. -/
def State.lanesIn (s : State) (g st : Nat) : List Nat := (s.allLanes g).filter fun l => s.laneState l == st

/-- RG_GRP_STAT shows the active lanes (R392). -/
def State.syncGroup (s : State) (g : Nat) : State :=
  s.wr (RG_GRP_STAT.ACTIVE g) ((s.lanesIn g rgActive).foldl (fun m l => m + 2 ^ (l % 16)) 0)

/-- A lane enters a state (R364, R391). -/
def State.setLaneState (s : State) (l st : Nat) : State :=
  let s := s.wr (RG_LANE_STAT.STATE l) st
  match s.laneGroup l with
  | some g => (s.wr (RG_LANE_STAT.GROUP l) g).syncGroup g
  | none => s.wr (RG_LANE_STAT.GROUP l) 0

/-- Of some lanes, the one that becomes free first, the lower number between equals (R361). (log 91: DEDUCED) -/
def State.firstFree (s : State) (ls : List Nat) : Option Nat :=
  ls.foldl (fun (b : Option Nat) l => match b with
    | none => some l
    | some k => if max s.now (s.lane l).freeAt < max s.now (s.lane k).freeAt then some l else some k) none

/-! ## Frames (R355, R357 to R359) -/

/-- Time of `n` blocks on a lane of a generation, in Tf (R353). -/
def blocksTf (gen n : Nat) : Nat :=
  ceilDiv (n * (if gen = 0 then 167772160 else if gen = 1 then 67108864 else 33554432)) 10000

/-- Blocks of a frame: START, two for each payload word, TERM, and the fillers inside it (R355, R357). -/
def frameBlocks (words fill : Nat) : Nat := 2 * words + 2 + (2 * words + 2) / (fill - 1)

/-- The header of a Ridge frame (R358). -/
def ridgeHeader (kind : Nat) (first last resent : Bool) (g gseq words lane : Nat) : BitVec 64 :=
  (mkWord [(0, 8, 0x78), (8, 4, kind), (12, 1, b2n first), (13, 1, b2n last), (14, 1, b2n resent), (16, 4, g),
    (20, 24, gseq), (44, 10, words), (54, 5, lane)]).setWidth 64

/-- A frame goes out on a lane (R358, R361, R391). -/
def State.sendFrame (s : State) (l g : Nat) (hdr : BitVec 64) (ws : List Word) : State :=
  let x := s.lane l
  let n := blocksTf (s.rd (RG_LANE_CTRL.GEN l)) (frameBlocks ws.length (s.eff (RG_GRP_CFG.FILL g)))
  (s.setLane l { x with out := some (hdr, ws), freeAt := max s.now x.freeAt + n }).count (RG_FRAMES_TX.N l)

/-- Payload bytes counted in KiB for a group (R392). -/
def State.countKib (s : State) (g bytes : Nat) : State :=
  let x := s.group g
  (s.setGroup g { x with kibRem := (x.kibRem + bytes) % 1024 }).count (RG_GRP_KIB.N g) ((x.kibRem + bytes) / 1024)

/-- A record as sent: poison set in its header, and a container's header and word 1 giving the words sent
(R225, R226, R342, R359). -/
def State.ridgeRec (s : State) (d : Desc) : List Word :=
  match s.deliverRec d with
  | ([], _) => []
  | (h :: ws, p) =>
    let h := if p then BitVec.ofNat 128 (setBits h.toNat 88 1 1) else h
    if wfield h 0 4 = 10 ∧ wfield h 92 1 = 1 then
      let n := ws.length + 1
      let h := BitVec.ofNat 128 (setBits (setBits h.toNat 72 16 n) 92 1 0)
      match ws with
      | w1 :: rest => h :: BitVec.ofNat 128 (setBits w1.toNat 64 16 n) :: rest
      | [] => [h]
    else h :: ws

/-- A record cut into frames of at most `frag` words (R359). (log 90: DEDUCED) -/
def cutFrames (frag : Nat) (ws : List Word) : List (Bool × Bool × List Word) :=
  let n := ceilDiv ws.length frag
  (List.range n).map fun i => (i == 0, i + 1 == n, (ws.drop (i * frag)).take frag)

/-- Whether a group forwards its records over the tree (R382). -/
def State.forwards (s : State) (g : Nat) : Bool := s.on (RG_GRP_CTRL.FWD g)

/-- One RECORD frame is sent, on a lane or as a data frame over the tree (R358, R363, R382). -/
def State.sendRecordFrame (s : State) (g l : Nat) (f : TxFrame) : State :=
  let s := s.countKib g (16 * f.words.length)
  if s.forwards g then
    let node := s.eff (RG_GRP_FWD.NODE g)
    let w0 := mkWord [(0, 24, f.gseq), (24, 4, g)]
    let hdr : HipHdr := ⟨f.first, f.last, BitVec.ofNat 16 node, BitVec.ofNat 16 (s.rd NODE_ID.ID)⟩
    match s.routeTo node with
    | some k => s.hipFrame k { kind := 0, hdr := hdr, words := w0 :: f.words }
    | none => s
  else
    let s := s.sendFrame l g (ridgeHeader 0 f.first f.last f.resent g f.gseq f.words.length l) f.words
    if f.resent then s.count (RG_RESENT.N l) else s

/-- The frames due are sent: one sent before again at once, a new one while fewer than `win` frames before it are
unacknowledged (R362, R363). `i` is the place of the first frame in the group's list. -/
def State.sendDue (s : State) (g l win : Nat) : Nat → List TxFrame → List TxFrame × State
  | _, [] => ([], s)
  | i, f :: fs =>
    let go := f.due && (f.resent || decide (i < win))
    let at_ := if s.laneState f.lane = rgActive ∧ !f.resent then f.lane else l
    let (f, s) :=
      if go then ({ f with due := false, lane := at_, sentAt := s.now }, s.sendRecordFrame g at_ f) else (f, s)
    let (fs, s) := State.sendDue s g l win (i + 1) fs
    (f :: fs, s)

/-- A lane whose frames have all been sent parks (R364, R367): its unacknowledged frames are to be sent again
elsewhere (R363). -/
def State.parkLanes (s : State) (g : Nat) : State :=
  s.each ((s.allLanes g).filter fun l => (s.lane l).parking) fun s l =>
    if (s.group g).frames.any fun f => f.lane == l && f.due && !f.resent then s
    else
      let s := (s.setLane l { s.lane l with parking := false }).setLaneState l rgParked
      let s := (s.wr (RG_LANE_STAT.RX_LOCK l) 0).wr (RG_LANE_STAT.BE_LOCK l) 0
      let x := s.group g
      let mark := fun (f : TxFrame) => if f.lane = l then { f with resent := true, due := true } else f
      s.setGroup g { x with frames := x.frames.map mark }

/-- The lanes on which a group may send RECORD frames (R361, R367). -/
def State.recordLanes (s : State) (g : Nat) : List Nat :=
  (s.lanesIn g rgActive).filter fun l => !(s.lane l).parking

/-- Whether a group can send a RECORD frame: it has an active lane, or forwards (R366, R382). -/
def State.canSend (s : State) (g : Nat) : Bool :=
  s.forwards g || !(s.lanesIn g rgActive).isEmpty

/-- A group sends the frames that are due (R362, R363). (log 89: DEDUCED) -/
def State.pump (s : State) (g : Nat) : State :=
  let send := fun (s : State) =>
    if !s.canSend g then s
    else
      let l := (s.firstFree (s.recordLanes g)).getD ((s.lanesIn g rgActive).headD 0)
      let (fs, s) := s.sendDue g l (s.eff (RG_GRP_WIN.WINDOW g)) 0 (s.group g).frames
      s.setGroup g { s.group g with frames := fs }
  let s := (send s).parkLanes g
  if (s.group g).frames.any fun f => f.due && f.resent then send s else s

/-- The frames of a lane group that satisfy `p` and have been sent are to be sent again (R363). (log 89: DEDUCED) -/
def State.resend (s : State) (g : Nat) (p : TxFrame → Bool) : State :=
  let x := s.group g
  let mark := fun (f : TxFrame) => if p f && (!f.due || f.resent) then { f with resent := true, due := true } else f
  (s.setGroup g { x with frames := x.frames.map mark }).pump g

/-! ## Records and responses (R361, R362) -/

/-- The frames of a record join the group's list, with the next sequence numbers (R358, R359). -/
def State.addFrames (s : State) (g l : Nat) (fs : List (Bool × Bool × List Word))
    (from_ : Nat → Option (Nat × Nat × Nat)) : State :=
  let n := s.rd (RG_GRP_SEQ.NEXT g)
  let new := fs.mapIdx fun i (f : Bool × Bool × List Word) =>
    ({ gseq := (n + i) % 2 ^ 24, first := f.1, last := f.2.1, words := f.2.2, lane := l, sentAt := s.now,
       due := true, from_ := from_ i } : TxFrame)
  let x := s.group g
  (s.setGroup g { x with frames := x.frames ++ new }).wr (RG_GRP_SEQ.NEXT g) ((n + fs.length) % 2 ^ 24)

/-- The forwarded frames up to the first that ends a record, and those after it. (log 90: DEDUCED) -/
def firstRecord : List TxFrame → List TxFrame × List TxFrame
  | [] => ([], [])
  | f :: fs => if f.last then ([f], fs) else let (a, b) := firstRecord fs; (f :: a, b)

/-- The frames waiting in a group before its last whole record ends, and those after (R359, R382). -/
def wholeRecords (fs : List TxFrame) : List TxFrame × List TxFrame :=
  let part := (fs.reverse.takeWhile fun f => !f.last).reverse
  (fs.take (fs.length - part.length), part)

/-- A forwarded frame joins those waiting: the records that are whole stand first, each contiguous, and a first frame
begins its origin's record anew (R359, R382). (log 90: DEDUCED) -/
def addForwarded (f : TxFrame) (fs : List TxFrame) : List TxFrame :=
  let origin := fun (x : TxFrame) => x.from_.map fun o => (o.1, o.2.1)
  let (whole, part) := wholeRecords fs
  let mine := (if f.first then [] else part.filter fun x => origin x == origin f) ++ [f]
  let others := part.filter fun x => origin x != origin f
  if f.last then whole ++ mine ++ others else whole ++ others ++ mine

/-- Words to a frame: `FRAG`, and one word less for a forwarding group's longest, whose word 0 is the frame's own
(R359, R381). (log 90: DEDUCED) -/
def State.fragOf (s : State) (g : Nat) : Nat :=
  let n := s.eff (RG_GRP_CFG.FRAG g)
  if s.forwards g then min n 511 else n

/-- The ready tasks of the queues that a group serves (R258, R361). -/
def State.groupReady (s : State) (g : Nat) : List ReadyItem :=
  (s.purlin (g / 8)).ready.filter fun r =>
    s.eff (PQ_CFG.SINK r.queue) == 2 && s.eff (PQ_CFG.TARGET r.queue) == g

/-- A ready task's records are assigned to lane `l`, and the task is kept until they are covered (R361, R362). -/
def State.takeRecord (s : State) (g l : Nat) (r : ReadyItem) : State :=
  let h := g / 8
  let w := tfPurlinCycles (s.now - r.readyAt)
  match s.takeItem h r false with
  | (none, s) => s
  | (some t, s) =>
    let s := s.trace h 1 t.desc.queue g t.desc.prio t.desc.cls t.desc.course w
    let s := s.each t.descs fun s d =>
      s.addFrames g l (cutFrames (s.fragOf g) (s.ridgeRec d)) fun _ => none
    let x := s.group g
    let last := (s.rd (RG_GRP_SEQ.NEXT g) + 2 ^ 24 - 1) % 2 ^ 24
    ((s.setGroup g { x with tasks := x.tasks ++ [⟨t, last⟩] }).pump g).settle.holdAll

/-- The next waiting response goes out on the first free lane in READY, ACTIVE or SPARE, and its transaction ends
(R361, R373). (log 89: DEDUCED) -/
def State.sendResponse (s : State) (g : Nat) : State :=
  let x := s.group g
  let ls := (s.allLanes g).filter fun l =>
    s.laneState l == rgReady || s.laneState l == rgActive || s.laneState l == rgSpare
  match x.responses, s.firstFree ls with
  | (w, ends) :: rest, some l =>
    let s := s.advance (s.lane l).freeAt
    let s := s.setGroup g { x with responses := rest }
    let s := s.sendFrame l g (ridgeHeader 1 false false false g 0 1 l) [w]
    if ends then s.endTrans g (wfield w 0 16) else s
  | _, _ => s

/-- RESPONSE_SEND (R361). -/
def execResponseSend (g : LaneGroup) (s : State) : Out := .next (s.sendResponse g)

/-- RECORD_SEND (R361, R362): a free lane sends the waiting responses first, then one record, whole: one forwarded
to the group, or the task that the Purlin offers first. (log 89: DEDUCED) -/
def execRecordSend (g : LaneGroup) (s : State) : Out :=
  let g := g.val
  let s := if s.forwards g then s
    else s.each (List.range (s.group g).responses.length) fun s _ => s.sendResponse g
  let x := s.group g
  if !x.admitted || decide (s.eff (RG_GRP_WIN.WINDOW g) ≤ x.frames.length) then .next s
  else
    let lane := if s.forwards g then some 0 else s.firstFree (s.recordLanes g)
    match lane with
    | none => .next s
    | some l =>
      let s := if s.forwards g then s else s.advance (s.lane l).freeAt
      if x.fwd.any fun f => f.last then
        let (fs, rest) := firstRecord x.fwd
        let s := s.setGroup g { x with fwd := rest }
        let s := s.addFrames g l (fs.map fun f => (f.first, f.last, f.words))
          fun i => (fs[i]?).bind fun f => f.from_
        .next (s.pump g)
      else
        let rs := s.groupReady g
        match (List.range 8).reverse.findSome? fun p => rs.find? fun r => r.prio == p with
        | none => .next s
        | some r => .next (s.takeRecord g l r)

/-! ## Acknowledgement (R362, R363) -/

/-- An acknowledgement covers every frame up to `gseq`: the records fully covered complete, and a frame that was
forwarded here is acknowledged to its origin (R362, R382). (log 90: DEDUCED) -/
def State.cover (s : State) (g gseq : Nat) : State :=
  let x := s.group g
  match x.frames.findIdx? fun f => f.gseq == gseq && (!f.due || f.resent) with
  | none => s
  | some i =>
    let gone := x.frames.take (i + 1)
    let fin := x.tasks.filter fun t => gone.any fun f => f.gseq == t.lastSeq
    let s := s.setGroup g { x with
      frames := x.frames.drop (i + 1)
      tasks := x.tasks.filter fun t => !(gone.any fun f => f.gseq == t.lastSeq) }
    let s := s.wr (RG_GRP_ACKED.SEQ g) gseq
    let s := s.count (RG_GRP_RECORDS.N g) (gone.filter fun f => f.last).length
    let s := s.each fin fun s t => (s.releaseTask t.task).taskDone t.task g
    let s := s.loftDone (fin.flatMap fun t => t.task.descs)
    let s := s.each (gone.filter fun f => f.last) fun s f => match f.from_ with
      | some (node, og, fseq) => (s.hipSend 5 node [mkWord [(0, 24, fseq), (24, 4, og)]]).getD s
      | none => s
    (s.pump g).settle.holdAll

/-- A back-end frame for group `g` on a lane: received on a receive pair of the group (R362). -/
def State.beFrame (s : State) (lane g : Nat) (act : State → State) : State :=
  if !s.rxDecodes lane then s
  else
    let s := s.rxFrameOn lane
    if s.laneGroup lane = some g then act s else s

/-- ACK_FRAME (R362). (log 90: DEDUCED) -/
def execAckFrame (lane : Lane) (g : LaneGroup) (gseq : BitVec 24) (s : State) : Out :=
  .next (s.beFrame lane g fun s => s.cover g gseq.toNat)

/-- Whether a sequence number lies in a range, modulo 2^24. -/
def seqIn (first last n : Nat) : Bool :=
  decide ((n + 2 ^ 24 - first) % 2 ^ 24 ≤ (last + 2 ^ 24 - first) % 2 ^ 24)

/-- RESEND_FRAME (R363): the frames named that are not acknowledged are sent again. -/
def execResendFrame (lane : Lane) (g : LaneGroup) (first last : BitVec 24) (s : State) : Out :=
  .next (s.beFrame lane g fun s => s.resend g fun f => seqIn first.toNat last.toNat f.gseq)

/-- ACK_TIMEOUT (R363): every unacknowledged frame of the group is sent again. -/
def execAckTimeout (g : LaneGroup) (s : State) : Out :=
  let g := g.val
  match (s.group g).frames with
  | [] => .next s
  | f :: _ =>
    if f.due then .next s
    else
      let s := s.advance (f.sentAt + usTf (s.eff (RG_GRP_WIN.ACK_TMO g)))
      let s := s.event (g / 8) (RG_GRP_EVT.ACK_TMO g) (unitId 7 g)
      .next (s.resend g fun _ => true)

/-! ## STATUS frames (R358) -/

/-- BE_STATUS_FRAME (R358, R391): each lane's BE_LOCK is the last report of it. (log 23: DESIGN CHOICE; 88: DEDUCED) -/
def execBeStatusFrame (lane : Lane) (locked : U32) (s : State) : Out :=
  if !s.rxDecodes lane then .next s
  else
    let s := s.rxFrameOn lane
    .next (s.each (List.range 32) fun s l => s.wr (RG_LANE_STAT.BE_LOCK l) (b2n (bitAt locked.toNat l)))

/-- STATUS_SEND (R358): a transmitting lane sends a STATUS frame every 100 µs. (log 89: DEDUCED) -/
def execStatusSend (lane : Lane) (s : State) : Out :=
  let l := lane.val
  if s.laneState l = rgDown ∨ s.laneState l = rgParked then .next s
  else
    let s := s.advance ((s.lane l).statusAt + usTf 100)
    let locked := (List.range 32).foldl (fun m k => m + s.rd (RG_LANE_STAT.RX_LOCK k) * 2 ^ k) 0
    let g := (s.laneGroup l).getD 0
    let s := s.sendFrame l g (ridgeHeader 2 false false false g 0 1 l) [mkWord [(0, 32, locked)]]
    .next (s.setLane l { s.lane l with statusAt := s.now })

/-- RG_BAD_RX (R357): a discarded frame is counted, on a receive pair that decodes frames. -/
def execRgBadRx (lane : Lane) (s : State) : Out :=
  .next (if s.rxDecodes lane then (s.flag (RG_LANE_STAT.RX_LOCK lane)).count (RG_BAD_RX.N lane) else s)

/-- RX_LOCK_LOSS (R357): the receive pair of a lane that is not ACTIVE loses lock. -/
def execRxLockLoss (lane : Lane) (s : State) : Out :=
  .next (if s.laneState lane = rgActive then s else s.wr (RG_LANE_STAT.RX_LOCK lane) 0)

/-! ## Lane states (R364 to R367) -/

/-- A lane begins to train (R364); what it knows of its receive lock and the back-end's reports stays.
(log 88: DEDUCED) -/
def State.trainLane (s : State) (l : Nat) : State :=
  (s.setLane l { s.lane l with trainAt := s.now, parking := false }).setLaneState l rgTrain

/-- The unacknowledged frames of a lane are sent again on the group's other active lanes (R363, R366). -/
def State.resendLane (s : State) (l : Nat) : State :=
  match s.laneGroup l with
  | some g => s.resend g fun f => f.lane == l
  | none => s

/-- A lane follows its enable bit (R364): TRAIN from DOWN while enabled with the PLL locked, DOWN when disabled. -/
def State.laneWake (s : State) (l : Nat) : State :=
  if s.on (RG_LANE_CTRL.EN l) then
    if s.laneState l = rgDown ∧ s.time.runs then s.trainLane l else s
  else if s.laneState l = rgDown then s
  else
    let s := (s.setLane l { s.lane l with trainFails := 0, takeOver := false, parking := false }).setLaneState l rgDown
    ((s.wr (RG_LANE_STAT.RX_LOCK l) 0).wr (RG_LANE_STAT.BE_LOCK l) 0).resendLane l

/-- LANE_READY (R364): a training lane holds receive lock and was reported locked. -/
def execLaneReady (lane : Lane) (s : State) : Out :=
  let l := lane.val
  if s.laneState l ≠ rgTrain ∨ !s.on (RG_LANE_STAT.BE_LOCK l) then .next s
  else
    let s := (s.flag (RG_LANE_STAT.RX_LOCK l)).setLane l { s.lane l with trainFails := 0 }
    .next ((s.setLaneState l rgReady).retrainReached 6 l (halfOf 32 l) (Addr.RG_LANE_STAT l) rgReady true)

/-- LANE_TRAIN_TIMEOUT (R364): 10 ms without READY; the eighth failure in a row ends in FAILED. (log 91: DEDUCED) -/
def execLaneTrainTimeout (lane : Lane) (s : State) : Out :=
  let l := lane.val
  if s.laneState l ≠ rgTrain then .next s
  else
    let s := s.advance ((s.lane l).trainAt + usTf 10000)
    let n := (s.lane l).trainFails + 1
    if n < 8 then .next (s.setLane l { s.lane l with trainFails := n, trainAt := s.now })
    else
      let s := s.setLane l { s.lane l with trainFails := 0 }
      let s := (s.setLaneState l rgFailed).flag (RG_LANE_EVT.TRAIN_FAIL l)
      .next (s.retrainReached 6 l (halfOf 32 l) (Addr.RG_LANE_STAT l) rgFailed false)

/-- Whether the pitch in force is FLAT (R42, R367). -/
def State.isFlat (s : State) : Bool := s.rd PROF_STAT.PITCH == 3

/-- A failed lane of a group waits for its replacement: a parked spare, or in FLAT a parked active lane, is woken
when no spare stands ready (R366, R367). (log 91: DEDUCED) -/
def State.wakeSpare (s : State) (g : Nat) : State :=
  let x := s.group g
  let s := s.setGroup g { x with replace := x.replace + 1 }
  let ready := (s.lanesIn g rgSpare).length
  let coming := ((s.allLanes g).filter fun l => (s.lane l).takeOver).length
  let s :=
    if x.replace + 1 ≤ ready + coming then s
    else
      let parked := fun (ls : List Nat) => ls.find? fun l => s.laneState l == rgParked
      match parked (s.spareLanes g) <|> (if s.isFlat then parked (s.namedLanes g) else none) with
      | some l => (s.setLane l { s.lane l with takeOver := true }).trainLane l
      | none => s
  let s := if ready ≤ x.replace then s.flag (RG_GRP_EVT.SPARE_OUT g) else s
  if (s.lanesIn g rgActive).isEmpty then s.flag (RG_GRP_EVT.NO_LANE g) else s

/-- An ACTIVE lane fails (R365, R366). (log 91: DEDUCED) -/
def State.failLane (s : State) (l : Nat) : State :=
  let s := s.setLaneState l rgFailed
  let s := s.event (halfOf 32 l) (RG_LANE_EVT.FAIL l) (unitId 6 l)
  let s := (s.tally (0x400 + l)).ledgerEvent 0x0D [l]
  let s := match s.laneGroup l with
    | some g => s.wakeSpare g
    | none => s
  (s.resendLane l).retrainReached 6 l (halfOf 32 l) (Addr.RG_LANE_STAT l) rgFailed false

/-- LANE_FAIL (R365). -/
def execLaneFail (lane : Lane) (lockLost : Bool) (s : State) : Out :=
  let l := lane.val
  if s.laneState l ≠ rgActive then .next s
  else .next ((if lockLost then s.wr (RG_LANE_STAT.RX_LOCK l) 0 else s).failLane l)

/-- LANE_SPARE (R365, R464): the directive fails the lane it names. (log 92: DEDUCED) -/
def State.dirLaneSpare (s : State) (d : Dir) : State :=
  s.dirCheck d (decide (d.data < 32)) fun s =>
    if s.laneState d.data ≠ rgActive then s.dirWrong d (Addr.RG_LANE_STAT d.data)
    else (s.failLane d.data).dirDone d 0

/-- LANE_SPARE (R365). -/
def execLaneSpare (r : DirReq) (s : State) : Out :=
  .next (s.directive 0x06 r noArgs fun d s => s.dirLaneSpare d)

/-- LANE_RETURN (R364, R464): a FAILED lane returns to TRAIN. (log 92: DEDUCED) -/
def State.dirLaneReturn (s : State) (d : Dir) : State :=
  s.dirCheck d (decide (d.data < 32)) fun s =>
    if s.laneState d.data ≠ rgFailed then s.dirWrong d (Addr.RG_LANE_STAT d.data)
    else (s.trainLane d.data).dirDone d 0

/-- LANE_RETURN (R364). -/
def execLaneReturn (r : DirReq) (s : State) : Out :=
  .next (s.directive 0x07 r noArgs fun d s => s.dirLaneReturn d)

/-- A unit reset of a lane (R389): it returns to TRAIN, and its frames are sent again. -/
def State.resetLane (s : State) (l : Nat) : State :=
  if s.laneState l = rgDown ∨ s.laneState l = rgParked then s
  else
    let s := (s.setLane l { s.lane l with trainFails := 0, takeOver := false }).trainLane l
    (s.wr (RG_LANE_STAT.RX_LOCK l) 0).resendLane l

/-! ## Course boundaries (R364, R366, R367) -/

/-- A spare takes over from a failed lane (R366). -/
def State.takeOver (s : State) (g l : Nat) : State :=
  let s := (s.setLane l { s.lane l with takeOver := false }).setLaneState l rgActive
  let x := s.group g
  (s.setGroup g { x with replace := x.replace - 1 }).flag (RG_GRP_EVT.FAILOVER g)

/-- What a course boundary does to the lanes of a group (R364, R366, R367): spares take over, READY lanes join, and in
FLAT the rest park; a lane that no longer parks trains. -/
def State.laneBoundary (s : State) (g : Nat) : State :=
  let woken := (s.allLanes g).filter fun l => (s.lane l).takeOver && s.laneState l == rgReady
  let s := s.each woken fun s l => s.takeOver g l
  let spares := (s.lanesIn g rgSpare).take (s.group g).replace
  let s := s.each spares fun s l => s.takeOver g l
  let named := s.namedLanes g
  let s := s.each (s.lanesIn g rgReady) fun s l =>
    if named.contains l then
      if (s.lanesIn g rgActive).length < named.length then
        let x := s.group g
        (s.setLaneState l rgActive).setGroup g { x with replace := x.replace - 1 }
      else s
    else s.setLaneState l rgSpare
  let s :=
    if s.isFlat then
      let extra := s.lanesIn g rgSpare ++ (s.lanesIn g rgActive).drop (s.eff (RG_GRP_CFG.MIN g))
      s.each extra fun s l => s.setLane l { s.lane l with parking := true }
    else s.each (s.lanesIn g rgParked) fun s l => s.trainLane l
  s.pump g

/-! ## Enable writes (R360, R364) -/

/-- A write of RG_LANE_CTRL (R364, R391). -/
def writeLaneCtrl (l data : Nat) (s : State) : Status × State :=
  s.reqEnable 6 l (RG_LANE_CTRL.EN l) data fun s => s.codeWrite (Addr.RG_LANE_CTRL l) data

/-- RG_LANE_EN_WRITE (R364). -/
def execRgLaneEnWrite (path : Path) (lane : Lane) (data : U32) (s : State) : Out :=
  s.writeRow path (Addr.RG_LANE_CTRL lane.val) (writeLaneCtrl lane.val data.toNat)

/-- A write of RG_GRP_CTRL (R360, R392). -/
def writeGrpCtrl (g data : Nat) (s : State) : Status × State :=
  s.reqEnable 7 g (RG_GRP_CTRL.EN g) data fun s => s.codeWrite (Addr.RG_GRP_CTRL g) data

/-- RG_GRP_EN_WRITE (R360). -/
def execRgGrpEnWrite (path : Path) (g : LaneGroup) (data : U32) (s : State) : Out :=
  s.writeRow path (Addr.RG_GRP_CTRL g.val) (writeGrpCtrl g.val data.toNat)

end Sys2Proof.Machine
end

