-- ==== Sys2Proof/Machine/Time.lean ====
section
/-! DEFINITION. Device time, master time, the flashing bus and alignment over Hip links (R52 to R84). -/

namespace Sys2Proof.Machine

/-! ## A, and switches of master time (R56, R76, R77) -/

/-- `FL_COMP` in force, in Tf (R72). -/
def State.flComp (s : State) : Nat := s.eff FL_COMP.COARSE * tcTf + s.eff FL_COMP.FINE

/-- Device time of the first course boundary of the grid in force at or after `t` (R57, R76). -/
def State.boundaryFrom (s : State) (t : Nat) : Nat :=
  let e := s.time.epoch
  let len : Int := e.len
  ((((t : Int) + e.coarse + len - 1) / len) * len - e.coarse).toNat

/-- `TIME_LEAD` in Tf (R84). -/
def State.timeLead (s : State) : Nat := s.rd TIME_LEAD.UNITS * 256 * tcTf

/-- A 64-bit pattern as two 32-bit arguments, low half first. -/
def pair64 (x : Int) : List Nat := [bits (ofSigned 64 x) 0 32, bits (ofSigned 64 x) 32 32]

/-- The epoch that a pending switch will use, and the pending flag (R84). -/
def State.syncSwitch (s : State) : State :=
  let p := s.time.switch.isSome
  (s.wr TIME_STAT.SWITCH_PEND (b2n p)).wr EPOCH.NEXT (if p then min 0xFFFF (s.epoch + 1) else 0)

/-- A pending switch is set, replaced, or cancelled (R76, R79). -/
def State.setSwitch (s : State) (w : Option Switch) : State :=
  ({ s with time := { s.time with switch := w } }).syncSwitch

/-- A time-set message to each HIP-timed child: the switch in old master time, and the change in A (R77). -/
def State.sendTset (s : State) (seq : Nat) (at_ : Nat) (delta : Int) : State :=
  let m := ((at_ : Int) + s.time.a) % (2 ^ 64 : Nat)
  s.each (s.childLinks.filter fun l => (s.link l).timed) fun s l =>
    s.hipItem l { kind := kindTset, data := [m.toNat, ofSigned 64 delta], seq := seq }

/-- A jump to offset `newA` takes its place as the pending switch, at the boundary already fixed when one
is pending (R76, R79). -/
def State.planSwitch (s : State) (newA : Int) (at_ : Nat) (extra : Nat) : State :=
  let net := newA - s.time.a
  if net = 0 then s.setSwitch none
  else s.setSwitch (some { at_ := at_, newA := newA, cause := (if net < 0 then 2 else 4) + extra, jump := net })

/-- A jump of master time is confirmed (R76, R77, R79, R488). -/
def State.confirmJump (s : State) (newA : Int) : State :=
  let (old, at_) := match s.time.switch with
    | some w => (w.newA, w.at_)
    | none => (s.time.a, s.boundaryFrom (s.now + s.timeLead))
  let step := newA - old
  let s := if step < 0 then s.flag TIME_EVT.JUMP_BACK else if 0 < step then s.flag TIME_EVT.JUMP_FWD else s
  let net := newA - s.time.a
  let s := s.ledgerEvent 0x02 (pair64 step ++ pair64 net)
  (s.planSwitch newA at_ 0).sendTset 0 at_ net

/-! ## The Dorlor time code (R63 to R66, R81) -/

/-- A field of a Dorlor frame's bits [119:0] (R63). -/
def dorlorField (f : BitVec 120) (lo w : Nat) : Nat := bits f.toNat lo w

/-- Whether a frame is valid: mark well formed and CRC matching (R63, R65). -/
def dorlorValid (markOk : Bool) (f : BitVec 120) : Bool :=
  markOk && crcMsb 16 0x1021 0xFFFF (bitsMsb 104 (dorlorField f 16 104)) == dorlorField f 0 16

/-- Length of a Dorlor frame in Tf (R62). -/
def frameTf : Nat := 4096 * tcTf

/-- The `MCOUNT` that an earlier frame predicts for a frame whose edge comes at `d` (R65). -/
def predict (p : Nat × Nat) (d : Nat) : Nat := (p.1 + (d - p.2 + frameTf / 2) / frameTf) % 2 ^ 42

/-- A from a frame's count and its edge (R66). -/
def State.dorlorA (s : State) (mcount d : Nat) : Int :=
  (((mcount * 4096 + 128) * tcTf + s.flComp + Config.tRx : Nat) : Int) - (d : Int)

/-- The calendar second is known: the second, and the coarse tick at which it began (R64, R494). (log 17: DEDUCED) -/
def State.setCalendar (s : State) (sec : Nat) (at_ : Nat) : State :=
  let s := s.wr CAL_SEC.SEC sec
  let s := s.wr CAL_D.D (stamp at_ / tcTf % 2 ^ 32)
  let s := { s with time := { s.time with calAt := at_ } }
  let s := (s.setTally 0x0730 sec).setTally 0x0731 s.seconds
  s.flag LG_CAL.VALID

/-- A frame confirms the node's mapping of master time: the A it gives (R66). (log 24: DEDUCED) -/
def State.confirmA (s : State) (mcount d : Nat) : State :=
  let s := { s with time := { s.time with
    synPrev := some (mcount, d), synCand := none, synA := some (s.dorlorA mcount d) } }
  if s.rd TIME_CFG.SOURCE = 0 then s.flag TIME_STAT.ALIGNED else s

/-- A valid frame against the prediction and the candidate (R65). -/
def State.judgeFrame (s : State) (mcount d : Nat) : State :=
  let hit := fun (p : Option (Nat × Nat)) => match p with
    | some x => predict x d == mcount
    | none => false
  if hit s.time.synPrev then
    let s := if s.time.synCand.isSome then
        (s.count SYN_ERR.GLITCH).flag TIME_EVT.GLITCH else s
    s.confirmA mcount d
  else if hit s.time.synCand then
    let first := s.time.synPrev.isNone
    let s := s.confirmA mcount d
    -- R66: the first pair of agreeing frames gives the first A; a later pair confirms a jump
    if first || s.rd TIME_CFG.SOURCE != 0 || !s.running then s
    else s.confirmJump (s.dorlorA mcount d)
  else { s with time := { s.time with synCand := some (mcount, d) } }

/-- DORLOR_FRAME (R63 to R66, R81): a frame ends 3,968 Tc after its reference edge.
(log 17: DEDUCED; 23: DESIGN CHOICE) -/
def execDorlorFrame (markOk : Bool) (frame : BitVec 120) (dSyn : U64) (s : State) : Out :=
  if !s.time.runs then .next s
  else
    let d := s.unwrap dSyn.toNat
    let s := s.advance (d + 3968 * tcTf)
    if !dorlorValid markOk frame then .next (s.count SYN_ERR.CRC)
    else
      let s : State := if s.rd TIME_CFG.SOURCE = 0 ∧ s.on TIME_STAT.SYN_HOLD then
          { s with time := { s.time with heldTo := s.now } } else s
      let s := (s.wr TIME_STAT.SYN_HOLD (dorlorField frame 72 1)).flag TIME_STAT.SYN_LOCK
      let s := if dorlorField frame 116 4 = 1 then
          s.setCalendar (dorlorField frame 32 32)
            (d - (128 + dorlorField frame 16 12) * tcTf - s.flComp - Config.tRx)
        else s
      .next (s.judgeFrame (dorlorField frame 74 42) d)

/-- SYN_LOSS (R81). -/
def execSynLoss (s : State) : Out :=
  if !s.on TIME_STAT.SYN_LOCK then .next s
  else .next ((s.wr TIME_STAT.SYN_LOCK 0).flag TIME_EVT.SYN_LOSS)

/-! ## Loss of reference (R80) -/

/-- The mean of the exchanges held, rounded to the nearest Tf, and the path's asymmetry taken off
(R73). -/
def State.meanA (s : State) : Int :=
  let n : Int := s.time.exch.length
  let sum := s.time.exch.foldl (fun acc x => acc + x.1) (0 : Int)
  if n = 0 then 0 else (sum + n) / (2 * n) - toSigned 16 (s.rd HIP_ASYM.TF)

/-- A as the node's source gives it now (R55). -/
def State.sourceA (s : State) : Int :=
  match s.rd TIME_CFG.SOURCE with
  | 0 => s.time.synA.getD s.time.a
  | 1 => if 256 ≤ s.time.exch.length then s.meanA else s.time.a
  | _ => s.time.a

/-- A cause of a new epoch at the next boundary (R59). -/
def State.cause (s : State) (bit : Nat) : State :=
  { s with time := { s.time with causes := Nat.lor s.time.causes (2 ^ bit) } }

/-- REF_LOSS (R80): the device enters holdover; device time goes on. The NOTE is listed among what comes
about inside the step (95_what_each_step_holds.md). (log 26: DEDUCED) -/
def execRefLoss (s : State) : Out :=
  if !s.time.runs || !s.pins.refOk then .next s
  else
    let s := { s with pins := { s.pins with refOk := false } }
    let s := (s.flag TIME_STAT.HOLDOVER).wr TIME_STAT.PLL_LOCK 0
    .next (s.event 0 TIME_EVT.REF_LOSS deviceWide)

/-- PLL_RELOCK (R80): A is derived afresh and a relock epoch is due at the next boundary. -/
def execPllRelock (s : State) : Out :=
  if !s.time.runs || s.pins.refOk then .next s
  else
    let s := { s with pins := { s.pins with refOk := true }, time := { s.time with heldTo := s.now } }
    let s := ((s.wr TIME_STAT.HOLDOVER 0).flag TIME_STAT.PLL_LOCK).flag TIME_EVT.RELOCK
    .next (({ s with time := { s.time with nextA := some s.sourceA } }).cause 4)

/-! ## The trigger line (R67 to R71, R82, R174) -/

/-- CRC-8 over bits [31:8] of a trigger word (R68). -/
def trgCheck (w : Nat) : Nat := crcMsb 8 0x07 0 (bitsMsb 24 (bits w 8 24))

/-- What a trigger word is (R68, R69). -/
inductive TrgKind where
  | trigger | sync | profile | bad
deriving DecidableEq, Repr

/-- The kind of a received word: bad with a wrong CHECK, an invalid KIND, or non-zero bits where the layout
requires 0 (R69). -/
def trgKind (w : Nat) : TrgKind :=
  if trgCheck w != bits w 0 8 then .bad
  else match bits w 28 4 with
    | 1 => .trigger
    | 2 => if bits w 24 4 = 0 then .sync else .bad
    | 3 => if bits w 26 2 = 0 then .profile else .bad
    | _ => .bad

/-- D_act of a word whose reference edge was detected at `dRx` (R70). (log 19: DEDUCED) -/
def State.trgAct (s : State) (dRx : U64) : Nat :=
  s.unwrap dRx.toNat + s.rd TRG_DELAY.TC * tcTf - s.flComp - Config.tRx

/-- A word without effect is counted (R69). -/
def State.badTrg (s : State) : State := s.count TRG_ERR.BAD

/-- A valid word is scheduled to act (R70). (log 19: DEDUCED) -/
def State.schedWord (s : State) (w : Nat) (dAct : Nat) : State :=
  let t : TrgWord :=
    { kind := bits w 28 4, cls := bits w 24 4, id := bits w 8 16, dAct := dAct, actAt := ceilTick dAct }
  { s with time := { s.time with words := s.time.words ++ [t] } }

/-- FL_TRIGGER_WORD (R69, R70, R175): a TRIGGER word is scheduled and is a FLASH trigger. (log 23: DESIGN CHOICE) -/
def execFlTriggerWord (w : U32) (dRx : U64) (s : State) : Out :=
  let n := w.toNat
  if trgKind n ≠ .trigger then .next s.badTrg
  else
    let d := s.trgAct dRx
    .next ((s.schedWord n d).newTrigger 0 (bits n 24 4) (bits n 8 16) d)

/-- FL_SYNC_WORD (R69, R70). -/
def execFlSyncWord (w : U32) (dRx : U64) (s : State) : Out :=
  if trgKind w.toNat ≠ .sync then .next s.badTrg
  else .next (s.schedWord w.toNat (s.trgAct dRx))

/-- BAD_TRIGGER_WORD (R69). -/
def execBadTriggerWord (w : U32) (s : State) : Out :=
  if trgKind w.toNat ≠ .bad then .next s else .next s.badTrg

/-- The scheduled word that acts next. -/
def State.nextWord (s : State) : Option TrgWord :=
  s.time.words.foldl (fun o t => match o with
    | none => some t
    | some a => if t.actAt < a.actAt then some t else o) none

/-- TRIGGER_WORD_ACT (R69, R70, R128, R175): the scheduled word that is next acts at its action tick, a
SYNC on every admitted downlink, a TRIGGER as the accepted FLASH trigger it has become. -/
def execTriggerWordAct (s : State) : Out :=
  match s.nextWord with
  | none => .next s
  | some w =>
    let s := s.advance w.actAt
    let s := { s with time := { s.time with words := s.time.words.erase w } }
    if w.kind = 2 then
      .next (s.each s.admittedPorts fun s p =>
        s.dlRequest p { k := kSync, at_ := w.actAt })
    else
      match s.acq.accepted.find? fun t =>
          t.cls == w.cls && t.id == w.id && !t.acted && bitAt t.src 0 && decide (t.actAt ≤ s.now) with
      | some t => .next (s.actTrigger t)
      | none => .next s

/-- FL_TRG_IDLE (R82). -/
def execFlTrgIdle (s : State) : Out := .next (s.wr TIME_STAT.FL_TRG_ACTIVE 0)

/-- FL_TRG_ACTIVE (R82). -/
def execFlTrgActive (s : State) : Out := .next (s.flag TIME_STAT.FL_TRG_ACTIVE)

/-- FL_TRG_LAUNCH (R67, R71, R174): the driver's oldest decision leaves as a TRIGGER word at the first free
word slot at or after M_ACT − `TRG_DELAY`. -/
def execFlTrgLaunch (s : State) : Out :=
  if !s.on TIME_CFG.FL_DRIVER then .next s
  else match s.time.driver with
    | [] => .next s
    | (cls, id, m) :: rest =>
      let due := s.deviceOf (((m - ((s.rd TRG_DELAY.TC * tcTf : Nat) : Int)) % (2 ^ 64 : Nat)).toNat)
      let s := s.advance (max due s.time.driverFree)
      let w := 0x1 * 2 ^ 28 + cls % 16 * 2 ^ 24 + id % 2 ^ 16 * 2 ^ 8
      .next { s with time := { s.time with
        driver := rest, driverFree := s.now + 320 * tcTf, trgOut := w + trgCheck w + 1 } }

/-! ## Alignment over Hip links (R73 to R75) -/

/-- The link to which a HIP-timed node aligns: its tree parent's (R385). -/
def State.alignLink (s : State) : Option Nat :=
  if s.rd TIME_CFG.SOURCE = 1 then s.parentLink else none

/-- HIP_ALIGN_EXCHANGE (R73): every 2^12 Tc a probe leaves for the parent, stamped t1. -/
def execHipAlignExchange (s : State) : Out :=
  match s.alignLink with
  | none => .next s
  | some l =>
    let s := s.advance s.time.probeAt
    let q := s.time.probeSeq
    let s := { s with time := { s.time with
      probes := (q, s.now) :: s.time.probes.take 255, probeSeq := (q + 1) % 256,
      probeAt := s.now + 4096 * tcTf } }
    .next (s.hipItem l { kind := kindTime, data := [], seq := q })

/-- TIME_PROBE_ITEM (R73, R77): an aligned parent stamps the probe's arrival and the reply's sending in its
master time; the neighbour is known to be HIP-timed. -/
def execTimeProbeItem (link : Link) (seq : BitVec 8) (dArr dSend : U64) (s : State) : Out :=
  let l := link.val
  if !s.linkUp l then .next s
  else
    let s := (s.count (HIP_ITEMS_RX.N l)).setLink l { s.link l with timed := true }
    if !s.on TIME_STAT.ALIGNED then .next s
    else
      let m := fun (d : U64) => s.masterOf (s.unwrap d.toNat)
      .next (s.hipItem l { kind := kindTime, data := [m dArr, m dSend], seq := seq.toNat, reply := true })

/-- A new mean is compared with the A in force (R60, R74, R75). (log 24: DEDUCED) -/
def State.checkAlign (s : State) : State :=
  let m := s.meanA
  let near := decide ((m - s.time.a).natAbs ≤ s.rd ALIGN_TOL.TF)
  let realign := fun (s : State) => ({ s with time := { s.time with nextA := some m } }).cause 5
  let s : State := { s with time := { s.time with synA := some m } }
  if !s.running then
    ({ s with time := { s.time with everAligned := true } }).flag TIME_STAT.ALIGNED
  else if !s.time.everAligned then
    realign (({ s with time := { s.time with everAligned := true } }).flag TIME_STAT.ALIGNED)
  else
    let s := (s.flag TIME_STAT.ALIGNED)
    if near then { s with time := { s.time with unaligned := false } }
    else
      let s := s.flag TIME_EVT.ALIGN_DRIFT
      if 0xFF00 ≤ s.epoch then { s with time := { s.time with exhausted := true } } else realign s

/-- TIME_REPLY_ITEM (R73, R74): an exchange completes; once 256 are held, their mean is compared with A. -/
def execTimeReplyItem (link : Link) (seq : BitVec 8) (t2 t3 t4 : U64) (s : State) : Out :=
  let l := link.val
  if s.alignLink != some l then .next s
  else
    let s := s.count (HIP_ITEMS_RX.N l)
    match s.time.probes.find? fun p => p.1 == seq.toNat with
    | none => .next s
    | some (q, t1) =>
      let d := fun (x y : Nat) => tsDiff x y
      let est := d t2.toNat t1 + d t3.toNat t4.toNat
      let delay := d t4.toNat t1 - d t3.toNat t2.toNat
      let ex := (est, delay) :: s.time.exch.take 255
      let n : Int := ex.length
      let sum := ex.foldl (fun acc x => acc + x.2) (0 : Int)
      let s := { s with time := { s.time with probes := s.time.probes.erase (q, t1), exch := ex } }
      let s := s.wr HIP_DELAY.TF (ofSigned 32 ((sum + n) / (2 * n)))
      .next (if 256 ≤ ex.length then s.checkAlign else s)

/-- TSET_ITEM (R77, R79): a HIP-timed child schedules the switch its parent names, passes the message on,
and switches at its next boundary when the switch has passed. -/
def execTsetItem (link : Link) (seq : BitVec 8) (switchM deltaA : U64) (s : State) : Out :=
  let l := link.val
  if s.alignLink != some l then .next s
  else
    let s := s.count (HIP_ITEMS_RX.N l)
    let delta := toSigned 64 deltaA.toNat
    let at_ := s.deviceOf switchM.toNat
    let late := decide (at_ < s.now)
    let s := if late then s.flag TIME_EVT.TRG_LATE else s
    let s := if delta < 0 then s.flag TIME_EVT.JUMP_BACK else if 0 < delta then s.flag TIME_EVT.JUMP_FWD else s
    let s := s.sendTset seq.toNat at_ delta
    .next (s.planSwitch (s.time.a + delta) (if late then s.nextBoundary else at_) (if late then 32 else 0))

/-! ## SET_TIME, FL_COMP, TIME_LO (R76, R84) -/

/-- What SET_TIME does (R76, R464, R494): accepted only on a SELF-timed node. (log 20: DEDUCED) -/
def dirSetTime (d : Dir) (s : State) : State :=
  if s.rd TIME_CFG.SOURCE ≠ 2 then s.dirWrong d Addr.TIME_CFG
  else
    let ref := s.unwrap (wfield (d.arg 0) 64 64)
    let s := if d.data = 0 then s else s.setCalendar d.data ref
    let newA := toSigned 64 (ofSigned 64 ((wfield (d.arg 0) 0 64 : Int) - (ref : Int)))
    let s := s.confirmJump newA
    let data := match s.time.switch with
      | some w => keyCourse (s.keyAt (w.at_ - 1) + 1)
      | none => 0
    s.dirDone d data

/-- SET_TIME (R76, R463, R464). -/
def execSetTime (r : DirReq) (s : State) : Out := .next (s.directive 0x02 r (· == 1) dirSetTime)

/-- A write of FL_COMP: while the device runs it waits for the next boundary, where a FLASHING-timed node
starts a new epoch (R84). (log 19: DEDUCED; 21: DESIGN CHOICE) -/
def writeFlComp (data : Nat) (s : State) : Status × State :=
  let (st, s') := s.codeStage Addr.FL_COMP data
  (st, if s.running && s.rd TIME_CFG.SOURCE == 0 then s'.cause 7 else s')

/-- FL_COMP_WRITE (R84). -/
def execFlCompWrite (path : Path) (data : U32) (s : State) : Out :=
  s.writeRow path Addr.FL_COMP (writeFlComp data.toNat)

/-- A read of TIME_LO: D[31:0], and the upper half into the path's TIME_HI unless it is a peek
(R84, R321, R514). (log 133: DEDUCED) -/
def readTimeLo (path : Path) (consume : Bool) (s : State) : Nat × State :=
  let d := stamp s.now
  (d % 2 ^ 32, if consume then s.setLatch path Addr.TIME_HI (BitVec.ofNat 32 (d / 2 ^ 32)) else s)

/-- TIME_LO_READ (R84). -/
def execTimeLoRead (path : Path) (consume : Bool) (s : State) : Out :=
  if !s.pins.answered then .next s else .next (readTimeLo path consume s).2

end Sys2Proof.Machine
end

