-- ==== Sys2Proof/Machine/Hip.lean ====
section
/-! DEFINITION. Hip links: neighbours, items, data frames, tree formation and routing (R378 to R387, R394). -/

namespace Sys2Proof.Machine

/-! ## The tree (R383 to R385) -/

/-- One HELLO period: 2^16 Tc (R383). -/
def helloTf : Nat := 2 ^ 16 * tcTf

/-- The state of a link: 0 DOWN, 1 TRAIN, 2 UP (R383). -/
def State.hipState (s : State) (l : Nat) : Nat := s.rd (HIP_STAT.STATE l)

/-- The node's own id (R9). -/
def State.nodeId (s : State) : Nat := s.rd NODE_ID.ID

/-- ROLE of a link (R384, R394). -/
def State.hipRole (s : State) (l : Nat) : Nat :=
  if !s.linkUp l then 0
  else if s.parentLink = some l then 1
  else if (s.link l).parent = s.nodeId then 2
  else 3

/-- The links' ROLE as the tree stands (R394). (log 96: DEDUCED) -/
def State.syncRoles (s : State) : State :=
  s.each (List.range 8) fun s l => s.wr (HIP_STAT.ROLE l) (s.hipRole l)

/-- A choice of root and parent: root, distance, parent link (15 none), is root, and the root's priority (R384). -/
structure TreeChoice where
  root : Nat
  dist : Nat
  parent : Nat
  isRoot : Bool
  prio : Nat
deriving DecidableEq, Repr

/-- A link's place in HIP_PREF; a link that is not named stands after those that are (R384). -/
def State.prefPlace (s : State) (l : Nat) : Nat :=
  ((List.range 8).find? fun i => bits (s.rd HIP_PREF.L) (4 * i) 4 == l).getD (8 + l)

/-- The links whose neighbour offers a root and may be the parent (R384). -/
def State.offers (s : State) : List Nat :=
  (List.range 8).filter fun l =>
    let x := s.link l
    s.linkUp l && x.rprio != 15 && x.parent != s.nodeId && decide (x.dist + 1 ≤ s.rd HIP_CFG.MAXDEPTH)

/-- Of some links, the one least by `key`, the earlier in HIP_PREF between equals (R384). -/
def State.bestLink (s : State) (key : Nat → Nat) (ls : List Nat) : Option Nat :=
  ls.foldl (fun (b : Option Nat) l => match b with
    | none => some l
    | some k => if key l < key k ∨ (key l = key k ∧ s.prefPlace l < s.prefPlace k) then some l else some k) none

/-- The choice that the neighbours' HELLOs now give (R384). (log 96: DEDUCED) -/
def State.treeChoice (s : State) : TreeChoice :=
  let key := fun (l : Nat) => ((s.link l).rprio * 2 ^ 16 + (s.link l).root) * 2 ^ 8 + (s.link l).dist
  let own := s.rd HIP_CFG.ROOT_PRIO
  let ownKey := own * 2 ^ 16 + s.nodeId
  let self : TreeChoice := { root := s.nodeId, dist := 0, parent := 15, isRoot := true, prio := own }
  match s.bestLink key s.offers with
  | some l =>
    let x := s.link l
    if own < 15 ∧ ownKey ≤ x.rprio * 2 ^ 16 + x.root then self
    else { root := x.root, dist := x.dist + 1, parent := l, isRoot := false, prio := x.rprio }
  | none => if own < 15 then self else { root := 0xFFFF, dist := 0, parent := 15, isRoot := false, prio := 15 }

/-- Node ids in ANNOUNCE and WITHDRAW words, eight to a word, unused places 0xFFFF (R381). -/
def idWords (ids : List Nat) : List Word :=
  (List.range (ceilDiv ids.length 8)).map fun i =>
    mkWord ((List.range 8).map fun j => (16 * j, 16, ids.getD (8 * i + j) 0xFFFF))

/-- An ANNOUNCE (3) or WITHDRAW (4) goes to the parent (R386). -/
def State.tellParent (s : State) (kind : Nat) (ids : List Nat) : State :=
  match s.parentLink with
  | none => s
  | some l =>
    if ids.isEmpty then s
    else
      let hdr : HipHdr := ⟨true, true, BitVec.ofNat 16 (s.link l).node, BitVec.ofNat 16 s.nodeId⟩
      s.hipFrame l { kind := kind, hdr := hdr, words := idWords ids }

/-- The ids recorded on a link (R386). -/
def State.idsOn (s : State) (l : Nat) : List Nat := (s.tree.routes.filter fun x => x.2 == l + 1).map (·.1)

/-- A change of root or parent takes effect (R385, R386). (log 96: DEDUCED) -/
def State.applyTree (s : State) (c : TreeChoice) : State :=
  let old := s.parentLink
  let s : State := { s with tree := { s.tree with choice := none } }
  let s := match old with
    | some o =>
      if s.hipState o = 2 ∨ o = c.parent then s
      else
        let x := s.link o
        (s.count (HIP_ITEM_LOST.N o) x.items.length).setLink o { x with items := [] }
    | none => s
  let s := s.wr TREE_STAT.ROOT c.root
  let s := s.wr TREE_STAT.DIST c.dist
  let s := s.wr TREE_STAT.PARENT c.parent
  let s := s.wr TREE_STAT.IS_ROOT (b2n c.isRoot)
  let s := (s.count TREE_CHANGES.N).event 0 TREE_EVT.CHANGE deviceWide
  let s := s.ledgerEvent 0x0E [c.root, c.parent]
  let s := if old.isSome && c.parent == 15 && !c.isRoot then s.flag TREE_EVT.NO_PARENT else s
  let s := if old = s.parentLink then s
    else { s with time := { s.time with exch := [], probes := [] } }
  let s := if old = s.parentLink then s else s.tellParent 3 (s.nodeId :: s.tree.routes.map (·.1))
  s.syncRoles

/-- Whether a choice is the root and parent in force (R385). -/
def State.inForce (s : State) (c : TreeChoice) : Bool :=
  s.rd TREE_STAT.ROOT == c.root && s.rd TREE_STAT.PARENT == c.parent && s.isRoot == c.isRoot

/-- The choice is made afresh; the time from which the new one stands is kept, and a distance alone follows the parent
at once (R384, R385). -/
def State.retree (s : State) : State :=
  let c := s.treeChoice
  let k := (c.root, c.dist, c.parent, c.isRoot)
  let same := match s.tree.choice with
    | some (r, _, p, i) => r == c.root && p == c.parent && i == c.isRoot
    | none => false
  let s : State :=
    if s.inForce c then ({ s with tree := { s.tree with choice := none } }).wr TREE_STAT.DIST c.dist
    else
      let at_ := if same then s.tree.choiceAt else s.now
      { s with tree := { s.tree with choice := some k, choiceAt := at_ } }
  s.syncRoles

/-- A choice that has stood for two HELLO periods takes effect: at a course boundary, or at once while the device has no
courses (R385). -/
def State.treeDue (s : State) : State :=
  if s.tree.choice.isSome && decide (s.tree.choiceAt + 2 * helloTf ≤ s.now) then
    let c := s.treeChoice
    if s.inForce c then s.retree else s.applyTree c
  else s

/-- The tree judged again after a change on a link (R384, R385). (log 97: DEDUCED) -/
def State.treeChanged (s : State) : State :=
  let s := s.retree
  if s.running then s else s.treeDue

/-! ## Neighbours (R383) -/

/-- The ids learnt on a link are removed and withdrawn (R386). -/
def State.forgetIds (s : State) (l : Nat) : State :=
  let ids := s.idsOn l
  let s : State := { s with tree := { s.tree with routes := s.tree.routes.filter fun x => x.2 != l + 1 } }
  s.tellParent 4 ids

/-- The parent link of a HIP-timed node is lost (R75). -/
def State.unalign (s : State) : State :=
  if s.rd TIME_CFG.SOURCE ≠ 1 then s
  else
    let s := s.wr TIME_STAT.ALIGNED 0
    { s with time := { s.time with unaligned := true, exch := [], probes := [] } }

/-- The neighbour on a link is lost, and the link goes to `st` (R383, R386). -/
def State.loseNeighbour (s : State) (l st : Nat) : State :=
  let was := s.hipState l
  let x := s.link l
  let s := (s.wr (HIP_STAT.STATE l) st).wr (HIP_STAT.NEIGHBOUR l) 0
  let s := s.setLink l { x with node := 0, root := 0, dist := 0, rprio := 0, parent := 0, dup := false, credits := 8,
                                timed := false }
  if was ≠ 2 then s.syncRoles
  else
    let s := (s.flag (HIP_EVT.LOST l)).tally (0x420 + l)
    let s := if s.on (HIP_CTRL.EXPECT l) then s.noteBit 0 (HIP_EVT.LOST l) (unitId 8 l) else s
    let s := if s.parentLink = some l then s.unalign else s
    (s.forgetIds l).treeChanged

/-- A link follows its enable bit (R383, R394). -/
def State.hipWake (s : State) (l : Nat) : State :=
  if s.on (HIP_CTRL.EN l) ∨ s.hipState l = 0 then s else s.loseNeighbour l 0

/-- HIP_LOCK (R383). -/
def execHipLock (link : Link) (s : State) : Out :=
  let l := link.val
  .next (if s.hipState l = 0 ∧ s.on (HIP_CTRL.EN l) then s.wr (HIP_STAT.STATE l) 1 else s)

/-- HELLO_ITEM (R383, R384, R386): the link is UP, the neighbour's state is taken, and the choice made afresh. -/
def execHelloItem (link : Link) (data : U64) (s : State) : Out :=
  let l := link.val
  if s.hipState l = 0 then .next s
  else
    let s := s.count (HIP_ITEMS_RX.N l)
    let d := data.toNat
    let x := s.link l
    let wasChild := s.linkUp l && x.parent == s.nodeId
    let found := s.hipState l != 2
    let y := { x with node := bits d 0 16, root := bits d 16 16, dist := bits d 32 8, rprio := bits d 40 4,
                      parent := bits d 48 16, helloAt := s.now, dup := bits d 0 16 == s.nodeId }
    let y := if found then { y with credits := 8, sentAt := s.now } else y
    let s := (s.setLink l y).wr (HIP_STAT.NEIGHBOUR l) y.node
    let s := s.wr (HIP_STAT.STATE l) 2
    let s := if found then
        (s.flag (HIP_EVT.FOUND l)).retrainReached 7 l 0 (Addr.HIP_STAT l) 2 true
      else s
    let s := if y.dup then (s.flag (HIP_EVT.DUP_ID l)).refuse 8 l 0x92 l else s
    let s := if wasChild && (y.dup || y.parent != s.nodeId) then s.forgetIds l else s
    let s := if y.dup && !x.dup && s.parentLink == some l then s.unalign else s
    let s := s.treeChanged
    .next (s.hipPump l (s.link l).frames)

/-- The HELLO that the node sends (R383). -/
def State.helloData (s : State) : Nat :=
  let parent := match s.parentLink with
    | some l => (s.link l).node
    | none => 0xFFFF
  let prio := if s.isRoot then s.rd HIP_CFG.ROOT_PRIO
    else match s.parentLink with
      | some l => (s.link l).rprio
      | none => 15
  s.nodeId + s.rd TREE_STAT.ROOT * 2 ^ 16 + s.rd TREE_STAT.DIST * 2 ^ 32 + prio * 2 ^ 40 + parent * 2 ^ 48

/-- HELLO_SEND (R383): a link in UP sends a HELLO every period. (log 97: DEDUCED) -/
def execHelloSend (link : Link) (s : State) : Out :=
  let l := link.val
  if s.hipState l ≠ 2 then .next s
  else
    let s := s.advance ((s.link l).sentAt + helloTf)
    let s := s.setLink l { s.link l with sentAt := s.now }
    let s := s.hipLaunch l { kind := kindHello, data := [s.helloData] }
    .next (if s.running then s else s.treeDue)

/-- HIP_NEIGHBOUR_LOSS (R383): lock is lost, or four HELLO periods pass without a valid HELLO. -/
def execHipNeighbourLoss (link : Link) (lockLost : Bool) (s : State) : Out :=
  let l := link.val
  if lockLost then .next (if s.hipState l = 0 then s else s.loseNeighbour l 0)
  else if s.hipState l ≠ 2 then .next s
  else .next ((s.advance ((s.link l).helloAt + 4 * helloTf)).loseNeighbour l 1)

/-- HIP_SLIP (R378): a slip sends the link to TRAIN. -/
def execHipSlip (link : Link) (s : State) : Out :=
  let l := link.val
  .next (if s.hipState l = 0 then s else (s.flag (HIP_EVT.SLIP l)).loseNeighbour l 1)

/-- A unit reset of a link (R389): the neighbour is lost, and lock is taken again from TRAIN. -/
def State.resetLink (s : State) (l : Nat) : State := if s.hipState l = 0 then s else s.loseNeighbour l 1

/-! ## Items (R379, R380) -/

/-- `n` ns in Tf: 2,621.44 Tf each (R10). -/
def nsTf (n : Nat) : Nat := n * 262144 / 100

/-- A duration in Tf in whole ns. -/
def tfNs (t : Nat) : Nat := t * 100 / 262144

/-- HIP_ITEM_FORWARD (R380): the oldest waiting PRIM or DEC of a link leaves 48 ns after it arrived, or once the
transmitter is free; its wait is counted, and too long a wait drops it. A link that is not UP loses it. -/
def execHipItemForward (link : Link) (s : State) : Out :=
  let l := link.val
  let x := s.link l
  match x.items with
  | [] => .next s
  | i :: rest =>
    let s := s.setLink l { x with items := rest }
    if !s.linkUp l then .next (s.count (HIP_ITEM_LOST.N l))
    else
      let due := i.arrAt + nsTf 48
      let go := max due x.freeAt
      let wait := tfNs (go - due)
      if s.rd HIP_CFG.FWD_LIMIT < wait then .next (s.count (HIP_LATE.N l))
      else
        let s := (s.advance go).count (HIP_WAIT_NS.N l) wait
        let s := s.setLink l { s.link l with freeAt := go + nsTf 768 / 100 }
        .next (s.hipLaunch l { i with wait := min 0xFFFF (i.wait + wait) })

/-- CREDIT_ITEM (R381). -/
def execCreditItem (link : Link) (credits : BitVec 8) (s : State) : Out :=
  let l := link.val
  if s.hipState l ≠ 2 then .next s
  else
    let s := s.count (HIP_ITEMS_RX.N l)
    let x := s.link l
    .next ((s.setLink l { x with credits := min 8 (x.credits + credits.toNat) }).hipPump l x.frames)

/-! ## Data frames (R381, R382, R386) -/

/-- A data frame has left this node's buffer: its credit goes back on the link it came on (R381). (log 98: DEDUCED) -/
def State.giveCredit (s : State) (l : Nat) : State := s.hipLaunch l { kind := kindCredit, data := [1] }

/-- A data frame that came on link `l` goes on toward its destination (R386); none where no route is known. -/
def State.hipOn (s : State) (l kind : Nat) (hdr : HipHdr) (ws : List Word) : Option State :=
  (s.routeTo hdr.dest.toNat).map fun k => s.hipFrame k { kind := kind, hdr := hdr, words := ws, back := some l }

/-- A frame without a route is dropped and counted (R386). -/
def State.hipDrop (s : State) (l : Nat) : State := (s.count (HIP_FWD_REJECT.N l)).giveCredit l

/-- A data frame on a link: handled here, or routed on (R386). -/
def State.hipData (s : State) (l kind : Nat) (hdr : HipHdr) (ws : List Word) (act : State → State) : State :=
  if !s.linkUp l then s
  else if hdr.dest.toNat = s.nodeId then (act s).giveCredit l
  else (s.hipOn l kind hdr ws).getD (s.hipDrop l)

/-- HIP_RECORD_FRAME (R382): a forwarded frame is routed on, or passed to the RG_FWDIN group. -/
def execHipRecordFrame (link : Link) (hdr : HipHdr) (words : List Word) (s : State) : Out :=
  .next <| s.hipData link.val 0 hdr words fun s =>
    if !s.on RG_FWDIN.VALID then s.count (HIP_FWD_REJECT.N link.val)
    else
      let g := s.rd RG_FWDIN.GRP
      let w0 := words.headD 0
      let f : TxFrame :=
        { gseq := 0, first := hdr.first, last := hdr.last, words := words.tail, lane := 0, sentAt := s.now,
          from_ := some (hdr.orig.toNat, wfield w0 24 4, wfield w0 0 24) }
      let x := s.group g
      s.setGroup g { x with fwd := addForwarded f x.fwd }

/-- HIP_RESPONSE_FRAME (R386): at the entry node the response waits at the group that received the request; one that
comes after its time-out is dropped. -/
def execHipResponseFrame (link : Link) (hdr : HipHdr) (words : List Word) (s : State) : Out :=
  .next <| s.hipData link.val 2 hdr words fun s =>
    let g := wfield (words.headD 0) 0 4
    let w := words.getD 1 0
    let tag := wfield w 0 16
    if s.trans.any fun t => t.tag == tag && t.group == g && t.remote && !t.answered then
      (s.answerTrans g tag).respondWord g w true
    else s.count RG_LATE_RSP.N

/-- ANNOUNCE_FRAME (R386, R458): each id is recorded with the link toward it, and the list passed on upward. The own
id, or one recorded on another link, is refused and not taken. -/
def execAnnounceFrame (link : Link) (ids : List (BitVec 16)) (s : State) : Out :=
  let l := link.val
  if !s.linkUp l then .next s
  else
    let step := fun (acc : List Nat × State) (id : Nat) =>
      let (ok, s) := acc
      let at_ := Tab.get 0 s.tree.routes id
      if id = s.nodeId ∨ (at_ ≠ 0 ∧ at_ ≠ l + 1) then (ok, s.refuse 8 l 0x95 id)
      else (ok ++ [id], { s with tree := { s.tree with routes := Tab.set 0 s.tree.routes id (l + 1) } })
    let (ok, s) := ((ids.map BitVec.toNat).filter (· != 0xFFFF)).foldl step (([] : List Nat), s)
    .next ((s.tellParent 3 ok).giveCredit l)

/-- WITHDRAW_FRAME (R386): the ids recorded on the link are removed, and withdrawn upward. -/
def execWithdrawFrame (link : Link) (ids : List (BitVec 16)) (s : State) : Out :=
  let l := link.val
  if !s.linkUp l then .next s
  else
    let gone := (s.idsOn l).filter fun i => (ids.map BitVec.toNat).contains i
    let keep := s.tree.routes.filter fun x => !(x.2 == l + 1 && gone.contains x.1)
    let s : State := { s with tree := { s.tree with routes := keep } }
    .next ((s.tellParent 4 gone).giveCredit l)

/-- FWD_ACK_FRAME (R382): the origin group's frames up to `fseq` are covered. -/
def execFwdAckFrame (link : Link) (hdr : HipHdr) (fseq : BitVec 24) (g : LaneGroup) (s : State) : Out :=
  .next <| s.hipData link.val 5 hdr [mkWord [(0, 24, fseq.toNat), (24, 4, g.val)]] fun s =>
    if s.forwards g.val then s.cover g.val fseq.toNat else s

/-- REMOTE_TIMEOUT (R386): a remote transaction without a response is answered TIMEOUT. -/
def execRemoteTimeout (tag : BitVec 16) (g : LaneGroup) (s : State) : Out :=
  match s.trans.find? fun t => t.tag == tag.toNat && t.group == g.val && t.remote && !t.answered with
  | none => .next s
  | some t =>
    let s := s.advance (t.at_ + usTf (s.rd RG_CTL_CFG.REMOTE_TMO))
    .next (s.respond (.lanes g.val) tag.toNat .timeOut 0 0)

/-! ## Enable writes (R394) -/

/-- A write of HIP_CTRL (R394). (log 97: DEDUCED) -/
def writeHipCtrl (l data : Nat) (s : State) : Status × State :=
  s.reqEnable 8 l (HIP_CTRL.EN l) data fun s => s.codeWrite (Addr.HIP_CTRL l) data

/-- HIP_EN_WRITE (R394). -/
def execHipEnWrite (path : Path) (link : Link) (data : U32) (s : State) : Out :=
  s.writeRow path (Addr.HIP_CTRL link.val) (writeHipCtrl link.val data.toNat)

end Sys2Proof.Machine
end

