-- ==== Sys2Proof/Machine/Curves.lean ====
section
/-! DEFINITION. IEEE 754 binary32 arithmetic and the linearisation curves of a Gauge unit (R411, R412). -/

namespace Sys2Proof.Machine

/-- A finite binary32 value as mantissa times a power of two. -/
structure F32 where
  m : Int
  e : Int
deriving DecidableEq, Repr

/-- `n / d` rounded to the nearest integer, ties to even; `sticky` says that the true quotient lies a little above. -/
def divNear (n d : Nat) (sticky : Bool) : Nat :=
  let q := n / d
  let r := n % d
  if d < 2 * r ∨ (2 * r = d ∧ (sticky ∨ q % 2 = 1)) then q + 1 else q

/-- The binary32 value nearest to `sign · n / d`, for `d` above 0 (R411); an overflow keeps its magnitude, which every
curve then clamps. (log 99: DEDUCED) -/
def F32.round (neg : Bool) (n d : Nat) (sticky : Bool := false) : F32 :=
  if n = 0 then ⟨0, 0⟩
  else
    let e0 : Int := (Nat.log2 n : Int) - Nat.log2 d - 24
    let scale := fun (e : Int) => if 0 ≤ e then divNear n (d * 2 ^ e.toNat) sticky
      else divNear (n * 2 ^ (-e).toNat) d sticky
    -- the exponent that leaves 24 bits, not below that of a subnormal
    let fit := fun (e : Int) =>
      decide ((if 0 ≤ e then n / (d * 2 ^ e.toNat) else n * 2 ^ (-e).toNat / d) < 2 ^ 24)
    let e := max (-149) (if fit e0 then e0 else if fit (e0 + 1) then e0 + 1 else e0 + 2)
    let m : Int := scale e
    ⟨if neg then -m else m, e⟩

/-- Numerator and denominator of a value. -/
def F32.frac (x : F32) : Int × Nat :=
  if 0 ≤ x.e then (x.m * 2 ^ x.e.toNat, 1) else (x.m, 2 ^ (-x.e).toNat)

/-- The value nearest to a fraction. -/
def F32.ofFrac (n : Int) (d : Nat) : F32 := F32.round (decide (n < 0)) n.natAbs d

/-- Sum. -/
def F32.add (x y : F32) : F32 :=
  let (a, b) := x.frac
  let (c, d) := y.frac
  F32.ofFrac (a * d + c * b) (b * d)

/-- Negation. -/
def F32.neg (x : F32) : F32 := ⟨-x.m, x.e⟩

/-- Difference. -/
def F32.sub (x y : F32) : F32 := x.add y.neg

/-- Product. -/
def F32.mul (x y : F32) : F32 :=
  let (a, b) := x.frac
  let (c, d) := y.frac
  F32.ofFrac (a * c) (b * d)

/-- Quotient, for a divisor other than 0. -/
def F32.div (x y : F32) : F32 :=
  let (a, b) := x.frac
  let (c, d) := y.frac
  F32.ofFrac (a * d * (if c < 0 then -1 else 1)) (b * c.natAbs)

/-- Integer square root, bit by bit. -/
def isqrt (n : Nat) : Nat :=
  ((List.range (Nat.log2 n / 2 + 1)).reverse).foldl
    (fun r i => if (r + 2 ^ i) * (r + 2 ^ i) ≤ n then r + 2 ^ i else r) 0

/-- Square root of a value not below 0. -/
def F32.sqrt (x : F32) : F32 :=
  let (a, b) := x.frac
  let n := a.toNat * 2 ^ 128 / b
  let r := isqrt n
  F32.round false r (2 ^ 64) (r * r * b != a.toNat * 2 ^ 128)

/-- Whether `x < y`. -/
def F32.lt (x y : F32) : Bool :=
  let (a, b) := x.frac
  let (c, d) := y.frac
  decide (a * d < c * b)

/-- A register's binary32 value; none for an infinity or a NaN. -/
def F32.ofBits (v : BitVec 32) : Option F32 :=
  let e := bits v.toNat 23 8
  let f := bits v.toNat 0 23
  if e = 255 then none
  else
    let m : Int := if e = 0 then f else f + 2 ^ 23
    some ⟨if bitAt v.toNat 31 then -m else m, (if e = 0 then 1 else (e : Int)) - 150⟩

/-- Round a value times `k` to the nearest integer, ties to even. -/
def F32.toUnits (x : F32) (k : Nat) : Int :=
  let (a, b) := x.frac
  let m : Int := divNear (a.natAbs * k) b false
  if a < 0 then -m else m

/-- V in volts from 10 nV, in binary32. -/
def voltsOf (raw : Int) : F32 := F32.ofFrac raw 100000000

/-- Valid range of a curve in its units (R411); RAW's is the input range of R397. -/
def curveRange (curve range : Nat) : Int × Int :=
  match curve with
  | 0 => let fs : Int := if range = 0 then 250000000 else if range = 1 then 31250000 else 3906250; (-fs, fs)
  | 1 => (-200000, 850000)
  | 2 => (-80000, 200000)
  | 3 => (-270000, 1372000)
  | 4 => (-270000, 400000)
  | 5 => (-270000, 1000000)
  | 6 => (-210000, 1200000)
  | 7 => (-2147000000, 2147000000)
  | 8 => (-2147000000, 2147000000)
  | 9 => (0, 2000000000)
  | 10 => (-55000, 150000)
  | _ => (0, 6000000)

/-- PT at or above 0 °C (R411): T = (−A + √(A² − 4B(1 − R/R0))) / (2B), in binary32; none below 0 °C. -/
def ptValue (raw : Int) (pA : Nat) (c0 c1 : F32) : Option Int :=
  if pA = 0 ∨ c0.m = 0 then none
  else
    let a := F32.ofFrac 39083 10000000
    let b := F32.ofFrac (-5775) 10000000000
    let r := ((voltsOf raw).div (F32.ofFrac pA 1000000000000)).sub c1
    let k := (F32.ofFrac 1 1).sub (r.div c0)
    if (F32.ofFrac 0 1).lt k then none
    else
      let root := (a.mul a).sub ((F32.ofFrac 4 1).mul (b.mul k))
      if root.lt (F32.ofFrac 0 1) then some 850001
      else some (((root.sqrt.sub a).div ((F32.ofFrac 2 1).mul b)).toUnits 1000)

/-- `VALUE` before clamping (R411): the curves made of additions, products, quotients and square roots are computed in
binary32; the others are free functions of their operands. (log 99: DEDUCED) -/
def curveValue (curve : Nat) (raw : Int) (pA : Nat) (coefs : List (BitVec 32)) (ref : Int) : Int :=
  let free := Config.curve curve raw pA coefs ref
  let c := fun (i : Nat) => F32.ofBits (coefs.getD i 0)
  match curve, c 0, c 1, c 2 with
  | 0, _, _, _ => raw
  | 1, some c0, some c1, _ => (ptValue raw pA c0 c1).getD free
  | 7, some c0, some c1, _ => ((c0.mul (voltsOf raw)).add c1).toUnits 1000000
  | 8, some c0, some c1, _ =>
    if ref = 0 then free
    else ((c0.mul ((voltsOf raw).div (voltsOf ref))).add c1).toUnits 1000000000
  | 9, _, _, some c2 => if c2.lt (voltsOf raw) then free else 0
  | _, _, _, _ => free

/-- `VALUE` and `OUT_OF_CURVE`: a result outside the valid range is clamped to the nearer limit (R411).
(log 99: DEDUCED) -/
def linearise (curve range : Nat) (raw : Int) (pA : Nat) (coefs : List (BitVec 32)) (ref : Int) : Int × Bool :=
  let v := curveValue curve raw pA coefs ref
  let (lo, hi) := curveRange curve range
  if v < lo then (lo, true) else if hi < v then (hi, true) else (v, false)

end Sys2Proof.Machine
end

