-- ==== Sys2Proof/Machine/Gauge.lean ====
section
/-! DEFINITION. The Gauge units: jobs, slices, urgent requests, readings, calibration and GAUGE records
(R395 to R427). -/

namespace Sys2Proof.Machine

/-! ## Names -/

/-- TYPE of a GAUGE record (R205). -/
def typeGauge : Nat := 7

/-- `VALUE` that is not valid (R413). -/
def gaNoValue : Int := -2147483648

/-- A NOTE about an input (R376, R450). -/
def State.inputNote (s : State) (h j : Nat) (f : Field) : State := s.event h f (unitId 10 (32 * h + j))

/-- A NOTE about a unit (R376, R450). -/
def State.gaugeNote (s : State) (h : Nat) (f : Field) : State := s.event h f (unitId 9 h)

/-- The input `j` of unit `h`. -/
def State.ginput (s : State) (h j : Nat) : GInput := Tab.get {} (s.unit h).inputs j

/-- The input `j` of unit `h` becomes `x`. -/
def State.setInput (s : State) (h j : Nat) (x : GInput) : State :=
  s.setUnit h { s.unit h with inputs := Tab.set {} (s.unit h).inputs j x }

/-- The job of a slice. -/
def State.gjob (s : State) (h sl : Nat) : Option GJob := Tab.get none (s.unit h).jobs sl

/-- Curve of an input: fixed for internal points (R396). -/
def State.gaCurve (s : State) (h j : Nat) : Nat :=
  if j < 16 then s.eff (GA_IN_A.CURVE h j) else if j < 19 then 10 else if j = 19 then 9 else 11

/-- An input's source, 8 for none; internal points have none (R396, R400). -/
def State.gaSrc (s : State) (h j : Nat) : Nat := if j < 16 then s.eff (GA_IN_B.SRC h j) else 8

/-- An input's second source (R400). -/
def State.gaSrc2 (s : State) (h j : Nat) : Nat := if j < 16 then s.eff (GA_IN_B.SRC2 h j) else 8

/-- The sources and excitation pins that a job of input `j` holds (R400); a diagnostic job drives none (R416). -/
def State.gaHolds (s : State) (h j : Nat) (diag : Bool) : List Nat × List Nat :=
  if diag then ([], [])
  else
    let a := if s.gaSrc h j < 8 then [(s.gaSrc h j, s.eff (GA_IN_B.EXC_PIN h j))] else []
    let b := if s.gaSrc2 h j < 8 then [(s.gaSrc2 h j, s.eff (GA_IN_B.EXC2_PIN h j))] else []
    ((a ++ b).map (·.1), (a ++ b).map (·.2))

/-! ## Slices (R402 to R404) -/

/-- The healthy slices (R402, R404). -/
def State.healthy (s : State) (h : Nat) : List Nat :=
  (List.range 5).filter fun i => !bitAt (s.rd (GA_STAT.SLICE_FAULT h)) i

/-- The converting slices: every healthy one but that calibrating, none when one healthy slice is left (R402, R404). -/
def State.converting (s : State) (h : Nat) : List Nat :=
  let ok := s.healthy h
  if ok.length < 2 then [] else ok.filter fun i => i != s.rd (GA_STAT.CAL_SLICE h)

/-- The converting slices without a job. -/
def State.freeSlices (s : State) (h : Nat) : List Nat := (s.converting h).filter fun i => (s.gjob h i).isNone

/-- GA_STAT.BUSY: converting slices holding a job (R425). -/
def State.syncBusy (s : State) (h : Nat) : State :=
  s.wr (GA_STAT.BUSY h) ((s.converting h).filter fun i => (s.gjob h i).isSome).length

/-- The job of a slice becomes `j`. -/
def State.setJob (s : State) (h sl : Nat) (j : Option GJob) : State :=
  (s.setUnit h { s.unit h with jobs := Tab.set none (s.unit h).jobs sl j }).syncBusy h

/-- The running jobs with their slices, ascending. -/
def State.gjobs (s : State) (h : Nat) : List (Nat × GJob) :=
  (s.unit h).jobs.filterMap fun x => x.2.map fun j => (x.1, j)

/-- Whether a running job holds a source or pin that a job of input `j` needs (R400). -/
def State.gaHeldBy (s : State) (h j : Nat) (diag : Bool) : Option (Nat × GJob) :=
  let (src, pin) := s.gaHolds h j diag
  (s.gjobs h).find? fun x =>
    let (a, b) := s.gaHolds h x.2.input x.2.diag
    src.any a.contains || pin.any b.contains

/-! ## Open courses (R419, R420) -/

/-- A change to the course that contains an instant: the last that began at or before it. -/
def gcourseAt (t : Nat) (f : GCourse → GCourse) : List GCourse → List GCourse
  | [] => []
  | c :: cs =>
    if cs.any fun d => decide (d.dCourse ≤ t) then c :: gcourseAt t f cs else f c :: cs

/-- A change to the course in progress at `t`. -/
def State.gcourse (s : State) (h t : Nat) (f : GCourse → GCourse) : State :=
  s.setUnit h { s.unit h with courses := gcourseAt t f (s.unit h).courses }

/-- An occurrence of an input is missed (R406). -/
def State.gaMiss (s : State) (h : Nat) : State :=
  ((s.count (GA_MISSED.N h)).flag (GA_EVT.MISSED h)).gcourse h s.now fun c => { c with missed := c.missed + 1 }

/-! ## Starting and aborting jobs (R398, R406, R409, R410) -/

/-- A waiting job starts on a slice, with its switching interval (R398). -/
def State.gaStart (s : State) (h sl : Nat) (d : GDue) : State :=
  let u := s.unit h
  let code := if d.input < 16 then s.rd (GA_IN_STAT.IEXC_NOW h d.input) else 0
  let j : GJob :=
    { input := d.input, started := s.now, urgent := d.rank == 0, restarts := d.restarts, stepped := d.stepped,
      diag := d.diag, code := code, cfgA := s.effReg (Addr.GA_IN_A h d.input),
      cfgB := s.effReg (Addr.GA_IN_B h d.input), order := u.starts }
  let s := s.setUnit h { u with starts := u.starts + 1 }
  s.setJob h sl (some j)

/-- A waiting job joins the list, in place of one of the same input already there (R406). -/
def State.gaQueue (s : State) (h : Nat) (d : GDue) : State :=
  let u := s.unit h
  s.setUnit h { u with due := u.due.filter (fun x => x.input != d.input || x.diag != d.diag) ++ [d] }

/-- A scheduled job of an input that waits is given up; an urgent request stays (R406, R407). -/
def State.gaDrop (s : State) (h j : Nat) : State :=
  let u := s.unit h
  s.setUnit h { u with due := u.due.filter fun d => d.input != j || d.diag || d.rank == 0 }

/-- A running job is aborted: it waits to be restarted ahead of every non-urgent job (R409, R410). -/
def State.gaAbort (s : State) (h sl : Nat) (j : GJob) : State :=
  let s := (s.setJob h sl none).count (GA_ABORTED.N h)
  let s := s.gcourse h s.now fun c => { c with aborted := c.aborted + 1 }
  s.gaQueue h
    { input := j.input, due := s.now, rank := 1, restarts := j.restarts + 1, stepped := j.stepped, diag := j.diag }

/-- Whether a job may be aborted: neither urgent nor aborted twice already (R409, R410). -/
def GJob.abortable (j : GJob) : Bool := !j.urgent && decide (j.restarts < 2)

/-- Whether a full calibration of the unit runs (R407). -/
def State.fullCal (s : State) (h : Nat) : Bool := s.on (GA_STAT.MAINT h)

/-- An urgent request for an input (R408, R409). -/
def State.gaUrgent (s : State) (h j : Nat) : State :=
  match (s.gjobs h).find? fun x => x.2.input == j && !x.2.diag with
  | some (sl, x) => s.setJob h sl (some { x with urgent := true })
  | none =>
    let d : GDue := { input := j, due := s.now, rank := 0 }
    let s := s.setUnit h { s.unit h with due := (s.unit h).due.filter fun x => x.input != j || x.diag }
    match s.gaHeldBy h j false with
    | some (sl, x) =>
      if !x.abortable then s.gaQueue h d
      else
        let s := s.gaAbort h sl x
        -- a second source or pin may be held by another job
        match s.gaHeldBy h j false, s.freeSlices h with
        | none, f :: _ => s.gaStart h f d
        | _, _ => s.gaQueue h d
    | none =>
      match s.freeSlices h with
      | sl :: _ => s.gaStart h sl d
      | [] =>
        let old := (s.gjobs h).filter fun x => x.2.abortable && (s.converting h).contains x.1
        match old.foldl (fun (b : Option (Nat × GJob)) x => match b with
            | none => some x
            | some y => if y.2.order < x.2.order then some x else some y) none with
        | some (sl, x) => (s.gaAbort h sl x).gaStart h sl d
        | none => s.gaQueue h d

/-- Order of the waiting jobs: urgent, restarted or stepped, then by due time and input (R406, R409, R410).
(log 100: DEDUCED) -/
def GDue.before (a b : GDue) : Bool :=
  decide (a.rank < b.rank) || (a.rank == b.rank &&
    ((a.rank == 2 && (decide (a.due < b.due) || (a.due == b.due && decide (a.input < b.input)))) ||
     (a.rank == 0 && (decide (a.due < b.due) || (a.due == b.due && decide (a.input < b.input))))))

/-- The waiting job to start next: it needs no source or pin that is held, and during a full calibration it is urgent
(R406, R407). (log 100: DEDUCED) -/
def State.gaNext (s : State) (h : Nat) : Option GDue :=
  let ok := (s.unit h).due.filter fun d =>
    (s.gaHeldBy h d.input d.diag).isNone && (!s.fullCal h || d.rank == 0)
  ok.foldl (fun (b : Option GDue) d => match b with
    | none => some d
    | some e => if d.before e then some d else some e) none

/-- GAUGE_JOB_START (R406). (log 100: DEDUCED) -/
def execGaugeJobStart (h : Half) (s : State) : Out :=
  let h := h.val
  match s.freeSlices h, s.gaNext h with
  | sl :: _, some d =>
    let s := s.setUnit h { s.unit h with due := (s.unit h).due.erase d }
    .next (s.gaStart h sl d)
  | _, _ => .next s

/-- The period of an input in Tf (R406). -/
def State.gaPeriod (s : State) (h j : Nat) : Nat := usTf (10 * s.eff (GA_IN_P.PERIOD h j))

/-- GAUGE_DUE (R406 to R408): an enabled input falls due. -/
def execGaugeDue (h : Half) (j : GaugeInput) (s : State) : Out :=
  let h := h.val
  let j := j.val
  let x := s.ginput h j
  if !s.on (GA_STAT.ACTIVE h) || !x.admitted then .next s
  else
    let s := s.advance x.nextDue
    let s := s.setInput h j { x with nextDue := x.nextDue + max 1 (s.gaPeriod h j) }
    let urgent := s.effOn (GA_IN_A.URGENT h j)
    let waits := (s.unit h).due.find? fun d => d.input == j && !d.diag
    let s := if waits.isSome then s.gaMiss h else s
    if (s.fullCal h && !urgent) || s.mg.frozen then
      .next ((s.gaDrop h j).gaMiss h)
    else if urgent then .next (s.gaUrgent h j)
    else
      -- an urgent request that waits stays urgent
      let rank := match waits with
        | some d => if d.rank = 0 then 0 else 2
        | none => 2
      .next (s.gaQueue h { input := j, due := x.nextDue, rank := rank })

/-! ## Phases and conversions (R398) -/

/-- A field of GA_IN_A or GA_IN_B as a job's settings have it. -/
def jobField (v : U32) (f : Field) : Nat := bits v.toNat f.lo f.w

/-- Conversions of a job: 2^AVG, and one for a diagnostic job (R398, R416). -/
def GJob.convs (j : GJob) : Nat := if j.diag then 1 else 2 ^ jobField j.cfgA (GA_IN_A.AVG 0 0)

/-- GAUGE_CONVERSION_DONE (R398): one more conversion of 4 µs. (log 13: DESIGN CHOICE) -/
def execGaugeConversionDone (h : Half) (sl : Slice) (raw : U32) (s : State) : Out :=
  let h := h.val
  match s.gjob h sl.val with
  | none => .next s
  | some j =>
    if j.phase != 2 || j.diag || decide (j.convs ≤ j.raws.length) then .next s
    else
      let s := s.advance (j.sample + usTf (4 * (j.raws.length + 1)))
      let s := s.count (GA_CONV.N h)
      .next (s.setJob h sl.val (some { j with raws := j.raws ++ [raw.toInt] }))

/-! ## Readings (R411 to R420, R422) -/

/-- Words 1 and 2 of a GAUGE record (R420). -/
def gaugeHead (c : GCourse) (skipped : Nat) (last : Bool) : List Word :=
  let sat := min 0xFFFF
  [mkWord [(0, 64, stamp c.dCourse), (64, 16, c.entries.length), (80, 8, c.partNo), (88, 1, b2n last),
      (89, 1, b2n c.start), (90, 1, b2n c.part), (91, 1, b2n c.maint), (92, 1, b2n c.degraded),
      (96, 32, min 0xFFFFFFFF skipped)],
   mkWord [(0, 16, sat c.missed), (16, 16, sat c.aborted), (32, 16, sat c.excf), (48, 16, sat c.opens),
      (64, 16, sat c.compl), (80, 16, sat c.lost)]]

/-- A unit's record of a course is written, with the entries gathered so far (R419, R420). -/
def State.emitGauge (s : State) (h : Nat) (c : GCourse) (last : Bool) : State :=
  let u := s.unit h
  let body := gaugeHead c u.skipped last ++ c.entries.map fun e => BitVec.ofNat 128 e
  let s := s.setUnit h { u with skipped := 0, held := 0 }
  s.emit (612 + h) typeGauge (0x5000 + h) c.epoch c.course body (s.qualitySince c.dCourse) (s.eff (GA_Q.N h))
    c.start (c.final && last) true

/-- A reading's entry joins the record of the course of its sample instant; while the queue is at its limit or the
region waits, 64 readings are buffered and further ones are lost (R419, R422). -/
def State.gaEntry (s : State) (h t : Nat) (e : Nat → Nat) : State :=
  let refuses := s.writerRefuses (612 + h) (s.eff (GA_Q.N h))
  if refuses ∧ 64 ≤ (s.unit h).held then
    (s.count (GA_LOST.N h)).gcourse h t fun c => { c with lost := c.lost + 1 }
  else
    let s := s.setUnit h { s.unit h with held := if refuses then (s.unit h).held + 1 else 0 }
    let s := s.gcourse h t fun c => { c with entries := c.entries ++ [e c.dCourse] }
    -- a full record continues with the next part
    match (s.unit h).courses.find? fun c => decide (2045 ≤ c.entries.length) with
    | some c =>
      if refuses then s
      else
        let s := s.emitGauge h c false
        s.setUnit h { s.unit h with courses := (s.unit h).courses.map fun (d : GCourse) =>
          if d.epoch = c.epoch ∧ d.course = c.course then { d with entries := [], partNo := d.partNo + 1 } else d }
    | none => s

/-- Mean of the conversions made, in 10 nV; what the mean of several rounds to is not stated, and so is the RAW of a
job that made none (R398, R420). (log 102: DEDUCED) -/
def State.gaMean (s : State) (rs : List Int) : Int × State :=
  let n : Int := rs.length
  if rs.isEmpty then
    let (r, s) := s.draw
    (toSigned 32 r, s)
  else
    let sum := rs.foldl (· + ·) 0
    if sum % n = 0 then (sum / n, s)
    else
      let (r, s) := s.draw
      (sum / n + (r % 2 : Nat), s)

/-- The reading that a thermocouple or strain input refers to (R413): its value, none when it is bad or too old. -/
def State.gaRef (s : State) (h j curve : Nat) : Option Int :=
  let r := if curve = 8 then s.eff (GA_IN_B.REFIN h j) else s.eff (GA_IN_A.CJ h j)
  let x := s.ginput h r
  if x.lastBad || decide (x.lastAt + 2 * s.gaPeriod h r < s.now) then none else some x.lastT

/-- The hottest of the latest valid diode readings, in 0.001 °C (R486). -/
def State.hottest (s : State) : Option Int :=
  ([(0, 16), (0, 17), (1, 16), (1, 17)].filterMap fun x =>
    let i := s.ginput x.1 x.2
    if i.lastBad then none else some i.lastT).foldl (fun (b : Option Int) t => match b with
      | none => some t
      | some u => some (max t u)) none

/-- Counter of the powered seconds at a temperature (R486). -/
def diodeBin : Option Int → Nat
  | none => 0x18
  | some t =>
    if t < 25000 then 0x10 else if t < 45000 then 0x11 else if t < 65000 then 0x12 else if t < 85000 then 0x13
    else if t < 105000 then 0x14 else if t < 115000 then 0x15 else if t < 125000 then 0x16 else 0x17

/-- The powered seconds that have passed are counted, in all and by the hottest diode (R486). -/
def State.countSeconds (s : State) : State :=
  let n := s.seconds - s.mg.binnedTo
  if n = 0 then s
  else
    let s := (s.tally 0x0000 n).tally (diodeBin s.hottest) n
    { s with mg := { s.mg with binnedTo := s.seconds } }

/-- A bit of an input's alarms follows the latest valid reading (R418). (log 101: DEDUCED) -/
def State.gaAlarm (s : State) (h j : Nat) (f : Field) (on : Bool) : State :=
  let was := s.on f
  let s := s.wr f (b2n on)
  if on && !was then s.inputNote h j (GA_EVT.ALARM h) else s

/-- The latest valid reading of an input: alarms, the temperature warning, and the dose estimate (R418, R486). -/
def State.gaValid (s : State) (h j : Nat) (v : Int) : State :=
  let lo := decide (v < (s.reg (Addr.GA_IN_LO h j)).toInt)
  let hi := decide ((s.reg (Addr.GA_IN_HI h j)).toInt < v)
  let s := (s.gaAlarm h j (GA_IN_STAT.ALARM_LO h j) lo).gaAlarm h j (GA_IN_STAT.ALARM_HI h j) hi
  let s := if (j = 16 ∨ j = 17) ∧ (s.rd (GA_TWARN.DEG h) : Int) * 1000 ≤ v then s.flag (GA_EVT.TWARN h) else s
  if j = 19 then s.setTally (0x20 + h) (max (s.tallyOf (0x20 + h)) v.toNat) else s

/-- A reading is completed: linearised, checked, and entered (R411 to R420). `fault` and `compl` are the monitor's
conditions (R414). (log 101: DEDUCED) -/
def State.gaReading (s : State) (h sl : Nat) (x : GJob) (fault compl : Bool) : State :=
  let j := x.input
  let s := s.countSeconds
  let (raw, s) := s.gaMean x.raws
  let curve := if j < 16 then jobField x.cfgA (GA_IN_A.CURVE 0 0) else s.gaCurve h j
  let src := if j < 16 then jobField x.cfgB (GA_IN_B.SRC 0 0) else 8
  let opened := s.on (GA_IN_STAT.OPEN h j)
  let dep := decide (3 ≤ curve) && decide (curve ≤ 6) || curve == 8
  let ref := if dep then s.gaRef h j curve else some 0
  let poisoned := fault || opened
  let bad := poisoned || compl || ref.isNone
  let pA := if src < 8 then s.rd (GA_SRC_CAL.PA h (8 * src + x.code)) else 0
  let set := jobField x.cfgA (GA_IN_A.COEF 0 0)
  let coefs := (List.range 4).map fun i => s.effReg (Addr.GA_COEF h (4 * set + i))
  let (v, out) := if bad then (gaNoValue, false)
    else linearise curve (jobField x.cfgA (GA_IN_A.RANGE 0 0)) raw pA coefs (ref.getD 0)
  let stale := decide ((Tab.get 0 (s.unit h).calAt sl) + 4 * s.eff (GA_CFG.ROT h) * usTf 100000 < s.now)
  let lo := !bad && decide (v < (s.reg (Addr.GA_IN_LO h j)).toInt)
  let hi := !bad && decide ((s.reg (Addr.GA_IN_HI h j)).toInt < v)
  let exc := decide (src < 8)
  let at_ := if x.phase = 2 then x.sample else s.now
  let (ofs, s) := if x.phase = 2 then ((none : Option Nat), s)
    else let (r, s) := s.draw; (some (r % 2 ^ 32), s)
  let word := fun (dc : Nat) =>
    (mkWord [(0, 32, ofs.getD ((at_ - dc) / tcTf)), (32, 5, j), (37, 4, curve), (41, 3, sl),
      (44, 3, if exc then x.code else 0), (47, 1, b2n x.urgent), (48, 1, b2n (decide (0 < x.restarts))),
      (49, 1, b2n opened), (50, 1, b2n fault), (51, 1, b2n compl), (52, 1, b2n x.stepped), (53, 1, b2n lo),
      (54, 1, b2n hi), (55, 1, b2n out), (56, 1, b2n poisoned), (57, 1, b2n stale), (58, 1, b2n ref.isNone),
      (59, 1, b2n exc), (64, 32, ofSigned 32 v), (96, 32, ofSigned 32 raw)]).toNat
  let s := s.wr (GA_IN_LAST.VALUE h j) (ofSigned 32 v)
  let s := s.wr (GA_IN_RAW.V h j) (ofSigned 32 raw)
  let s := s.wr (GA_IN_STAT.EXC_FAULT h j) (b2n fault)
  let s := s.setInput h j { s.ginput h j with lastAt := s.now, lastBad := bad, lastT := v }
  let s := if bad then s else s.gaValid h j v
  s.gaEntry h at_ word

/-- After an input's job: the job count, and the diagnostic job that follows on the same slice when it is due
(R416). -/
def State.gaAfter (s : State) (h sl : Nat) (x : GJob) : State :=
  let j := x.input
  let i := s.ginput h j
  let s := s.setInput h j { i with jobs := i.jobs + 1 }
  let every := s.eff (GA_CFG.OW_EVERY h)
  let due := j < 16 && s.effOn (GA_IN_A.OW h j) &&
    (s.on (GA_IN_STAT.OPEN h j) || (every != 0 && (i.jobs + 1) % every == 0))
  if due then s.gaStart h sl { input := j, due := s.now, rank := 2, diag := true } else s.setJob h sl none

/-- A job stops at its compliance limit: the code goes down by one and the job is tried once more (R415). -/
def State.gaStepDown (s : State) (h : Nat) (x : GJob) : State :=
  if !s.effOn (GA_CFG.STEP_DOWN h) || x.code == 0 || x.stepped then s
  else
    let s := s.wr (GA_IN_STAT.IEXC_NOW h x.input) (x.code - 1)
    let s := (s.wr (GA_IN_STAT.STEPPED h x.input) 1).flag (GA_EVT.STEPPED h)
    s.gaQueue h { input := x.input, due := s.now, rank := 1, restarts := x.restarts, stepped := true }

/-- A job of an input ends with its reading. -/
def State.gaJobEnd (s : State) (h sl : Nat) (x : GJob) (compl : Bool) : State :=
  let s := if compl then
      ((s.count (GA_COMPL.N h)).inputNote h x.input (GA_EVT.COMPLIANCE h)).gcourse h x.sample
        fun c => { c with compl := c.compl + 1 }
    else s
  let s := s.gaReading h sl x false compl
  let s := if compl then s.gaStepDown h x else s
  s.gaAfter h sl x

/-- An excitation fault ends a job that uses a source (R414). -/
def State.gaFault (s : State) (h sl : Nat) (x : GJob) : State :=
  let s := (s.count (GA_EXCF.N h)).inputNote h x.input (GA_EVT.EXC_FAULT h)
  let s := s.gcourse h (if x.phase = 2 then x.sample else s.now) fun c => { c with excf := c.excf + 1 }
  (s.gaReading h sl x true false).gaAfter h sl x

/-- Whether a job uses a source (R398). -/
def GJob.excited (x : GJob) : Bool :=
  !x.diag && decide (x.input < 16) && decide (jobField x.cfgB (GA_IN_B.SRC 0 0) < 8)

/-- A job goes on, unless it uses a source while VEXC is low: then it ends as EXC_FAULT (R414, R532). -/
def State.gaGoOn (s : State) (h sl : Nat) (x : GJob) (f : State → State) : State :=
  if x.excited && !s.pins.vexcOk then s.gaFault h sl x else f s

/-- GAUGE_PHASE_END (R398): switching ends after 5 µs, settling after 10·SETTLE µs; the first conversion starts.
(log 100: DEDUCED) -/
def execGaugePhaseEnd (h : Half) (sl : Slice) (s : State) : Out :=
  let h := h.val
  match s.gjob h sl.val with
  | none => .next s
  | some j =>
    if j.phase = 0 then
      let s := s.advance (j.started + usTf 5)
      .next (s.gaGoOn h sl.val j fun s => s.setJob h sl.val (some { j with phase := 1 }))
    else if j.phase = 1 then
      let settle := if j.input < 16 then jobField j.cfgB (GA_IN_B.SETTLE 0 0) else 0
      let s := s.advance (j.started + usTf (5 + 10 * settle))
      .next (s.gaGoOn h sl.val j fun s => s.setJob h sl.val (some { j with phase := 2, sample := s.now }))
    else .next s

/-- GAUGE_JOB_END (R398): the last conversion of a job is made. A job without a source meets no compliance limit. -/
def execGaugeJobEnd (h : Half) (sl : Slice) (compliance : Bool) (s : State) : Out :=
  let h := h.val
  match s.gjob h sl.val with
  | none => .next s
  | some x =>
    if x.phase != 2 || x.diag || decide (x.raws.length < x.convs) then .next s
    else .next (s.gaGoOn h sl.val x fun s => s.gaJobEnd h sl.val x (compliance && x.excited))

/-- GAUGE_EXC_FAULT (R414). -/
def execGaugeExcFault (h : Half) (sl : Slice) (s : State) : Out :=
  let h := h.val
  match s.gjob h sl.val with
  | none => .next s
  | some x =>
    .next (if x.excited then s.gaFault h sl.val x else s)

/-- Positive full scale of an input range, in 10 nV (R397). -/
def fullScale (range : Nat) : Int := if range = 0 then 250000000 else if range = 1 then 31250000 else 3906250

/-- GAUGE_DIAG_END (R416): the input is open above 90 % of positive full scale. -/
def execGaugeDiagEnd (h : Half) (sl : Slice) (raw : U32) (s : State) : Out :=
  let h := h.val
  match s.gjob h sl.val with
  | none => .next s
  | some x =>
    if x.phase != 2 || !x.diag then .next s
    else
      let j := x.input
      let s := ((s.advance (x.sample + usTf 4)).count (GA_CONV.N h)).setJob h sl.val none
      let opened := decide (9 * fullScale (jobField x.cfgA (GA_IN_A.RANGE 0 0)) < 10 * raw.toInt)
      let was := s.on (GA_IN_STAT.OPEN h j)
      let s := s.wr (GA_IN_STAT.OPEN h j) (b2n opened)
      if opened && !was then
        let s := (s.count (GA_OPENS.N h)).inputNote h j (GA_EVT.OPEN h)
        .next (s.gcourse h s.now fun c => { c with opens := c.opens + 1 })
      else .next s

/-! ## Urgent requests (R408, R409) -/

/-- A write of GA_URGENT (R408, R425, R512). -/
def writeUrgent (path : Path) (h data : Nat) (s : State) : Status × State :=
  s.mgmtOnly path (bitAt data 31) fun s =>
    let j := data % 32
    (.done, if bitAt data 31 && s.on (GA_STAT.ACTIVE h) && (s.ginput h j).admitted then s.gaUrgent h j else s)

/-- GA_URGENT_GO (R409). -/
def execGaUrgentGo (path : Path) (h : Half) (data : U32) (s : State) : Out :=
  s.writeRow path (Addr.GA_URGENT h.val) (writeUrgent path h.val data.toNat)

/-- GAUGE_URGENT (R408, R464). -/
def dirGaugeUrgent (d : Dir) (s : State) : State :=
  let h := d.data % 2
  let j := bits d.data 8 5
  s.dirCheck d (d.data == h + j * 256 && decide (j < 28)) fun s =>
    if !s.on (GA_STAT.ACTIVE h) then s.dirWrong d (Addr.GA_STAT h)
    else if !(s.ginput h j).admitted then s.dirWrong d (Addr.GA_IN_A h j)
    else (s.gaUrgent h j).dirDone d 0

/-- GAUGE_URGENT (R408). -/
def execGaugeUrgent (r : DirReq) (s : State) : Out := .next (s.directive 0x0C r noArgs dirGaugeUrgent)

/-- GAUGE_TWARN_CROSS (R408): the warning comparator of input 16 or 17 requests that input. -/
def execGaugeTwarnCross (h : Half) (second : Bool) (s : State) : Out :=
  let j := if second then 17 else 16
  .next (if s.on (GA_STAT.ACTIVE h) && (s.ginput h j).admitted then s.gaUrgent h j else s)

/-! ## Slices and calibration (R403 to R405, R407) -/

/-- The next healthy slice in turn after `i` (R404). -/
def State.nextSlice (s : State) (h i : Nat) : Option Nat :=
  ((List.range 4).map fun n => (i + 1 + n) % 5).find? fun k => (s.healthy h).contains k

/-- CAL_SLICE: the slice to calibrate, 7 for none (R425). -/
def State.setCalSlice (s : State) (h : Nat) (i : Option Nat) : State :=
  let s := s.setUnit h { s.unit h with calDone := false, calRetry := false }
  (s.wr (GA_STAT.CAL_SLICE h) (if (s.healthy h).length < 2 then 7 else i.getD 7)).syncBusy h

/-- Every open course of a unit with fewer than four converting slices is flagged (R405). -/
def State.gaDegrade (s : State) (h : Nat) : State :=
  if (s.converting h).length < 4 then
    s.gcourse h s.now fun c => { c with degraded := true }
  else s

/-- The calibrating slice is declared faulty (R404). -/
def State.sliceFault (s : State) (h i : Nat) : State :=
  let s := s.wr (GA_STAT.SLICE_FAULT h) (Nat.lor (s.rd (GA_STAT.SLICE_FAULT h)) (2 ^ i))
  let s := (s.gaugeNote h (GA_EVT.SLICE_FAULT h)).setCalSlice h (s.nextSlice h i)
  let s := if (s.healthy h).length < 2 then s.gaugeNote h (GA_EVT.SLICES_OUT h) else s
  s.gaDegrade h

/-- SLICE_CAL_DONE (R403, R404): accepted; or repeated once, and then the slice is faulty. (log 13: DESIGN CHOICE) -/
def execSliceCalDone (h : Half) (ok : Bool) (gainChangePpm : Nat) (s : State) : Out :=
  let h := h.val
  let i := s.rd (GA_STAT.CAL_SLICE h)
  let u := s.unit h
  if 5 ≤ i ∨ s.fullCal h then .next s
  else if ok then
    let s := (s.setUnit h { u with calAt := Tab.set 0 u.calAt i s.now, calDone := true, calRetry := false })
    let id := 0x610 + 5 * h + i
    .next ((s.count (GA_CALS.N h)).setTally id (max (s.tallyOf id) gainChangePpm))
  else if u.calRetry then .next (s.sliceFault h i)
  else .next (s.setUnit h { u with calRetry := true })

/-- SLICE_ROTATION (R403): the freshly calibrated slice changes place with the converting slice whose calibration is
oldest, once that slice has no job. -/
def execSliceRotation (h : Half) (s : State) : Out :=
  let h := h.val
  let u := s.unit h
  let oldest := (s.converting h).foldl (fun (b : Option Nat) i => match b with
    | none => some i
    | some k => if Tab.get 0 u.calAt i < Tab.get 0 u.calAt k then some i else some k) none
  match oldest with
  | none => .next s
  | some o => if !u.calDone || (s.gjob h o).isSome then .next s else .next (s.setCalSlice h (some o))

/-- A full calibration of a unit begins (R407); `id` is its activity. -/
def State.beginFullCal (s : State) (h : Nat) (id : Nat) : State :=
  let u := s.unit h
  let s := s.setUnit h { u with fullCal := some (id + 1), calRetry := false, calDone := false
                                courses := u.courses.map fun (c : GCourse) => { c with maint := true } }
  s.wr (GA_STAT.MAINT h) 1

/-- A full calibration as a maintenance activity (R407, R495): refused for a unit not admitted (R457). -/
def State.startFullCal (s : State) (h : Nat) : Grant × State :=
  if !s.on (GA_STAT.ACTIVE h) then s.regRefused 0xE0 h
  else
    match s.register 7 [(3, h, h)] (unitId 9 h) with
    | (.id n, s) => (.id n, s.beginFullCal h n)
    | g => g

/-- A write of GA_FULLCAL (R407, R425, R512). -/
def writeFullcal (path : Path) (h data : Nat) (s : State) : Status × State :=
  s.mgmtOnly path (bitAt data 0) fun s => (.done, if bitAt data 0 then (s.startFullCal h).2 else s)

/-- GA_FULLCAL_START (R407). -/
def execGaFullcalStart (path : Path) (h : Half) (data : U32) (s : State) : Out :=
  s.writeRow path (Addr.GA_FULLCAL h.val) (writeFullcal path h.val data.toNat)

/-- GAUGE_CAL (R407, R464). -/
def dirGaugeCal (d : Dir) (s : State) : State :=
  s.dirCheck d (decide (d.data < 2)) fun s => State.dirGrant d (s.startFullCal d.data)

/-- GAUGE_CAL (R407). -/
def execGaugeCal (r : DirReq) (s : State) : Out := .next (s.directive 0x0B r noArgs dirGaugeCal)

/-- What a full calibration measured is taken (R401, R404, R407). -/
def State.applyUnitCal (s : State) (u : UnitCal) : State :=
  let h := u.unit.val
  let s := s.wr (GA_STAT.SLICE_FAULT h) u.failed.toNat
  let s := s.each u.pA fun s x => s.wr (GA_SRC_CAL.PA h x.1.val) x.2.toNat
  let y := s.unit h
  let s := s.setUnit h { y with calAt := (s.healthy h).foldl (fun t i => Tab.set 0 t i s.now) y.calAt }
  let i := s.rd (GA_STAT.CAL_SLICE h)
  let s := s.setCalSlice h (if (s.healthy h).contains i then some i else s.nextSlice h (i % 5))
  if u.failed = 0 then s else s.gaDegrade h

/-- GAUGE_FULLCAL_DONE (R407). -/
def execGaugeFullcalDone (u : UnitCal) (s : State) : Out :=
  let h := u.unit.val
  match (s.unit h).fullCal with
  | none => .next s
  | some k =>
    let s := (s.applyUnitCal u).setUnit h { (s.applyUnitCal u).unit h with fullCal := none }
    let s := (s.wr (GA_STAT.MAINT h) 0).flag (GA_EVT.CAL_DONE h)
    .next <| match s.act (k - 1) with
      | some a => s.endAct a h (Addr.GA_EVT h) (GA_EVT.CAL_DONE h).lo [] 0
      | none => s

/-! ## GAUGE records (R419 to R421) -/

/-- Whether a course of a unit writes a record (R419). -/
def GCourse.wanted (c : GCourse) : Bool :=
  !c.entries.isEmpty || c.partNo != 0 || c.start || c.part || c.maint ||
  decide (0 < c.missed + c.aborted + c.excf + c.opens + c.compl + c.lost)

/-- The BREAK record of the oldest open course, once no record of the old epoch is to come (R61). (log 22: DEDUCED) -/
def State.gaBreak (s : State) (h : Nat) : State :=
  match (s.unit h).courses with
  | [] => s
  | c :: cs =>
    let s := s.setUnit h { s.unit h with courses := { c with brk := [] } :: cs }
    s.emitBreak (612 + h) (0x5000 + h) (s.eff (GA_Q.N h)) c.epoch c.dCourse c.brk

/-- The oldest open course of a unit closes (R419). -/
def State.closeGauge (s : State) (h : Nat) : State :=
  match (s.unit h).courses with
  | [] => s
  | c :: cs =>
    let s := s.setUnit h { s.unit h with courses := cs }
    let s := if c.wanted then s.emitGauge h c true
      else s.setUnit h { s.unit h with skipped := (s.unit h).skipped + 1 }
    s.gaBreak h

/-- A course opens on a unit in service (R419). -/
def State.openGauge (s : State) (h key : Nat) (start : Bool) (brk : List Word) : State :=
  let u := s.unit h
  let c : GCourse :=
    { course := keyCourse key, epoch := keyEpoch key, dCourse := s.keyStart key, start := start,
      maint := s.fullCal h, degraded := decide ((s.converting h).length < 4), brk := brk }
  let s := s.setUnit h { u with courses := u.courses ++ [c] }
  if u.courses.isEmpty then s.gaBreak h else s

/-- GAUGE_RECORD_CLOSE (R419, R422): the oldest course that has ended closes once no job with its sample instant in it
runs, and the queue can take its record. -/
def execGaugeRecordClose (h : Half) (s : State) : Out :=
  let h := h.val
  match (s.unit h).courses with
  | [] => .next s
  | c :: cs =>
    let runs := (s.gjobs h).any fun x =>
      x.2.phase == 2 && !x.2.diag && decide (c.dCourse ≤ x.2.sample) &&
        (match cs.head? with
          | some d => decide (x.2.sample < d.dCourse)
          | none => true)
    let open_ := cs.isEmpty && !c.final
    if open_ || runs || (c.wanted && s.writerRefuses (612 + h) (s.eff (GA_Q.N h))) then .next s
    else .next (s.closeGauge h)

/-- Inputs of a unit that are admitted begin their schedule at the boundary (R406, R421). -/
def State.admitInput (s : State) (h j : Nat) : State :=
  s.setInput h j { s.ginput h j with admitted := true, nextDue := s.time.courseAt }

/-- An input leaves service at a boundary (R421): its waiting jobs with it. -/
def State.retireInput (s : State) (h j : Nat) : State :=
  let u := s.unit h
  (s.setInput h j { s.ginput h j with admitted := false }).setUnit h
    { (s.setInput h j { s.ginput h j with admitted := false }).unit h with due := u.due.filter fun d => d.input != j }

/-- A unit enters service at a boundary, with its enabled inputs (R421). -/
def State.gaugeIn (s : State) (h : Nat) : State :=
  let s := s.flag (GA_STAT.ACTIVE h)
  s.each ((List.range 28).filter fun j => s.on (GA_IN_A.EN h j)) fun s j => s.admitInput h j

/-- A unit leaves service at a boundary: the course that ends is its last (R421). -/
def State.gaugeOut (s : State) (h : Nat) : State :=
  let s := (s.wr (GA_STAT.ACTIVE h) 0).each (List.range 28) fun s j => s.retireInput h j
  let u := s.unit h
  match u.courses.reverse with
  | c :: cs => s.setUnit h { u with courses := (({ c with final := true } : GCourse) :: cs).reverse }
  | [] => s

/-- What a unit reset leaves of a unit (R48, R423): jobs abandoned, the open course closed partial, a full calibration
begun; an admitted unit returns at the next course boundary. -/
def State.resetGauge (s : State) (h : Nat) : State :=
  let was := s.on (GA_STAT.ACTIVE h)
  let s := s.wr (GA_STAT.ACTIVE h) 0
  let u := s.unit h
  let s := s.setUnit h { u with jobs := [], due := [], courses := u.courses.map fun (c : GCourse) => { c with part := true } }
  let s := s.each (List.range u.courses.length) fun s _ => s.closeGauge h
  let s := s.setUnit h { s.unit h with returning := was, held := 0, skipped := 0 }
  let s := (s.setWriter (612 + h) { s.writer (612 + h) with seq := 0 }).syncBusy h
  match s.register 7 [(3, h, h)] (unitId 9 h) with
  | (.id n, s) => s.beginFullCal h n
  | (.refused _ _, s) => s.beginFullCal h 0

/-! ## Enable writes (R421) -/

/-- A write of GA_CTRL (R421, R425). -/
def writeGaCtrl (h data : Nat) (s : State) : Status × State :=
  s.reqEnable 9 h (GA_CTRL.EN h) data fun s => s.codeWrite (Addr.GA_CTRL h) data

/-- GA_EN_WRITE (R421). -/
def execGaEnWrite (path : Path) (h : Half) (data : U32) (s : State) : Out :=
  s.writeRow path (Addr.GA_CTRL h.val) (writeGaCtrl h.val data.toNat)

/-- A write's data with the fixed fields of an internal input left as they are: only EN and AVG are writable in
GA_IN_A (R396). (log 101: DEDUCED) -/
def State.gaInData (s : State) (h j data : Nat) : Nat :=
  if j < 16 then data
  else
    let old := (s.reg (Addr.GA_IN_A h j)).toNat
    setBits (setBits old 0 1 (bits data 0 1)) 23 3 (bits data 23 3)

/-- A write of GA_IN_A (R396, R421): the enable bit goes through its check, the rest acts at the next boundary. -/
def writeGaInA (h j data : Nat) (s : State) : Status × State :=
  let data := s.gaInData h j data
  s.reqEnable 10 (32 * h + j) (GA_IN_A.EN h j) data fun s => s.codeStage (Addr.GA_IN_A h j) data

/-- GA_INPUT_EN_WRITE (R421). -/
def execGaInputEnWrite (path : Path) (h : Half) (j : GaugeInput) (data : U32) (s : State) : Out :=
  s.writeRow path (Addr.GA_IN_A h.val j.val) (writeGaInA h.val j.val data.toNat)

/-- The code of GA_IN_B comes into force, at once outside RUN and else at the boundary of its write (R415, R421). -/
def State.syncIexc (s : State) (h j : Nat) : State :=
  (s.wr (GA_IN_STAT.IEXC_NOW h j) (s.rd (GA_IN_B.IEXC h j))).wr (GA_IN_STAT.STEPPED h j) 0

/-- A write of GA_IN_B (R396, R415, R421): ignored for an internal input; the code in force is again the one written,
from the boundary at which the write acts. -/
def writeGaInB (h j data : Nat) (s : State) : Status × State :=
  if 16 ≤ j then (.ignored, s)
  else
    let (st, s) := s.codeStage (Addr.GA_IN_B h j) data
    (st, if s.running then s else s.syncIexc h j)

/-- A write of GA_CFG (R425): a ROT of 0 is ignored; the rest acts at the next boundary. -/
def writeGaCfg (h data : Nat) (s : State) : Status × State :=
  if data % 256 = 0 then (.ignored, s) else s.codeStage (Addr.GA_CFG h) data

end Sys2Proof.Machine
end

