-- ==== Sys2Proof/Machine/Image.lean ====
section
/-! DEFINITION. The underlay image byte by byte: header, section table, sections, and the checks of a copy
(R430 to R444). -/

namespace Sys2Proof.Machine

/-! ## SHA-256 (R432) -/

/-- Round constants 0 to 31. -/
def sha256.ka : List Nat :=
  [0x428A2F98, 0x71374491, 0xB5C0FBCF, 0xE9B5DBA5, 0x3956C25B, 0x59F111F1, 0x923F82A4, 0xAB1C5ED5,
   0xD807AA98, 0x12835B01, 0x243185BE, 0x550C7DC3, 0x72BE5D74, 0x80DEB1FE, 0x9BDC06A7, 0xC19BF174,
   0xE49B69C1, 0xEFBE4786, 0x0FC19DC6, 0x240CA1CC, 0x2DE92C6F, 0x4A7484AA, 0x5CB0A9DC, 0x76F988DA,
   0x983E5152, 0xA831C66D, 0xB00327C8, 0xBF597FC7, 0xC6E00BF3, 0xD5A79147, 0x06CA6351, 0x14292967]

/-- Round constants 32 to 63. -/
def sha256.kb : List Nat :=
  [0x27B70A85, 0x2E1B2138, 0x4D2C6DFC, 0x53380D13, 0x650A7354, 0x766A0ABB, 0x81C2C92E, 0x92722C85,
   0xA2BFE8A1, 0xA81A664B, 0xC24B8B70, 0xC76C51A3, 0xD192E819, 0xD6990624, 0xF40E3585, 0x106AA070,
   0x19A4C116, 0x1E376C08, 0x2748774C, 0x34B0BCB5, 0x391C0CB3, 0x4ED8AA4A, 0x5B9CCA4F, 0x682E6FF3,
   0x748F82EE, 0x78A5636F, 0x84C87814, 0x8CC70208, 0x90BEFFFA, 0xA4506CEB, 0xBEF9A3F7, 0xC67178F2]

/-- Initial hash value. -/
def sha256.h0 : List U32 :=
  [0x6A09E667, 0xBB67AE85, 0x3C6EF372, 0xA54FF53A, 0x510E527F, 0x9B05688C, 0x1F83D9AB, 0x5BE0CD19]

/-- Right rotation of 32 bits. -/
def rotr (x : U32) (n : Nat) : U32 := x.rotateRight n

/-- The message schedule from the 16 words of a block, latest first. -/
def sha256.sched (ws : List U32) : List U32 :=
  (List.range 48).foldl (fun (w : List U32) _ =>
    let a := w.getD 1 0
    let b := w.getD 14 0
    let s1 := rotr a 17 ^^^ rotr a 19 ^^^ (a >>> 10)
    let s0 := rotr b 7 ^^^ rotr b 18 ^^^ (b >>> 3)
    (s1 + w.getD 6 0 + s0 + w.getD 15 0) :: w) ws.reverse

/-- One round: the eight working values, the round constant and the schedule word. -/
def sha256.round (v : List U32) (kw : U32 × U32) : List U32 :=
  let g := fun i => v.getD i 0
  let t1 := g 7 + (rotr (g 4) 6 ^^^ rotr (g 4) 11 ^^^ rotr (g 4) 25)
    + ((g 4 &&& g 5) ^^^ (~~~(g 4) &&& g 6)) + kw.1 + kw.2
  let t2 := (rotr (g 0) 2 ^^^ rotr (g 0) 13 ^^^ rotr (g 0) 22)
    + ((g 0 &&& g 1) ^^^ (g 0 &&& g 2) ^^^ (g 1 &&& g 2))
  [t1 + t2, g 0, g 1, g 2, g 3 + t1, g 4, g 5, g 6]

/-- The number in bytes that stand most significant first. -/
def beNat (bs : List Nat) : Nat := bs.foldl (fun n b => 256 * n + b) 0

/-- One block of 64 bytes. -/
def sha256.block (h : List U32) (bs : List Nat) : List U32 :=
  let ws := (List.range 16).map fun i => BitVec.ofNat 32 (beNat ((bs.drop (4 * i)).take 4))
  let ks := (sha256.ka ++ sha256.kb).map (BitVec.ofNat 32)
  let v := (ks.zip (sha256.sched ws).reverse).foldl sha256.round h
  h.zipWith (fun a b => a + b) v

/-- Blocks from the front of padded bytes. -/
def sha256.blocks : Nat → List U32 → List Nat → List U32
  | 0, h, _ => h
  | n + 1, h, bs => sha256.blocks n (sha256.block h (bs.take 64)) (bs.drop 64)

/-- The digest of bytes, 32 bytes. -/
def sha256 (bs : List Nat) : List Nat :=
  let len := bs.length
  let pad := (119 - len % 64) % 64
  let tail := 0x80 :: List.replicate pad 0 ++ (List.range 8).map fun i => bits (8 * len) (56 - 8 * i) 8
  let h := sha256.blocks ((len + pad + 9) / 64) sha256.h0 (bs ++ tail)
  h.flatMap fun (x : U32) => (List.range 4).map fun i => bits x.toNat (24 - 8 * i) 8

/-! ## Bytes (R428, R430) -/

/-- `n` bytes from byte `a` of an image memory; a byte not listed is erased. -/
def imgBytes : List Host.Cell → Nat → Nat → List Nat
  | [], _, n => List.replicate n 0xFF
  | (k, v) :: t, a, n =>
    if k < a then imgBytes t a n
    else if k < a + n then List.replicate (k - a) 0xFF ++ v.toNat :: imgBytes t (k + 1) (a + n - k - 1)
    else List.replicate n 0xFF

/-- The little-endian number of `n` bytes at offset `o` (R430). -/
def leAt (bs : List Nat) (o n : Nat) : Nat := ((bs.drop o).take n).reverse.foldl (fun x b => 256 * x + b) 0

/-- Whether every byte is zero. -/
def zeros (bs : List Nat) : Bool := bs.all (· == 0)

/-- The bytes of one copy: true for copy B (R428). (log 4: PRESUMED) -/
def State.imgMem (s : State) (b : Bool) : List Host.Cell := if b then s.boot.imgB else s.boot.imgA

/-- An outcome of R444 and its section. -/
abbrev ImgErr := Nat × Nat

/-- A copy's header (R430). -/
structure ImgHead where
  seq : Nat
  length : Nat
  nsect : Nat
deriving DecidableEq, Repr

/-- A copy's header, or why it is not valid (R430, R442, R444). (log 103: DEDUCED) -/
def imgHead (ident : Nat) (bs : List Nat) : Except ImgErr ImgHead :=
  let len := leAt bs 0x0C 4
  let n := leAt bs 0x10 2
  if leAt bs 0 4 ≠ 0x4B42554C then .error (1, 0)
  else if leAt bs 0x3C 4 ≠ crc32c (bs.take 0x3C) ∨ leAt bs 4 2 ≠ 1 ∨ leAt bs 6 2 ≠ 64 then .error (2, 0)
  else if leAt bs 0x14 4 / 16 ≠ ident / 16 then .error (3, 0)
  else if len % 16 ≠ 0 ∨ 0x00800000 < len ∨ len < 64 + 16 * n + 32 ∨ n = 0 ∨ 32 < n then .error (4, 0)
  else .ok ⟨leAt bs 8 4, len, n⟩

/-- An entry of the section table, with its index and the section's bytes (R431). -/
structure ImgSect where
  idx : Nat
  typ : Nat
  off : Nat
  len : Nat
  crc : Nat
  body : List Nat
deriving DecidableEq, Repr

/-- Byte after a section. -/
def ImgSect.end_ (x : ImgSect) : Nat := x.off + x.len

/-- The section table's entries (R431). (log 103: DEDUCED) -/
def imgTable (n : Nat) (bs : List Nat) : List ImgSect :=
  (List.range n).map fun i =>
    let e := (bs.drop (64 + 16 * i)).take 16
    let off := leAt e 4 4
    let len := leAt e 8 4
    ⟨i, leAt e 0 1, off, len, leAt e 12 4, (bs.drop off).take len⟩

/-- Section types of R433. -/
def sectType (t : Nat) : Bool := (decide (1 ≤ t) && decide (t ≤ 0x14)) || (decide (0x18 ≤ t) && decide (t ≤ 0x1B))

/-- Whether two sections overlap (R431). -/
def ImgSect.meets (a b : ImgSect) : Bool := decide (a.off < b.end_) && decide (b.off < a.end_)

/-- Whether an entry stands among the earlier ones (R431, R433). -/
def sectOk (h : ImgHead) (bs : List Nat) (es : List ImgSect) (x : ImgSect) : Bool :=
  sectType x.typ && zeros ((bs.drop (64 + 16 * x.idx + 1)).take 3) && x.off % 16 == 0 &&
    decide (64 + 16 * h.nsect ≤ x.off) && decide (x.end_ ≤ h.length - 32) &&
    (es.filter fun y => decide (y.idx < x.idx)).all fun y => y.typ != x.typ && !x.meets y

/-- Sections every image has (R431). -/
def requiredSects : List Nat := [1, 2, 9, 0x0A, 8, 0x13]

/-- Byte `p` lies in some section, or before or after them all (R431). -/
def covered (h : ImgHead) (es : List ImgSect) (p : Nat) : Bool :=
  decide (p < 64 + 16 * h.nsect) || decide (h.length - 32 ≤ p) || es.any fun x => decide (x.off ≤ p) && decide (p < x.end_)

/-- The entry index of the section that follows byte `p`, or the number of sections where none does. -/
def sectAfter (h : ImgHead) (es : List ImgSect) (p : Nat) : Nat :=
  let later := es.filter fun x => decide (p < x.off)
  match later with
  | [] => h.nsect
  | x :: xs => (xs.foldl (fun (m : ImgSect) y => if y.off < m.off then y else m) x).idx

/-- The errors that show while the bytes arrive, each with the place of its last byte: a byte not covered that is not
zero, and a section whose CRC-32C is wrong (R431, R443, R444). (log 103: DEDUCED) -/
def arrivalErrs (h : ImgHead) (bs : List Nat) (es : List ImgSect) : List (Nat × ImgErr) :=
  let gaps := (bs.zipIdx.filter fun (b, p) => b != 0 && !covered h es p).map fun (_, p) =>
    (p, (5, sectAfter h es p))
  let crcs := (es.filter fun x => x.crc != crc32c x.body).map fun x => (x.end_, (6, x.idx))
  gaps ++ crcs

/-! ## Register runs (R433, R434) -/

/-- Whether a port register lies at page offsets `lo` to `hi` (R433). -/
def portOffset (a lo hi : Nat) : Bool :=
  decide (0x100000 ≤ a) && decide (a < 0x120000) && decide (lo ≤ a % 0x100) && decide (a % 0x100 ≤ hi)

/-- An address in a range. -/
def between (a lo hi : Nat) : Bool := decide (lo ≤ a) && decide (a ≤ hi)

/-- The weights that ARBITER loads (R433). -/
def weightReg (a : Nat) : Bool := inFamily a (Addr.TH_WEIGHT_N 0) 4 12 || inFamily a (Addr.TH_WEIGHT_S 0) 4 12

/-- The profile-scoped registers (R441). -/
def profScoped (a : Nat) : Bool :=
  weightReg a || inFamily a (Addr.PQ_CFG 0) 16 16384 || inFamily a (Addr.PQ_LIM 0) 16 16384 ||
  ((List.range 2).any fun h => inFamily a (Addr.PD_CLASS_MAP h 0) 4 16 || a == Addr.PD_LEND h) ||
  a == Addr.SH_EFFORT || inFamily a (Addr.SH_QCFG 0) 8 16384 || inFamily a (Addr.SH_QCFG_OUTQ 0) 8 16384 ||
  a == Addr.PR_TIMING ||
  ([Addr.DEC_COND 0, Addr.DEC_SUM 0, Addr.DEC_WIN 0, Addr.DEC_DELAY 0, Addr.DEC_PRESC 0, Addr.DEC_HOLD 0,
    Addr.TRG_AUTO 0].any fun b => inFamily a b 0x20 16) ||
  ([Addr.ACQ_CTRL 0, Addr.ACQ_PRE 0, Addr.ACQ_POST 0].any fun b => inFamily a b 0x40 16) ||
  inFamily a (Addr.RG_GRP_CFG 0) 0x40 16

/-- The registers a run section of a type may load (R433, R441). -/
def sectLoads (t a : Nat) : Bool :=
  match t with
  | 0x02 => between a 0x00010000 0x0001FFFF
  | 0x03 => portOffset a 0x00 0x7F && !inFamily a (Addr.EV_EQ_LO 0) 0x100 512 && !inFamily a (Addr.EV_EQ_HI 0) 0x100 512
  | 0x05 => between a 0x00020000 0x0002FFFF
  | 0x06 => portOffset a 0x80 0xFF
  | 0x07 => between a 0x00200000 0x002FFFFF
  | 0x08 => between a 0x00400000 0x004FFFFF
  | 0x09 => between a 0x00300000 0x003FFFFF && !weightReg a
  | 0x0C => between a 0x00500000 0x005FFFFF
  | 0x0D => between a 0x00600000 0x006FFFFF
  | 0x0E => between a 0x00700000 0x0077FFFF
  | 0x0F => between a 0x00780000 0x007FFFFF
  | 0x10 => between a 0x00800000 0x008FFFFF
  | 0x11 => between a 0x00900000 0x00903FFF
  | 0x12 => between a 0x00904000 0x00907FFF
  | 0x18 | 0x19 | 0x1A | 0x1B => profScoped a
  | _ => false

/-- Whether a section is a run section, or a PROFILE section (R433). -/
def runSect (t : Nat) : Bool := t != 0x01 && t != 0x04 && t != 0x0A && t != 0x0B && t != 0x13 && t != 0x14

/-- The writes of a section's runs; none when they do not end exactly with the section or a head is malformed (R434). -/
def runWrites : Nat → List Nat → Option (List (Nat × Nat))
  | _, [] => some []
  | 0, _ :: _ => none
  | f + 1, bs =>
    let a := leAt bs 0 4
    let n := leAt bs 4 2
    let st := leAt bs 6 2
    if bs.length < 8 + 4 * n ∨ bs.length < 8 ∨ a % 4 ≠ 0 ∨ n = 0 ∨ 4096 < n ∨ st = 0 ∨ st % 4 ≠ 0 then none
    else
      let vs := (List.range n).map fun i => (a + i * st, leAt bs (8 + 4 * i) 4)
      (runWrites f (bs.drop (8 + 4 * n))).map (vs ++ ·)

/-- Whether a run may write a register with a value: it exists, has a field a run can load, and the value's reserved
bits are zero (R434). -/
def writeOk (a v : Nat) : Bool :=
  match regAt a with
  | none => false
  | some r =>
    (r.rows.any fun x => x.access == .rw || x.access == .rwl || x.access == .rwt) &&
      r.rows.foldl (fun v x => setBits v x.lo x.w 0) v == 0

/-- A register's value after a run's write: the whole register (R434). -/
def loaded (a v : Nat) : U32 :=
  match regAt a with
  | none => 0
  | some r => BitVec.ofNat 32 (codeValue false r.rows (regReset a).toNat v).1

/-- A field's bits of a register value. -/
def Field.of (f : Field) (v : Nat) : Nat := bits v f.lo f.w

/-- Whether a PROFILE run keeps what R441 fixes: the fields of PQ_CFG and PQ_LIM that must equal their base values. -/
def profKeeps (base : Nat → Nat) (a v : Nat) : Bool :=
  if inFamily a (Addr.PQ_CFG 0) 16 16384 then
    [PQ_CFG.SINK 0, PQ_CFG.FOLLOW 0, PQ_CFG.FWPUSH 0, PQ_CFG.HALF 0].all fun f => f.of v == f.of (base a)
  else if inFamily a (Addr.PQ_LIM 0) 16 16384 then (PQ_LIM.CAP 0).of v == (PQ_LIM.CAP 0).of (base a)
  else true

/-! ## Fixed layouts (R435 to R440) -/

/-- GLOBAL (R435). -/
def globalOk (b : List Nat) : Bool :=
  b.length == 64 && bits (leAt b 2 1) 2 2 == 0 && decide (leAt b 3 1 < 4) && decide (leAt b 0x24 4 < 2 ^ 14) &&
    zeros (b.drop 0x28)

/-- EQUALISATION (R433). -/
def equalOk (b : List Nat) : Bool := b.length == 4096

/-- ARBITER (R436). -/
def arbiterOk (b : List Nat) : Bool :=
  b.length == 80 && ((List.range 34).all fun i => decide (leAt b (2 * i) 2 ≤ 1023)) && zeros (b.drop 0x44)

/-- Entries of PROGRAMS and PATCH: first byte, bytes of the entry's item, and its CRC; none where malformed
(R437, R439). -/
def itemEntries (b : List Nat) (n : Nat) : Option (List (Nat × List Nat × Nat)) :=
  (List.range n).mapM fun i =>
    let e := (b.drop (4 + 16 * i)).take 16
    let off := leAt e 4 4
    let len := leAt e 8 4
    if e.length < 16 ∨ !zeros ((e.drop 1).take 3) ∨ off % 16 ≠ 0 ∨ len = 0 ∨ len % 4 ≠ 0 ∨ b.length < off + len then none
    else some (leAt e 0 1, (b.drop off).take len, leAt e 12 4)

/-- Programs by number; none where PROGRAMS is malformed (R437). -/
def programsOf (b : List Nat) : Option (List (Nat × List Nat)) :=
  let n := leAt b 0 4
  if b.length < 4 ∨ n = 0 ∨ 16 < n then none
  else (itemEntries b n).bind fun es =>
    if (es.all fun e => decide (e.1 < 16) && e.2.2 == crc32c e.2.1) && (es.map (·.1)).eraseDups.length == n
    then some (es.map fun e => (e.1, e.2.1)) else none

/-- Patches: target, bytes and CRC; none where PATCH is malformed (R439). -/
def patchesOf (b : List Nat) : Option (List (Nat × List Nat × Nat)) :=
  let n := leAt b 0 4
  if b.length < 4 ∨ 8 < n then none
  else (itemEntries b n).bind fun es => if es.all fun e => decide (e.1 ≤ 2) then some es else none

/-- Access bounds: base, size, permissions; none where CONTROL is malformed (R438). -/
def boundsOf (b : List Nat) : Option (List (Nat × Nat × Nat)) :=
  let n := leAt b 4 2
  if b.length ≠ 8 + 12 * n ∨ 32 < n ∨ leAt b 6 2 ≠ 0 then none
  else
    let es := (List.range n).map fun i => (leAt b (8 + 12 * i) 4, leAt b (12 + 12 * i) 4, leAt b (16 + 12 * i) 4)
    if es.all fun e => decide (e.2.2 < 8) then some es else none

/-- A PROFILE section's header (R440). -/
def profHeadOk (b : List Nat) : Bool :=
  decide (16 ≤ b.length) && decide (leAt b 0 1 ≤ 3) && decide (leAt b 2 1 ≤ 1) && decide (leAt b 3 1 < 16) &&
    bits (leAt b 3 1) 0 2 != 3 && bits (leAt b 3 1) 2 2 != 3 && zeros ((b.drop 4).take 12)

/-! ## A copy whole (R442, R443) -/

/-- What a valid copy holds. -/
structure Image where
  head : ImgHead
  global : List Nat
  /-- writes of the run sections but the PROFILE ones, in order -/
  writes : List (Nat × Nat)
  equal : List Nat := []
  arbiter : List Nat
  progs : List (Nat × List Nat) := []
  dirMask : Nat
  bounds : List (Nat × Nat × Nat)
  patches : List (Nat × List Nat × Nat) := []
  profs : Tab ProfSt := []
deriving DecidableEq, Repr

/-- A section's bytes, none where the image has no such section. -/
def sectBody (es : List ImgSect) (t : Nat) : Option (List Nat) := (es.find? fun x => x.typ == t).map (·.body)

/-- A section's base values for R441: what the writes and ARBITER load, or the reset value. -/
def baseOf (writes : List (Nat × Nat)) (arb : List Nat) (a : Nat) : Nat :=
  if inFamily a (Addr.TH_WEIGHT_N 0) 4 12 then leAt arb (2 * ((a - Addr.TH_WEIGHT_N 0) / 4)) 2
  else if inFamily a (Addr.TH_WEIGHT_S 0) 4 12 then leAt arb (24 + 2 * ((a - Addr.TH_WEIGHT_S 0) / 4)) 2
  else ((writes.filter fun w => w.1 == a).getLast?.map fun w => (loaded a w.2).toNat).getD (regReset a).toNat

/-- The writes of one section's runs, none where one breaks R433, R434 or R441. -/
def sectWrites (base : Nat → Nat) (t : Nat) (b : List Nat) : Option (List (Nat × Nat)) :=
  (runWrites b.length b).bind fun ws =>
    if ws.all fun w => sectLoads t w.1 && writeOk w.1 w.2 && (t < 0x18 || profKeeps base w.1 w.2) then some ws else none

/-- Whether a section's contents are valid (R434 to R441). (log 103: DEDUCED) -/
def contentOk (base : Nat → Nat) (x : ImgSect) : Bool :=
  match x.typ with
  | 0x01 => globalOk x.body
  | 0x04 => equalOk x.body
  | 0x0A => arbiterOk x.body
  | 0x0B => (programsOf x.body).isSome
  | 0x13 => (boundsOf x.body).isSome
  | 0x14 => (patchesOf x.body).isSome
  | t => if t < 0x18 then (sectWrites base t x.body).isSome
    else profHeadOk x.body && (sectWrites base t (x.body.drop 16)).isSome

/-- What a copy's sections hold, once each is valid. -/
def imageOf (h : ImgHead) (es : List ImgSect) (writes : List (Nat × Nat)) (arb : List Nat) : Image :=
  let body := fun t => (sectBody es t).getD []
  let profs := (List.range 4).foldl (fun (t : Tab ProfSt) p =>
    match sectBody es (0x18 + p) with
    | none => t
    | some b =>
      let ws := (sectWrites (baseOf writes arb) (0x18 + p) (b.drop 16)).getD []
      let x : ProfSt :=
        { present := true, pitch := leAt b 0 1, n := leAt b 1 1, obs := leAt b 2 1, clk := leAt b 3 1,
          runs := ws.map fun w => (w.1, loaded w.1 w.2) }
      Tab.set {} t p x) []
  { head := h, global := body 1, writes := writes, equal := body 4, arbiter := arb
    progs := ((sectBody es 0x0B).bind programsOf).getD []
    dirMask := leAt (body 0x13) 0 4
    bounds := ((sectBody es 0x13).bind boundsOf).getD []
    patches := ((sectBody es 0x14).bind patchesOf).getD []
    profs := profs }

/-- The writes of the image's run sections, in table order (R434). -/
def imageWrites (es : List ImgSect) : List (Nat × Nat) :=
  (es.filter fun x => runSect x.typ && decide (x.typ < 0x18)).flatMap fun x => (runWrites x.body.length x.body).getD []

/-- The sections of the profiles that GLOBAL enables, and that the image lacks (R431). -/
def missingProfs (es : List ImgSect) : List Nat :=
  let en := bits (leAt ((sectBody es 1).getD []) 2 1) 4 4
  (List.range 4).filter fun p => bitAt en p && (sectBody es (0x18 + p)).isNone

/-- A whole copy of which the header is valid: its contents, or its first error (R442 to R444). The table is judged as
it arrives, then the bytes in their order, the digest at their end, and the contents last. (log 103: DEDUCED) -/
def readImage (h : ImgHead) (bs : List Nat) : Except ImgErr Image :=
  let es := imgTable h.nsect bs
  match es.find? fun x => !sectOk h bs es x with
  | some x => .error (5, x.idx)
  | none =>
  if !requiredSects.all fun t => es.any fun x => x.typ == t then .error (5, h.nsect)
  else
  match arrivalErrs h bs es with
  | e :: rest => .error (rest.foldl (fun (m : Nat × ImgErr) x => if x.1 < m.1 then x else m) e).2
  | [] =>
  if sha256 (bs.take (h.length - 32)) ≠ bs.drop (h.length - 32) then .error (7, 0)
  else if !(missingProfs es).isEmpty then .error (5, h.nsect)
  else
    let writes := imageWrites es
    let arb := (sectBody es 0x0A).getD []
    match es.find? fun x => !contentOk (baseOf writes arb) x with
    | some x => .error (8, x.idx)
    | none => .ok (imageOf h es writes arb)

/-- A copy's header as it stands in its memory (R443). -/
def State.copyHead (s : State) (b : Bool) : Except ImgErr ImgHead :=
  imgHead (s.reg Addr.IDENT).toNat (imgBytes (s.imgMem b) 0 64)

/-- A copy as it stands in its memory (R442). (log 103: DEDUCED) -/
def State.copyImage (s : State) (b : Bool) : Except ImgErr Image :=
  match s.copyHead b with
  | .error e => .error e
  | .ok h => readImage h (imgBytes (s.imgMem b) 0 h.length)

end Sys2Proof.Machine
end

