-- ==== Sys2Proof/Machine/ShingleCode.lean ====
section
/-! DEFINITION. The Shingle coder: elements, the lane state, the codes, and the candidates (R332 to R336). -/

namespace Sys2Proof.Machine

/-- The initial lane state of a model (R333). -/
def ShModel.start (m : ShModel) : ShLanes :=
  ⟨List.replicate m.m 0, List.replicate m.m 0, List.replicate m.m 0⟩

/-- The elements of an original (R332): W-bit little-endian units, four or eight to a Thatch word. -/
def elements (w : Nat) (ws : List Word) : List Nat :=
  ws.flatMap fun x => (List.range (128 / w)).map fun i => wfield x (i * w) w

/-- Significant bits of a number (R333). -/
def bitlen (v : Nat) : Nat := if v = 0 then 0 else Nat.log2 v + 1

/-- One element coded (R333): the code with its length, and the lane state after it. -/
def codeElement (m : ShModel) (l : Nat) (st : ShLanes) (x : Nat) : (Nat × Nat) × ShLanes :=
  let x1 := st.x1.getD l 0
  let x2 := st.x2.getD l 0
  let a := st.acc.getD l 0
  let md := 2 ^ m.w
  let p := match m.order with
    | 0 => 0
    | 1 => x1
    | _ => (2 * x1 + md - x2) % md
  let r := toSigned m.w ((x + md - p % md) % md)
  let u := if 0 ≤ r then (2 * r).toNat else (-2 * r - 1).toNat
  let k := min (m.w - 1) (bitlen (a / 16))
  let q := u / 2 ^ k
  let code := if q < 16 then (2 ^ q - 1 + u % 2 ^ k * 2 ^ (q + 1), q + 1 + k)
    else (2 ^ 16 - 1 + u * 2 ^ 16, 16 + m.w)
  (code, ⟨st.x1.set l x, st.x2.set l x1, st.acc.set l (a - a / 16 + min u 0xFFFFFF)⟩)

/-- The running state of a coder: element number, bits so far, payload so far as a number, lane state. -/
structure Coder where
  i : Nat
  bits : Nat
  payload : Nat
  lanes : ShLanes

/-- The codes of an original under a model from a lane state (R333, R334). -/
def codeAll (m : ShModel) (st : ShLanes) (ws : List Word) : Coder :=
  (elements m.w ws).foldl (fun c x =>
    let (code, st) := codeElement m (c.i % m.m) c.lanes x
    ⟨c.i + 1, c.bits + code.2, c.payload + code.1 * 2 ^ c.bits, st⟩) ⟨0, 0, 0, st⟩

/-- The payload words of a coded original: packed from bit 0 upward, the last word filled with 0 (R334). -/
def Coder.words (c : Coder) : List Word :=
  (List.range (ceilDiv c.bits 128)).map fun i => BitVec.ofNat 128 (c.payload / 2 ^ (128 * i))

/-- The candidates beside c0, with the lowest effort that counts each (R335). -/
def otherCandidates : List (Nat × ShModel × Nat) :=
  [(1, ⟨1, 32, 1⟩, 2), (2, ⟨2, 32, 1⟩, 3), (3, ⟨4, 16, 1⟩, 3), (4, ⟨1, 32, 0⟩, 4), (5, ⟨2, 32, 2⟩, 4),
   (6, ⟨8, 16, 1⟩, 4), (7, ⟨4, 32, 1⟩, 4)]

/-- What a pass over a block found for one candidate. -/
structure Candidate where
  num : Nat
  model : ShModel
  coded : Coder

/-- The candidates that an effort counts on a block (R335, R336); c0 alone at effort 0, where nothing is coded. -/
def candidates (effort : Nat) (c0 : ShModel) (st : ShLanes) (ws : List Word) : List Candidate :=
  ⟨0, c0, codeAll c0 st ws⟩ ::
    (otherCandidates.filter fun x => decide (x.2.2 ≤ effort)).map fun x =>
      ⟨x.1, x.2.1, codeAll x.2.1 x.2.1.start ws⟩

/-- The candidate with the fewest coded bits; a tie goes to the lower number (R336). -/
def winner (c : Candidate) : List Candidate → Candidate
  | [] => c
  | d :: ds => winner (if d.coded.bits < c.coded.bits then d else c) ds

/-- The CRC-32C of an original (R340). -/
def originalCrc (ws : List Word) : Nat := crc32c (ws.flatMap wordBytes)

end Sys2Proof.Machine
end

