-- ==== Sys2Proof/Machine/Shingle.lean ====
section
/-! DEFINITION. The Shingle engines: streams and blocks, containers and chained output, completion, admission and
resets (R326 to R331, R335 to R348). -/

namespace Sys2Proof.Machine

/-! ## What the engine shows (R350) -/

/-- SH_STAT shows the engine as it stands (R350). -/
def State.syncEngine (s : State) (e : Nat) : State :=
  let x := s.engine e
  let s := s.wr (SH_STAT.BUSY e) (b2n x.block.isSome)
  let s := s.wr (SH_STAT.PASS2 e) (b2n ((x.block.map fun b => b.pass == 2).getD false))
  let s := s.wr (SH_STAT.QUEUE e) ((x.block.map fun b => b.queue).getD 0)
  s.wr (SH_STAT.CONTEXTS e) x.ctxs.length

/-- The engine becomes `x`, and SH_STAT shows it. -/
def State.putEngine (s : State) (e : Nat) (x : EngineSt) : State := (s.setEngine e x).syncEngine e

/-- Half of an engine (R6). -/
def engineHalf (e : Nat) : Nat := halfOf 32 e

/-! ## Streams (R326, R327, R330, R331) -/

/-- Whether a source is one of the keyed ones (R327). -/
def State.keyedSource (s : State) (src : Nat) : Bool :=
  (List.range 64).any fun j => s.effOn (SH_KEYED.VALID j) && s.eff (SH_KEYED.SOURCE j) == src

/-- The model that a queue's settings give c0 (R335, R352). -/
def State.queueModel (s : State) (q : Nat) : ShModel :=
  ⟨2 ^ s.eff (SH_QCFG.LANES q), if s.effOn (SH_QCFG.WIDTH q) then 32 else 16, s.eff (SH_QCFG.ORDER q)⟩

/-- The context of a stream, or a new one (R330). -/
def State.context (s : State) (e q : Nat) : ShCtx :=
  ((s.engine e).ctxs.find? fun c => c.queue == q).getD { queue := q, model := s.queueModel q }

/-- A context replaced (R330). -/
def setCtx (cs : List ShCtx) (c : ShCtx) : List ShCtx := (cs.filter fun x => x.queue != c.queue) ++ [c]

/-- The epoch of an original: that of its first record's header (R328). -/
def ShBlock.epoch (b : ShBlock) : Nat := wfield (b.heads.headD 0) 24 16

/-- The source of an original. -/
def ShBlock.source (b : ShBlock) : Nat := wfield (b.heads.headD 0) 8 16

/-- Whether a stream block is a reset block before its winner is known (R331). -/
def ShCtx.resets (c : ShCtx) (b : ShBlock) : Bool :=
  c.lanes.isNone || c.epoch != b.epoch || (c.every != 0 && decide (c.every ≤ c.since))

/-! ## Opening and extending a block (R328) -/

/-- The descriptor that a ready item will deliver first. -/
def State.readyDesc (s : State) (r : ReadyItem) : Option Desc :=
  if r.restarted then (r.again.head?).join else ((s.queue r.queue).descs.head?).map fun e => e.desc

/-- The ready tasks for an engine's half that target it (R258). -/
def State.engineReady (s : State) (e : Nat) : List ReadyItem :=
  (s.purlin (engineHalf e)).ready.filter fun r =>
    s.eff (PQ_CFG.SINK r.queue) == 1 && s.eff (PQ_CFG.TARGET r.queue) == e

/-- The words of a task's records as an engine reads them: the words, the headers, and whether any is poisoned. -/
def State.taskWords (s : State) (t : Task) : List Word × List Word × Bool :=
  t.descs.foldl (fun (acc : List Word × List Word × Bool) d =>
    let (ws, p) := s.deliverRec d
    (acc.1 ++ ws, acc.2.1 ++ ws.take 1, acc.2.2 || p)) ([], [], false)

/-- Whether another engine still has the stream's block open (R347). -/
def State.openElsewhere (s : State) (e q : Nat) : Bool :=
  s.engines.any fun x => x.1 != e && ((x.2.block.map fun b => b.queue == q).getD false)

/-- SHINGLE_BLOCK_OPEN (R328): the engine takes the head that the Purlin would dispatch first, and reads it.
(log 85: DESIGN CHOICE) -/
def execShingleBlockOpen (e : Engine) (s : State) : Out :=
  let e := e.val
  let x := s.engine e
  if !s.on (SH_STAT.ACTIVE e) || x.block.isSome || x.done.isSome || x.leaving then .next s
  else
    let rs := (s.engineReady e).filter fun r => !s.openElsewhere e r.queue
    match (List.range 8).reverse.findSome? fun p => rs.find? fun r => r.prio == p with
    | none => .next s
    | some r =>
      let h := engineHalf e
      let w := tfPurlinCycles (s.now - r.readyAt)
      match s.takeItem h r false with
      | (none, s) => .next s
      | (some t, s) =>
        let s := s.trace h 1 t.desc.queue e t.desc.prio t.desc.cls t.desc.course w
        let (ws, hs, p) := s.taskWords t
        let q := t.desc.queue
        let keyed := s.keyedSource (wfield (hs.headD 0) 8 16)
        let b : ShBlock :=
          { queue := q, tasks := [t], words := ws, heads := hs, poison := p, keyed := keyed,
            effort := if keyed then s.eff SH_EFFORT.KEYED else s.eff SH_EFFORT.STREAM,
            limit := min 65536 (s.eff (SH_QCFG.BLKMAX q) * 4096), outq := s.eff (SH_QCFG_OUTQ.OUTQ q) }
        -- R331: a stream that comes from another engine starts afresh
        let s := s.each ((s.engines.map (·.1)).filter (· != e)) fun s e2 =>
          let y := s.engine e2
          s.putEngine e2 { y with ctxs := y.ctxs.filter fun c => c.queue != q }
        .next (((s.putEngine e { s.engine e with block := some b, flush := false })).settle.holdAll)

/-- A stream block takes the queue's next heads while they are ready and may join it; the cause that ends it
(R328). (log 85: DESIGN CHOICE) -/
def State.extendBlock (s : State) (e : Nat) : Nat → ShBlock → ShBlock × State
  | 0, b => (b, s)
  | fuel + 1, b =>
    if b.keyed then (b, s)
    else if (s.engine e).flush then ({ b with endCause := 3 }, s)
    else
      match (s.engineReady e).find? fun r => r.queue == b.queue with
      | none => (b, s)
      | some r =>
        match s.readyDesc r with
        | none => (b, s)
        | some d =>
          let (ws, _) := s.deliverRec d
          let h := ws.headD 0
          if b.limit < 16 * (b.words.length + d.len) then ({ b with endCause := 1 }, s)
          else if wfield h 8 16 ≠ b.source ∨ wfield h 24 16 ≠ b.epoch ∨ s.keyedSource (wfield h 8 16) then
            ({ b with endCause := 2 }, s)
          else
            match s.takeItem (engineHalf e) r false with
            | (none, s) => (b, s)
            | (some t, s) =>
              let s := s.trace (engineHalf e) 1 t.desc.queue e t.desc.prio t.desc.cls t.desc.course
                (tfPurlinCycles (s.now - r.readyAt))
              let (ws, hs, p) := s.taskWords t
              State.extendBlock (s.evalQueue b.queue) e fuel
                { b with tasks := b.tasks ++ [t], words := b.words ++ ws, heads := b.heads ++ hs,
                         poison := b.poison || p }

/-! ## Room for a container (R341, R342) -/

/-- How many words can be written from a writer's pointer before a bundle that is not free (R202, R341), of `n`
wanted. (log 86: DEDUCED) -/
def State.roomAhead (s : State) (w n : Nat) : Nat :=
  let (base, len) := s.regionOf w
  let wp := (s.writer w).wp % (len * 256)
  if len = 0 then 0
  else
    let start := if wp % 256 = 0 then 0 else 256 - wp % 256
    let first := if wp % 256 = 0 then wp / 256 else wp / 256 + 1
    let max_ := if wp % 256 = 0 then len else len - 1
    let k := ((List.range (min max_ (ceilDiv (n - start) 256))).takeWhile fun i =>
      s.isFree (base + (first + i) % len)).length
    min n (start + 256 * k)

/-- Lengths of the chained segments for `n` words, link words included (R341, R342). -/
def chainLens : Nat → Nat → List Nat
  | 0, _ => []
  | fuel + 1, n => if n = 0 then [] else if n ≤ 256 then [n] else 256 :: chainLens fuel (n - 255)

/-- A link word (R342). -/
def linkWord (next words segno : Nat) : Word := mkWord [(0, 15, next), (16, 9, words), (32, 8, segno)]

/-- The chained segments' words: each but the last ends in a link to the next (R342). (log 86: DEDUCED) -/
def chainRuns : List (Nat × Nat) → Nat → List Word → List (RecAt × List Word)
  | [], _, _ => []
  | [(b, n)], _, ws => [(⟨b * 256, n⟩, ws.take n)]
  | (b, n) :: (b2, n2) :: rest, seg, ws =>
    (⟨b * 256, n⟩, ws.take (n - 1) ++ [linkWord b2 n2 seg]) :: chainRuns ((b2, n2) :: rest) (seg + 1) (ws.drop (n - 1))

/-! ## The container (R337 to R340) -/

/-- What the passes over a block decided (R336, R338, R339). -/
structure Coded where
  win : Candidate
  reset : Bool
  why : Nat

/-- The first pass over a block: candidates counted, and the decision between coded, NOGAIN and BYPASS (R331, R336,
R338, R339). -/
def State.codeBlock (s : State) (e : Nat) (b : ShBlock) : Coded :=
  let c := s.context e b.queue
  let l := 16 * b.words.length
  let reset := b.keyed || c.resets b
  let m := if reset then s.queueModel b.queue else c.model
  let st := if reset then m.start else c.lanes.getD m.start
  match candidates b.effort m st b.words with
  | [] => ⟨⟨0, m, ⟨0, 0, 0, st⟩⟩, reset, 2⟩
  | c0 :: cs =>
    if b.effort = 0 then ⟨c0, reset, 2⟩
    else
      let w := winner c0 cs
      let why := if l ≤ 16 * ceilDiv w.coded.bits 128 + 16 then 1 else 0
      ⟨w, reset || w.num != 0, why⟩

/-- Word 1 of a container (R337). -/
def containerWord1 (b : ShBlock) (c : Coded) (bseq seg0 : Nat) : Word :=
  mkWord [(0, 16, bseq), (16, 14, b.queue), (30, 1, b2n b.keyed), (31, 1, b2n c.reset), (32, 2, b.endCause),
    (34, 3, b.effort), (37, 2, Nat.log2 c.win.model.m), (39, 1, b2n (c.win.model.w == 32)),
    (40, 2, c.win.model.order), (42, 2, c.why), (44, 3, c.win.num), (48, 16, b.heads.length), (64, 16, seg0),
    (96, 32, if c.why = 0 then c.win.coded.bits else 0)]

/-- The last word of a container (R337, R340). -/
def containerTrailer (b : ShBlock) : Word :=
  let last := b.heads.getLastD 0
  mkWord [(0, 32, originalCrc b.words), (32, 17, 16 * b.words.length), (64, 32, wfield last 40 32),
    (96, 16, wfield (b.heads.headD 0) 112 16), (112, 16, wfield last 112 16)]

/-- The payload of a container (R334, R338, R339). -/
def containerPayload (b : ShBlock) (c : Coded) : List Word := if c.why = 0 then c.win.coded.words else b.words

/-- The header of a container (R337): its contained records' time-quality flags go with it. -/
def State.containerHeader (s : State) (b : ShBlock) (c : Coded) (len seq : Nat) (cont : Bool) : Word :=
  let h := b.heads.headD 0
  header 10 (wfield h 8 16) (wfield h 24 16) (wfield h 40 32) len
    { poison := b.poison, raw := c.why != 0, cont := cont,
      holdover := b.heads.any (fun x => wfield x 89 1 == 1),
      unaligned := b.heads.any (fun x => wfield x 90 1 == 1) } (s.rd NODE_ID.ID) seq

/-- The context after a block (R331, R336, R339): keyed blocks and raw ones leave the carried state, a raw one makes
the next stream block a reset block. -/
def State.contextAfter (s : State) (c : ShCtx) (b : ShBlock) (d : Coded) : ShCtx :=
  let c := { c with bseq := (c.bseq + 1) % 2 ^ 16 }
  if b.keyed then c
  else if d.why ≠ 0 then { c with lanes := none, epoch := b.epoch, since := if d.reset then 0 else c.since + 1 }
  else
    { c with model := d.win.model, lanes := some d.win.coded.lanes, epoch := b.epoch,
             since := if d.reset then 0 else c.since + 1,
             every := if d.reset then s.eff (SH_QCFG.RESET_EVERY b.queue) else c.every }

/-- The engine's writer (R198). -/
def engineWriter (e : Nat) : Nat := 768 + e

/-- Engine cycles in a duration (R42): 1.0 GHz, or 0.5 GHz. -/
def State.engineCycles (s : State) (t : Nat) : Nat :=
  let p := (Tab.get ({} : ProfSt) s.boot.profs (s.rd PROF_STAT.CUR)).clk / 4 % 4
  let slow := p == 2 || (p == 0 && s.rd PROF_STAT.PITCH == 3)
  if slow then t * 125 / 655360 else t * 125 / 327680

/-- The container is written: its first segment at the region's write pointer, the rest in chained bundles where the
region's next bundle is not free (R337, R341, R342). None where it has to wait for the region; false with the state
where it has to wait for the pool. (log 86: DEDUCED) -/
def State.placeContainer (s : State) (e : Nat) (b : ShBlock) (c : Coded) : Option (Bool × State) :=
  let w := engineWriter e
  let ctx := s.context e b.queue
  let x := s.writer w
  let pay := containerPayload b c
  let n := pay.length + 3
  let room := s.roomAhead w n
  if room < n ∧ room < 2 then none
  else
    let whole := decide (n ≤ room)
    let lens := if whole then [] else chainLens n (n - (room - 1))
    let pool := (s.poolFree (engineHalf e)).take lens.length
    if pool.length < lens.length then some (false, s)
    else
      let len := n + lens.length
      let seg0 := if whole then n else room
      let ws := s.containerHeader b c len x.seq (!whole) :: containerWord1 b c ctx.bseq seg0 :: pay ++
        [containerTrailer b]
      let chain := pool.zip lens
      let ws0 := match chain with
        | [] => ws
        | (b1, n1) :: _ => ws.take (room - 1) ++ [linkWord b1 n1 1]
      let (r, s) := s.takeWords w seg0
      let s := s.storeRec r ws0
      let s := { s with th := { s.th with dirty := s.th.dirty ++ pool } }
      let s := s.each (chainRuns chain 2 (ws.drop (room - 1))) fun s (a, vs) => s.storeRec a vs
      let all : RecAt := ⟨r.addr, len⟩
      let s := s.hold all
      let s := s.setWriter w { s.writer w with seq := (x.seq + 1) % 2 ^ 16 }
      let s := if pool.isEmpty then s else (s.count (SH_CHAINED.N e) pool.length).flag (SH_EVT.CHAIN e)
      let h := b.heads.headD 0
      let ds := b.tasks.flatMap Task.descs
      let d : Desc :=
        { queue := b.outq, course := wfield h 40 32, bundle := r.addr / 256, word := r.addr % 256, len := len,
          start := ds.any (·.start), final := ds.any (·.final) }
      let y := s.engine e
      let y : EngineSt :=
        { y with ctxs := setCtx y.ctxs (s.contextAfter ctx b c), done := some (d, b.epoch), poolAt := none,
                 block := some { b with pass := 3, raw := c.why, from_ := x.wp, chain := pool } }
      let s := s.wr (SH_STAT.WAITING e) 0
      let s := if !b.keyed && c.reset then s.count (SH_RESETS.N e) else s
      let s := if c.why = 2 then s.count (SH_BYPASS.N e) else s
      let s := if b.poison then (s.count (SH_POISON.N e)).flag (SH_EVT.POISON e) else s
      let s := match (s.engine e).poolAt with
        | some t => s.count (SH_CHAIN_WAIT.N e) (s.engineCycles (s.now - t))
        | none => s
      some (true, (s.putEngine e y).syncPool)

/-- A coded block is written where there is room; else the engine waits (R202, R341). (log 86: DEDUCED) -/
def State.tryPlace (s : State) (e : Nat) (b : ShBlock) (c : Coded) : State :=
  let y := s.engine e
  let waiting := s.on (SH_STAT.WAITING e)
  match s.placeContainer e b c with
  | some (true, s) => s
  | some (false, s) =>
    let s := if y.poolAt.isSome then s else s.flag (SH_EVT.CHAIN_WAIT e)
    (s.putEngine e { y with block := some b, poolAt := some (y.poolAt.getD s.now) }).wr (SH_STAT.WAITING e) 1
  | none =>
    let s := if waiting then s
      else s.count (if engineHalf e = 0 then TH_REGION_WAIT.N else TH_REGION_WAIT.S)
    (s.putEngine e { y with block := some b }).wr (SH_STAT.WAITING e) 1

/-- SHINGLE_PASS_DONE (R338): the block's first pass ends, with the records that joined it; a second pass follows for
NOGAIN or another winner; after the last pass the container is written. (log 85: DESIGN CHOICE) -/
def execShinglePassDone (e : Engine) (s : State) : Out :=
  let e := e.val
  match (s.engine e).block with
  | none => .next s
  | some b =>
    if (s.engine e).done.isSome then .next s
    else if b.pass = 1 ∧ !s.on (SH_STAT.WAITING e) then
      let (b, s) := s.extendBlock e 4096 b
      let s := (s.putEngine e { s.engine e with block := some b, flush := false }).settle.holdAll
      let c := s.codeBlock e b
      if c.why = 2 ∨ (c.why = 0 ∧ c.win.num = 0) then .next (s.tryPlace e b c)
      else
        let s := s.count (SH_PASS2.N e)
        let s := if c.why = 1 then (s.count (SH_NOGAIN.N e)).flag (SH_EVT.NOGAIN e) else s
        .next (s.putEngine e { s.engine e with block := some { b with pass := 2 } })
    else .next (s.tryPlace e b (s.codeBlock e b))

/-- Bytes counted in a KiB counter, the remainder carried on (R350). -/
def kib (rem bytes : Nat) : Nat × Nat := ((rem + bytes) / 1024, (rem + bytes) % 1024)

/-- A block's engine is free again; a leaving engine leaves service (R345). -/
def State.engineIdle (s : State) (e : Nat) : State :=
  let y := s.engine e
  if y.leaving then
    ((s.wr (SH_STAT.ACTIVE e) 0).putEngine e { y with leaving := false, ctxs := [] })
  else s

/-- SHINGLE_CONTAINER_PUSH (R343): the descriptor is pushed once the output queue is below its limit, and the block's
tasks complete in queue order. -/
def execShingleContainerPush (e : Engine) (s : State) : Out :=
  let e := e.val
  let y := s.engine e
  match y.done, y.block with
  | some (d, epoch), some b =>
    if s.atLimit b.outq then .next (s.wr (SH_STAT.WAITING e) 1)
    else
      let s := s.wr (SH_STAT.WAITING e) 0
      let s := s.pushQueue b.outq (s.fillDesc b.outq d) epoch
      let (ki, ri) := kib y.inRem (16 * b.words.length)
      let (ko, ro) := kib y.outRem (16 * d.len)
      let s := ((s.count (SH_BLOCKS.N e)).count (SH_IN_KIB.N e) ki).count (SH_OUT_KIB.N e) ko
      let s := s.putEngine e { s.engine e with block := none, done := none, inRem := ri, outRem := ro }
      let s := s.each b.tasks fun s t => (s.releaseTask t).taskDone t e
      .next (s.engineIdle e).settle.holdAll
  | _, _ => .next s

/-! ## Flush, enable, resets (R329, R345, R346) -/

/-- The open block of a stream is flushed (R329). -/
def State.flushStream (s : State) (q : Nat) : State :=
  s.each (s.engines.map (·.1)) fun s e =>
    let y := s.engine e
    match y.block with
    | some b => if b.queue = q ∧ b.pass = 1 ∧ !b.keyed then s.setEngine e { y with flush := true } else s
    | none => s

/-- A write of SH_FLUSH (R329). -/
def writeShFlush (data : Nat) (s : State) : Status × State := (.done, s.flushStream (data % 2 ^ 14))

/-- SH_FLUSH (R329). -/
def execShFlush (path : Path) (data : U32) (s : State) : Out :=
  s.writeRow path Addr.SH_FLUSH (writeShFlush data.toNat)

/-- A write of SH_CTRL (R345): EN through its check. -/
def writeShCtrl (e data : Nat) (s : State) : Status × State :=
  s.reqEnable 5 e (SH_CTRL.EN e) data fun s => s.codeWrite (Addr.SH_CTRL e) data

/-- SH_EN_WRITE (R345). -/
def execShEnWrite (path : Path) (e : Engine) (data : U32) (s : State) : Out :=
  s.writeRow path (Addr.SH_CTRL e.val) (writeShCtrl e.val data.toNat)

/-- An engine enters service at a boundary (R331, R345). -/
def State.engineIn (s : State) (e : Nat) : State :=
  let y := s.engine e
  (s.wr (SH_STAT.ACTIVE e) 1).putEngine e { y with ctxs := [], leaving := false, returning := false }

/-- An engine retires at a boundary: its open block is flushed and completed first (R345). -/
def State.engineOut (s : State) (e : Nat) : State :=
  let y := s.engine e
  let s := s.setEngine e { y with leaving := true, flush := y.block.isSome, returning := false }
  if y.block.isNone then s.engineIdle e else s

/-- A block's tasks stand ready again, in queue order, to be offered when the engine returns (R346).
(log 87: DEDUCED) -/
def State.reoffer (s : State) (t : Task) : State :=
  let r : ReadyItem := { t.item with restarted := true, again := some t.desc :: t.members, offered := false }
  let p := s.purlin t.half
  (s.setPurlin t.half { p with ready := insertReady r p.ready }).syncQueue t.desc.queue

/-- A unit reset of an engine (R207, R346). (log 87: DEDUCED) -/
def State.resetEngine (s : State) (e : Nat) : State :=
  let y := s.engine e
  let w := engineWriter e
  let s := match y.block with
    | none => s
    | some b =>
      let s := (s.count (SH_ABANDON.N e)).flag (SH_EVT.ABANDON e)
      let s := match y.done with
        | some (d, _) =>
          let s := s.release d.place
          s.setWriter w { s.writer w with wp := b.from_ }
        | none => s
      s.each b.tasks State.reoffer
  let s := s.setWriter w { s.writer w with seq := 0 }
  let was := s.on (SH_STAT.ACTIVE e) || y.returning
  let s := (s.wr (SH_STAT.ACTIVE e) 0).wr (SH_STAT.WAITING e) 0
  s.putEngine e { inRem := y.inRem, outRem := y.outRem, returning := was && !y.leaving }

end Sys2Proof.Machine
end

