-- ==== Sys2Proof/Machine/Apply.lean ====
section
/-! DEFINITION. Profiles in force, and the application of an image copy to the device
(R42, R263, R315, R435 to R443, R459, R480, R481). -/

namespace Sys2Proof.Machine

/-! ## Profiles (R42, R440, R441, R459) -/

/-- A profile's section. -/
def State.prof (s : State) (p : Nat) : ProfSt := Tab.get {} s.boot.profs p

/-- The default course exponent of a pitch (R42). -/
def pitchN (pitch : Nat) : Nat := [11, 14, 17, 16].getD pitch 14

/-- Whether a course exponent is in a pitch's range (R42). -/
def pitchAllows (pitch n : Nat) : Bool :=
  let r := [(10, 12), (12, 16), (15, 22), (14, 22)].getD pitch (0, 0)
  decide (r.1 ≤ n) && decide (n ≤ r.2)

/-- The course exponent of a profile (R42, R440). -/
def ProfSt.expN (x : ProfSt) : Nat := if x.n = 0 then pitchN x.pitch else x.n

/-- Whether a profile runs its cores at 0.5 GHz (R42, R440). -/
def ProfSt.slowCores (x : ProfSt) : Bool := x.clk % 4 == 2 || (x.clk % 4 == 0 && x.pitch == 3)

/-- What a register holds under a pitch when the image gives no value (R42, R182, R335): pre-trigger window in 256 Tc,
efforts, or the reset value. -/
def pitchDefault (pitch a : Nat) : U32 :=
  if a = Addr.SH_EFFORT then
    BitVec.ofNat 32 ([1, 2, 4, 2].getD pitch 0 + [0, 2, 4, 2].getD pitch 0 * 16)
  else if inFamily a (Addr.ACQ_PRE 0) 0x40 16 then BitVec.ofNat 32 ([400, 800, 3200, 800].getD pitch 0)
  else regReset a

/-- The value of a profile-scoped register under profile `p` (R441). (log 105: DEDUCED) -/
def State.profValue (s : State) (p a : Nat) : U32 :=
  match ((s.prof p).runs.filter fun w => w.1 == a).getLast? with
  | some w => w.2
  | none => (Tab.get none s.boot.base a).getD (pitchDefault (s.prof p).pitch a)

/-- The profile-scoped registers that some value is named for, or that a pitch gives a default. -/
def State.profAddrs (s : State) (p : Nat) : List Nat :=
  (s.boot.base.map (·.1) ++ (s.prof p).runs.map (·.1) ++ Addr.SH_EFFORT :: (List.range 16).map Addr.ACQ_PRE).eraseDups

/-- Every register, the profile-scoped ones at their values under profile `p` (R441). (log 105: DEDUCED) -/
def State.profRegs (s : State) (p : Nat) : Tab U32 :=
  (s.profAddrs p).foldl (fun t a => Tab.set (regReset a) t a (s.profValue p a))
    (s.regs.filter fun x => !profScoped x.1)

/-- Profile `p` is in force: its registers, its pitch, course exponent and observation mode (R266, R441, R459, R470). -/
def State.takeProfile (s : State) (p : Nat) : State :=
  let x := s.prof p
  let s := { s with regs := s.profRegs p }
  let s := ((s.wr PROF_STAT.CUR p).wr PROF_STAT.PITCH x.pitch).wr PROF_STAT.N x.expN
  (s.wr (PD_CTRL.OBS 0) x.obs).wr (PD_CTRL.OBS 1) x.obs

/-- The weights in force stay until the next window (R221, R460). -/
def State.keepWeights (s : State) : State :=
  s.each (List.range 24) fun s i =>
    if Tab.get 0 s.th.weights i = 0 then
      { s with th := { s.th with weights := Tab.set 0 s.th.weights i (s.weight (i / 12) (i % 12) + 1) } }
    else s

/-- A switch to profile `p` at its boundary (R44, R45, R263, R317, R329, R460): stream blocks are flushed, core clocks
change after the next DONE, weights at the next window, and a new course length makes an epoch due. -/
def State.switchProfile (s : State) (p : Nat) : State :=
  let n := s.time.epoch.n
  let s := s.keepWeights.takeProfile p
  let s := s.each (List.range 32) fun s e => match (s.engine e).block with
    | some b => if b.keyed then s else s.flushStream b.queue
    | none => s
  let slow := (s.prof p).slowCores
  let s := s.each (List.range 64) fun s k =>
    let c := s.core k
    if c.slowClock = slow then s.setCore k { c with clockDue := false } else
    if c.task.isSome then s.setCore k { c with clockDue := true } else s.setCore k { c with slowClock := slow, clockDue := false }
  if (s.prof p).expN = n then s else s.cause 3

/-! ## Management firmware patches (R480, R481) -/

/-- Whether a patch's head is right, and its length what the head says (R480). -/
def patchOk (b : List Nat) : Bool :=
  leAt b 0 4 == 0x4D435054 && leAt b 4 2 == 1 && decide (leAt b 6 2 ≤ 64) && leAt b 8 4 % 4 == 0 &&
    decide (leAt b 8 4 + 8 * leAt b 6 2 ≤ 32768) && leAt b 12 4 == 0 && b.length == 16 + 8 * leAt b 6 2 + leAt b 8 4

/-- Bytes as a sparse memory that reads 0 where nothing is listed. -/
def bytesMem (bs : List Nat) : List Host.Cell :=
  bs.zipIdx.filterMap fun (b, i) => if b % 256 = 0 then none else some (i, BitVec.ofNat 8 b)

/-- A management core runs a patch: its code at patch-RAM offset 0, its hooks in force (R480). -/
def State.patchCore (s : State) (h : Nat) (b : List Nat) : State :=
  let ram := bytesMem (b.drop (16 + 8 * leAt b 6 2))
  let s := { s with mg := if h = 0 then { s.mg with patchN := ram } else { s.mg with patchS := ram } }
  (s.wr (MG_PATCH.HOOKS h) (leAt b 6 2)).wr (MG_PATCH.OFF h) 0

/-- The management cores that a patch names (R439). -/
def patchTargets (t : Nat) : List Nat := (List.range 2).filter fun h => t == 2 || t == h

/-- The PATCH section's patches apply at cold start; one that is wrong is not applied, and the cores it names run
their ROM alone (R480, R481). (log 104, 129: DEDUCED) -/
def State.applyPatches (s : State) (ps : List (Nat × List Nat × Nat)) : State :=
  let good := ps.filter fun (p : Nat × List Nat × Nat) => p.2.2 == crc32c p.2.1 && patchOk p.2.1
  let s := { s with mg := { s.mg with patches := good.map fun (p : Nat × List Nat × Nat) => (p.1, p.2.1) } }
  let s := if good.length < ps.length then s.flag MG_EVT.PATCH_FAIL else s
  s.each good fun s (p : Nat × List Nat × Nat) => s.each (patchTargets p.1) fun s h => s.patchCore h p.2.1

/-! ## Applying a copy (R443) -/

/-- A register takes what a run gives it: the whole register, by the access codes (R18, R434). -/
def State.loadReg (s : State) (a v : Nat) : State :=
  match regAt a with
  | none => s
  | some r => s.setReg a (BitVec.ofNat 32 (codeValue false r.rows (s.reg a).toNat v).1)

/-- What ARBITER loads: the weights, 24 of them (R436). -/
def arbiterWrites (b : List Nat) : List (Nat × Nat) :=
  (List.range 12).map (fun i => (Addr.TH_WEIGHT_N i, leAt b (2 * i) 2)) ++
    (List.range 12).map fun i => (Addr.TH_WEIGHT_S i, leAt b (24 + 2 * i) 2)

/-- What EQUALISATION loads (R138, R433). -/
def equalWrites (b : List Nat) : List (Nat × Nat) :=
  if b.isEmpty then []
  else (List.range 512).flatMap fun p =>
    [(Addr.EV_EQ_LO p, leAt b (8 * p) 4), (Addr.EV_EQ_HI p, leAt b (8 * p + 4) 4)]

/-- Each core's instruction memory takes its program, zero beyond it (R315); a program too long loads nothing. -/
def State.loadPrograms (s : State) : State :=
  s.each (List.range 64) fun s k =>
    let body := ((s.boot.progs.find? fun x => x.1 == s.rd (RC_CTRL.PROG k)).map (·.2)).getD []
    s.setCore k { s.core k with
      imem := if body.length ≤ 65536 then bytesMem body else []
      memErr := (s.core k).memErr.filter fun x => decide (0x4000 ≤ x.1) }

/-- A valid copy is applied: fixed sections, runs, instruction memories, patches and the profile in force
(R315, R435 to R443, R459). -/
def State.applyImage (s : State) (b : Bool) (im : Image) : State :=
  let g := im.global
  let lo := if bits (leAt g 2 1) 0 1 = 1 then leAt g 1 1 else s.rd STRAP.NODE
  let all := im.writes ++ arbiterWrites im.arbiter
  let base := (all.filter fun w => profScoped w.1).foldl
    (fun (t : Tab (Option U32)) w => Tab.set none t w.1 (some (loaded w.1 w.2))) []
  let s := s.each (all ++ equalWrites im.equal) fun s w => s.loadReg w.1 w.2
  let s := s.wr NODE_ID.ID (leAt g 0 1 * 256 + lo)
  let s := (s.wr PROF_CTRL.EN (bits (leAt g 2 1) 4 4)).wr ATTN_MASK.EN (leAt g 0x24 4)
  let s := s.wr BOOT_STAT.ACTIVE (b2n b)
  let s : State :=
    { s with boot := { s.boot with
        imageOn := true
        dirMask := BitVec.ofNat 32 im.dirMask
        bounds := im.bounds
        sched := (List.range 8).map fun i => BitVec.ofNat 32 (leAt g (4 + 4 * i) 4)
        schedDone := []
        bridge := (List.range 10).map fun i => leAt im.arbiter (0x30 + 2 * i) 2
        progs := im.progs
        profs := im.profs
        base := base
        runFlag := bits (leAt g 2 1) 1 1 == 1
        prof0 := leAt g 3 1 } }
  let s := s.takeProfile (leAt g 3 1)
  let slow := (s.prof (leAt g 3 1)).slowCores
  let s := s.loadPrograms
  let s := s.each (List.range 64) fun s k => s.setCore k { s.core k with slowClock := slow }
  let s := s.each (List.range 2) fun s h => s.each (List.range 16) fun s j => s.syncIexc h j
  { (s.applyPatches im.patches) with pins := { s.pins with applied := true } }

/-- Every register that a copy has loaded goes back to its reset value, with all else that it loaded (R443). -/
def State.clearImage (s : State) (im : Image) : State :=
  let addrs := (im.writes ++ arbiterWrites im.arbiter ++ equalWrites im.equal).map (·.1)
  let s := s.each addrs fun s a => s.loadReg a (regReset a).toNat
  let s := { s with regs := s.regs.filter fun x => !profScoped x.1 }
  let s := ((s.wr NODE_ID.ID 0).wr PROF_CTRL.EN 0).wr ATTN_MASK.EN 0
  let s := (((s.wr PROF_STAT.CUR 0).wr PROF_STAT.PITCH 0).wr PROF_STAT.N 0).wr BOOT_STAT.ACTIVE 0
  let s := (s.wr (PD_CTRL.OBS 0) 0).wr (PD_CTRL.OBS 1) 0
  let s := s.each (List.range 2) fun s h =>
    s.each (List.range 16) fun s j => (s.wr (GA_IN_STAT.IEXC_NOW h j) 0).wr (GA_IN_STAT.STEPPED h j) 0
  let s : State :=
    { s with
      boot := { s.boot with
        imageOn := false, dirMask := 0, bounds := [], sched := [], bridge := [], progs := [], profs := [],
        base := [], runFlag := false, prof0 := 0 }
      mg := { s.mg with patches := [], patchN := [], patchS := [] }
      pins := { s.pins with applied := false } }
  let s := s.each (List.range 2) fun s h => s.wr (MG_PATCH.HOOKS h) 0
  s.loadPrograms

end Sys2Proof.Machine
end

