-- ==== Sys2Proof/Machine/Check.lean ====
section
/-! DEFINITION. The consistency check: what each enable is decided on (R450 to R458), by the rules of the units' chapters
that carry reason codes. `s` is the state judged, whose enable bits are those of the units admitted so far; `w` has also
the bits still to be judged, as a start-up loads them, and decides what a unit may count on (entry 70). -/

namespace Sys2Proof.Machine

/-- Why a unit is refused: the unit named in REFUSE_UNIT, the reason and its detail (R452). -/
structure Bad where
  kind : Nat
  index : Nat
  reason : Nat
  detail : Nat
deriving DecidableEq, Repr

/-- Reason and detail, none where the rule is kept. -/
abbrev Ruling := Option (Nat × Nat)

/-- A rule that must hold, with the reason and detail of its refusal. -/
def must (ok : Bool) (reason detail : Nat) : Ruling := if ok then none else some (reason, detail)

/-- The first refusal of a list of rules. -/
def firstOf (vs : List Ruling) : Ruling := vs.findSome? id

/-- The first refusal over a list of things judged. -/
def firstAt {α : Type} (xs : List α) (f : α → Ruling) : Ruling := xs.findSome? f

/-- A register's detail: its address [15:0]. -/
def regDetail (a : Nat) : Nat := a % 2 ^ 16

/-- Detail with bit 15 for the south half. -/
def halfDetail (x h : Nat) : Nat := x % 2 ^ 15 + h * 2 ^ 15

/-! ## Enable bits (R450) -/

/-- The enable bit of a unit, none for a kind without one or an index beyond its kind (R450). -/
def enableField (kind i : Nat) : Option Field :=
  match kind with
  | 0 => if i = 0 then some GLOBAL_CTRL.RUN else none
  | 1 => if i < 512 then some (EV_CTRL.EN i) else none
  | 2 => if i < 96 then some (TCH_CTRL.EN i) else none
  | 3 => if i < 256 then some (PD_QGEN.EN i) else none
  | 4 => if i < 64 then some (RC_CTRL.EN i) else none
  | 5 => if i < 32 then some (SH_CTRL.EN i) else none
  | 6 => if i < 32 then some (RG_LANE_CTRL.EN i) else none
  | 7 => if i < 16 then some (RG_GRP_CTRL.EN i) else none
  | 8 => if i < 8 then some (HIP_CTRL.EN i) else none
  | 9 => if i < 2 then some (GA_CTRL.EN i) else none
  | 10 => if i < 64 ∧ i % 32 < 28 then some (GA_IN_A.EN (i / 32) (i % 32)) else none
  | 11 => if i < 5 then some ⟨Addr.TRG_CTRL, i, 1⟩ else none
  | 12 => if i < 4 then some ⟨Addr.PROF_CTRL, i, 1⟩ else none
  | _ => none

/-- Whether a unit's enable bit is set. -/
def State.unitOn (s : State) (kind i : Nat) : Bool := (enableField kind i).any s.on

/-- The kinds in the order of R451, without the device. -/
def checkOrder : List Nat := [8, 6, 7, 5, 4, 3, 9, 10, 2, 1, 11, 12]

/-- Every index of a kind, ascending. -/
def kindIndices (kind : Nat) : List Nat :=
  (List.range (match kind with
    | 1 => 512 | 2 => 96 | 3 => 256 | 4 => 64 | 5 => 32 | 6 => 32 | 7 => 16 | 8 => 8 | 9 => 2 | 10 => 60 | 11 => 5
    | 12 => 4 | _ => 1)).filter fun i => (enableField kind i).isSome

/-- The units enabled of a kind. -/
def State.unitsOn (s : State) (kind : Nat) : List Nat := (kindIndices kind).filter fun i => s.unitOn kind i

/-! ## Areas of the store (R196, R198, R238, R267) -/

/-- A run of bundles. -/
structure Area where
  id : Nat
  half : Nat
  base : Nat
  len : Nat
deriving DecidableEq, Repr

/-- Whether two runs share a bundle. -/
def Area.meets (a b : Area) : Bool :=
  decide (a.base < b.base + b.len) && decide (b.base < a.base + a.len)

/-- Whether a run lies in its half of the store (R28). -/
def Area.inHalf (a : Area) : Bool := decide (a.half * 16384 ≤ a.base) && decide (a.base + a.len ≤ (a.half + 1) * 16384)

/-- The dump loft (R196). -/
def loftArea : Area := ⟨0, 1, loftFirst, 256⟩

/-- The writers' regions (R198). -/
def State.regionAreas (s : State) : List Area :=
  (List.range 1024).filterMap fun w =>
    let n := s.rd (TH_REGION_LEN.LEN w)
    if n = 0 then none else some ⟨w, writerHalf w, s.rd (TH_REGION.BASE w), n⟩

/-- The acquisition rings, by group and half (R182). -/
def State.ringAreas (s : State) : List Area :=
  (List.range 32).filterMap fun i =>
    let (b, n) := s.ring (i / 16) (i % 16)
    if n = 0 then none else some ⟨halfDetail (i % 16) (i / 16), i / 16, b, n⟩

/-- The trace rings (R267). -/
def State.traceAreas (s : State) : List Area :=
  (List.range 2).filterMap fun h =>
    let n := s.rd (PD_TRACE_RING.LEN h)
    if n = 0 then none else some ⟨h, h, s.rd (PD_TRACE_RING.BASE h), n⟩

/-- The shared areas (R325). -/
def State.shareAreas (s : State) : List Area :=
  (List.range 16).filterMap fun i =>
    let (h, j) := (i / 8, i % 8)
    let (b, n) := if h = 0 then (s.rd (RC_SHARE_N.BASE j), s.rd (RC_SHARE_N.LEN j))
      else (s.rd (RC_SHARE_S.BASE j), s.rd (RC_SHARE_S.LEN j))
    if n = 0 then none else some ⟨halfDetail j h, h, b, n⟩

/-- A half's chain pool (R341). -/
def State.poolLen (s : State) (h : Nat) : Nat := if h = 0 then s.rd SH_CHAIN_N.LEN else s.rd SH_CHAIN_S.LEN

/-- The chain pools (R341). -/
def State.poolAreas (s : State) : List Area :=
  (List.range 2).filterMap fun h =>
    let b := if h = 0 then s.rd SH_CHAIN_N.BASE else s.rd SH_CHAIN_S.BASE
    if s.poolLen h = 0 then none else some ⟨h, h, b, s.poolLen h⟩

/-- An area's rule: inside its half, and meeting none of the others (but itself, of its own list). -/
def areaRule (out meet : Nat) (others : List Area) (a : Area) : Ruling :=
  firstOf [must a.inHalf out a.id, must (!others.any fun b => a.meets b) meet a.id]

/-- The other areas of a list. -/
def others (xs : List Area) (a : Area) : List Area := xs.filter fun b => b.id != a.id

/-- Regions, rings, trace rings, shared areas and chain pools (R185, R198, R238, R267, R323, R349). -/
def State.areaRules (s : State) : Ruling :=
  let reg := s.regionAreas
  let ring := s.ringAreas
  let trace := s.traceAreas
  let share := s.shareAreas
  let sum : Nat := ring.foldl (fun n (a : Area) => n + a.len) 0
  firstOf [
    firstAt reg fun a => must a.inHalf 0x30 a.id,
    firstAt reg fun a =>
      must (!((between a.id 616 639 || decide (800 ≤ a.id)) ||
        (others reg a ++ ring ++ [loftArea]).any fun b => a.meets b)) 0x31 a.id,
    firstAt ring fun a => areaRule 0x54 0x54 (others ring a ++ [loftArea]) a,
    must (decide (sum ≤ 28672)) 0x54 ((ring.getLast?.map (·.id)).getD 0),
    firstAt (List.range 2) fun h => must (!(s.on (PD_CTRL.OBS h) && s.rd (PD_TRACE_RING.LEN h) == 0)) 0x27 h,
    firstAt trace fun a => areaRule 0x27 0x27 (reg ++ ring ++ [loftArea]) a,
    firstAt share fun a => areaRule 0x82 0x82 (reg ++ ring ++ trace ++ others share a ++ [loftArea]) a,
    firstAt s.poolAreas fun a => areaRule 0x66 0x66 (reg ++ ring ++ trace ++ share ++ [loftArea]) a]

/-- A writer's region is long enough (R198). -/
def State.regionRule (s : State) (w : Nat) : Ruling := must (decide (9 ≤ s.rd (TH_REGION_LEN.LEN w))) 0x32 w

/-- The longest course that a pitch allows, in Tc (R42, R185). -/
def longestCourse (pitch : Nat) : Nat := 2 ^ [12, 16, 22, 22].getD pitch 22

/-- Rings long enough for their windows (R185): bytes, with 2,560 Tc to a µs. -/
def State.ringRule (s : State) : Ruling :=
  firstAt (List.range 32) fun i =>
    let (h, g) := (i / 16, i % 16)
    let rate := (s.groupSources h g).foldl (fun n x => n + x.2) 0
    let tc := (s.rd (ACQ_PRE.U g) + s.rd (ACQ_POST.U g)) * 256 + longestCourse (s.rd PROF_STAT.PITCH)
    must (!(s.on (ACQ_CTRL.MODE g) && decide ((s.ring h g).2 * 4096 * 2560 < rate * tc))) 0x53 (halfDetail g h)

/-! ## Weights and intake (R220) -/

/-- A half's weights. -/
def State.weightsOf (s : State) (h : Nat) : List Nat :=
  (List.range 12).map fun c => if h = 0 then s.rd (TH_WEIGHT_N.W c) else s.rd (TH_WEIGHT_S.W c)

/-- Sum of a list. -/
def total (xs : List Nat) : Nat := xs.foldl (· + ·) 0

/-- Intake of a half's enabled sources, bytes per µs (R185, R220). -/
def State.intake (s : State) (h : Nat) : Nat :=
  total ((s.enabledPorts.filter fun p => halfOf 512 p == h).map fun p => portRate (s.rd (EV_CTRL.GEN p))) +
    total ((s.enabledChans.filter fun c => halfOf 96 c == h).map s.chanRate)

/-- The weights' sum and the intake test of a half (R220). -/
def State.intakeRule (s : State) (h : Nat) : Ruling :=
  let ws := s.weightsOf h
  let needW := ceilDiv (1024 * s.intake h) 1638400
  let needD := ceilDiv (1024 * 6 * s.intake h) 1638400
  must (decide (total ws ≤ 1024) && decide (needW ≤ total (ws.take 2)) && decide (needD ≤ total (ws.take 8))) 0x33
    (halfDetail needD h)

/-- Both halves' weights and intake. -/
def State.intakeRules (s : State) : Ruling := firstAt (List.range 2) s.intakeRule

/-! ## Queues (R240 to R258, R272) -/

/-- The hardware sources among the enabled units, and the fixed writers, that name a queue (R240). -/
def State.claims (s : State) (q : Nat) : List Nat :=
  ((s.enabledPorts.filter fun p => inRange (s.rd (EV_QUEUE.QBASE p)) (s.rd (EV_QUEUE.QCOUNT p)) q) ++
    ((s.enabledChans.filter fun c => inRange (s.rd (TCH_QUEUE.QBASE c)) (s.rd (TCH_QUEUE.QCOUNT c)) q).map (512 + ·)) ++
    (if (s.reg Addr.NT_CFG) = 0 then [] else
      (if s.rd NT_CFG.QN = q then [614] else []) ++ if s.rd NT_CFG.QS = q then [615] else []) ++
    ((s.listed (Addr.ACQ_MQ 0) 0x40 16).flatMap fun (x : Nat × Nat) =>
      (if bits x.2 0 14 = q then [610] else []) ++ if bits x.2 16 14 = q then [611] else []) ++
    (if s.on TRG_CTRL.PRIMS_COPY then
      (if s.rd TRG_PQ.N = q then [608] else []) ++ if s.rd TRG_PQ.S = q then [609] else [] else []) ++
    ((List.range 2).filter fun h => s.unitOn 9 h && s.rd (GA_Q.N h) == q).map (612 + ·) ++
    ((s.listed (Addr.SH_QCFG_OUTQ 0) 8 16384).filterMap fun (x : Nat × Nat) =>
      if bits x.2 0 14 = q ∧ s.rd (PQ_CFG.SINK x.1) = 1 ∧ s.unitOn 3 (x.1 / 64)
      then some (768 + s.rd (PQ_CFG.TARGET x.1)) else none)).eraseDups

/-- A queue serves owner `o` of half `h`: it lies in that half, and no other source or firmware owns it. -/
def State.ownsAlone (s : State) (o h q : Nat) : Bool :=
  decide (q < 16384) && s.rd (PQ_CFG.HALF q) == h && !s.on (PQ_CFG.FWPUSH q) && (s.claims q).all (· == o)

/-- A source's queues: in its half and its own alone, else `reason`; and in groups enabled, else 0x20 (R242, R272).
(log 134: DEDUCED) -/
def State.queueRules (s w : State) (o h reason : Nat) (qs : List Nat) : Ruling :=
  firstOf [firstAt qs fun q => must (s.ownsAlone o h q) reason q,
    firstAt qs fun q => must (w.unitOn 3 (q / 64)) 0x20 q]

/-- The queues of a range. -/
def queueRange (first count : Nat) : List Nat := (List.range (count + 1)).map (first + ·)

/-- Whether a queue leads a join set (R249). -/
def State.isLeader (s : State) (q : Nat) : Bool := s.rd (PQ_CFG.WAIT q) == 1 && !s.on (PQ_CFG.FOLLOW q)

/-- The queues in groups that are enabled, and those of group `j`. -/
def State.queuesOn (s : State) (j : Option Nat) : List Nat :=
  ((List.range 256).filter fun g => s.unitOn 3 g || j == some g).flatMap fun g => queueRange (64 * g) 63

/-- A leader's join set is valid (R249): it is a member; every other member follows, lies in its half and belongs to no
other set among the queues in use. -/
def State.joinRule (s : State) (inUse : List Nat) (q : Nat) : Ruling :=
  let ms := s.joinSet q
  let others := (inUse.filter fun l => l != q && s.isLeader l).flatMap s.joinSet
  must (ms.contains q && (ms.filter (· != q)).all fun m =>
    decide (m < 16384) && s.on (PQ_CFG.FOLLOW m) && s.rd (PQ_CFG.HALF m) == s.rd (PQ_CFG.HALF q) &&
      !others.contains m) 0x23 q

/-- A class's map in a half, and whether the half may lend to the other's (R256). -/
def State.classServed (s : State) (h c : Nat) (cores : Nat → Nat → Bool) : Bool :=
  cores h c || (s.on (PD_LEND.EN h) && cores (1 - h) c)

/-- One queue of a group (R243, R247, R249, R253, R256, R258, R272, R345, R349). -/
def State.queueRule (s w : State) (inUse : List Nat) (q : Nat) : Ruling :=
  let h := s.rd (PQ_CFG.HALF q)
  let sink := s.rd (PQ_CFG.SINK q)
  let t := s.rd (PQ_CFG.TARGET q)
  let cap := s.rd (PQ_LIM.CAP q)
  let c := s.rd (PQ_CFG.CLASS q)
  let outq := s.rd (SH_QCFG_OUTQ.OUTQ q)
  firstOf [
    must (decide (8 ≤ cap) && decide (cap ≤ 4095)) 0x22 q,
    must (s.rd (PQ_LIM.TMO q) != 0) 0x24 q,
    must (sink != 3 && (sink != 1 || (decide (t < 32) && halfOf 32 t == h)) &&
      (sink != 2 || (decide (t < 16) && halfOf 16 t == h))) 0x26 q,
    must (sink != 1 || w.unitOn 5 t) 0x60 q,
    must (sink != 1 || (decide (8 ≤ s.rd (SH_QCFG.BLKMAX q)) && decide (s.rd (SH_QCFG.BLKMAX q) ≤ 16))) 0x62 q,
    must (sink != 1 || s.rd (SH_QCFG.ORDER q) != 3) 0x63 q,
    must (sink != 1 || (s.ownsAlone (768 + t) h outq && s.rd (PQ_CFG.SINK outq) != 1)) 0x64 q,
    must (decide (s.rd (PQ_CFG.WAIT q) ≤ 3)) 0x28 q,
    if s.isLeader q then s.joinRule inUse q else none,
    must (sink != 0 || s.classServed h c fun h c => s.rd (PD_CLASS_MAP.CORES h c) != 0) 0x25 (halfDetail c h),
    match s.claims q with
    | [] => none
    | [o] => must (writerHalf o == h && !s.on (PQ_CFG.FWPUSH q)) 0x20 q
    | _ => some (0x20, q)]

/-- The streams that an engine is given by the enabled queues (R330, R349). -/
def State.streamsOf (s : State) (inUse : List Nat) (e : Nat) : Nat :=
  (inUse.filter fun q => s.rd (PQ_CFG.SINK q) == 1 && s.rd (PQ_CFG.TARGET q) == e).length

/-- The dump queue, when it is named and lies in group `j`: in the half that `PQ_CFG.HALF` names, and with `SINK` RIDGE
(R505). -/
def State.dumpRule (s : State) (j : Nat) : Ruling :=
  let q := s.rd MG_DUMP.Q
  if s.reg Addr.MG_DUMP = 0 ∨ q / 64 ≠ j then none
  else firstOf [must (s.queueHalf q == s.rd (PQ_CFG.HALF q)) 0x20 q, must (s.rd (PQ_CFG.SINK q) == 2) 0x26 q]

/-- A queue group (R242, R243, R272). -/
def State.groupRule (s w : State) (j : Nat) : Ruling :=
  let inUse := s.queuesOn (some j)
  let cap := fun h => total ((inUse.filter fun q => s.rd (PQ_CFG.HALF q) == h).map fun q => s.rd (PQ_LIM.CAP q))
  firstOf [
    firstAt (queueRange (64 * j) 63) (s.queueRule w inUse),
    s.dumpRule j,
    firstAt (List.range 32) fun e => must (decide (s.streamsOf inUse e ≤ 32)) 0x61 e,
    firstAt (List.range 2) fun h => must (decide (cap h ≤ 65536)) 0x21 (halfDetail j h)]

/-! ## The device (R451) -/

/-- A schedule entry's kind, profile and seconds (R435). (log 121: DEDUCED) -/
def schedKind (v : U32) : Nat := bits v.toNat 2 2

/-- An entry of the schedule is valid (R462). -/
def State.schedOk (w : State) (v : U32) : Bool :=
  v == 0 || (schedKind v != 3 && (schedKind v != 1 || decide (bits v.toNat 4 28 ≤ 86399)) &&
    w.unitOn 12 (bits v.toNat 0 2))

/-- The entries of HIP_PREF that name a link (R393). -/
def State.prefLinks (s : State) : List Nat :=
  ((List.range 8).map fun i => bits (s.rd HIP_PREF.L) (4 * i) 4).filter (· != 15)

/-- Hip hops below the node that TIME_LEAD has to cover (R77): the tree's greatest depth below it. -/
def State.depthBelow (s w : State) : Nat :=
  if (w.unitsOn 8).isEmpty then 0 else s.rd HIP_CFG.MAXDEPTH - s.rd TREE_STAT.DIST

/-- The access bounds are valid (R438). -/
def boundsOk : List (Nat × Nat × Nat) → Bool
  | [] => true
  | (b, n, _) :: rest =>
    b % 4096 == 0 && n % 4096 == 0 && n != 0 &&
      rest.all (fun x => decide (b + n ≤ x.1) || decide (x.1 + x.2.1 ≤ b)) && boundsOk rest

/-- Each half's weights (R220). -/
def State.weightSums (s : State) : Ruling :=
  firstAt (List.range 2) fun h => must (decide (total (s.weightsOf h) ≤ 1024)) 0x33 (halfDetail 0 h)

/-- The device step (R451): GLOBAL, CLOCKING, the node id, CONTROL, the tree settings, and the areas of the store.
(log 60: DEDUCED) -/
def State.deviceRule (s w : State) : Option Bad :=
  let src := s.rd TIME_CFG.SOURCE
  let link := s.rd TIME_CFG.HIP_LINK
  let pref := s.prefLinks
  let lead := ceilDiv (1000 + 48 * s.depthBelow w) 100
  let sched := s.boot.sched.zipIdx.find? fun x => !w.schedOk x.1
  match sched with
  | some (v, i) => some ⟨12, bits v.toNat 0 2, 0xA6, i⟩
  | none =>
  if s.boot.imageOn ∧ (!w.unitOn 12 s.boot.prof0 ∨ !(s.prof s.boot.prof0).present) then
    some ⟨12, s.boot.prof0, 0xA3, s.boot.prof0⟩
  else (firstOf [
    must (src != 3) 0x10 3,
    must (src != 1 || w.unitOn 8 link) 0x10 link,
    must (decide (320 ≤ s.rd TRG_DELAY.TC)) 0x11 (s.rd TRG_DELAY.TC),
    must (decide (total (s.boot.bridge.take 5) ≤ 1024)) 0x13 0,
    must (decide (total (s.boot.bridge.drop 5) ≤ 1024)) 0x13 1,
    must (src != 1 || s.rd ALIGN_TOL.TF != 0) 0x14 0,
    must (decide (s.nodeId < 0xFFFE)) 0x91 s.nodeId,
    must (boundsOk s.boot.bounds) 0x4D 0,
    must (decide (1 ≤ s.rd RG_CTL_CFG.MAXOUT) && decide (s.rd RG_CTL_CFG.MAXOUT ≤ 256)) 0x4D (regDetail Addr.RG_CTL_CFG),
    must (s.rd HIP_CFG.ROOT_PRIO != 0 && s.rd HIP_CFG.MAXDEPTH != 0) 0x90 (regDetail Addr.HIP_CFG),
    must (src != 1 || bits (s.rd HIP_PREF.L) 0 4 == link) 0x94 (bits (s.rd HIP_PREF.L) 0 4),
    firstAt pref fun l => must (w.unitOn 8 l && (pref.filter (· == l)).length == 1) 0x4C l,
    must (decide (lead ≤ s.rd TIME_LEAD.UNITS)) 0x93 lead,
    must (!(s.on RG_FWDIN.VALID && s.on (RG_GRP_CTRL.FWD (s.rd RG_FWDIN.GRP)))) 0x4F (s.rd RG_FWDIN.GRP),
    s.areaRules,
    w.ringRule,
    s.weightSums,
    must (decide (s.rd TH_WFIFO.OCT_HIGH ≤ 248) && decide (s.rd TH_WFIFO.TIM_HIGH ≤ 120)) 0x34 (regDetail Addr.TH_WFIFO),
    must (s.rd TH_STARVE_LIMIT.CYC != 0) 0x35 0,
    must (s.rd TH_MIG_LIMIT.CORR_LIMIT != 0 && s.rd TH_MIG_LIMIT.UNCORR_LIMIT != 0) 0x37 0]).map fun v =>
      ⟨0, 0, v.1, v.2⟩

/-! ## Ridge and Hip (R390) -/

/-- Lanes of a group, active or spare. -/
def State.grpMask (s : State) (g : Nat) : Nat := Nat.lor (s.rd (RG_GRP_CTRL.LANES g)) (s.rd (RG_GRP_SPARE.MASK g))

/-- A lane (R353, R356, R390): with the lanes admitted of its group it has one generation. -/
def State.laneRule (s : State) (l : Nat) : Ruling :=
  let gen := s.rd (RG_LANE_CTRL.GEN l)
  let mates := (List.range 16).filter fun g => s.unitOn 7 g && g / 8 == halfOf 32 l && bitAt (s.grpMask g) (l % 16)
  firstOf [
    must (gen != 3 && mates.all fun g => (s.allLanes g).all fun k =>
      k == l || !s.unitOn 6 k || s.rd (RG_LANE_CTRL.GEN k) == gen) 0x48 l,
    must (s.rd (RG_EQ.E l) < 2 ^ 26) 0x4E l]

/-- The lowest lane of a half's mask. -/
def lowLane (g mask : Nat) : Nat := (groupLanes g mask).headD 0

/-- A lane group (R359, R360, R367, R382, R390). -/
def State.laneGroupRule (s : State) (g : Nat) : Ruling :=
  let named := s.rd (RG_GRP_CTRL.LANES g)
  let both := Nat.land named (s.rd (RG_GRP_SPARE.MASK g))
  let fwd := s.on (RG_GRP_CTRL.FWD g)
  let lanes := s.allLanes g
  let gen := s.rd (RG_LANE_CTRL.GEN (lanes.headD 0))
  let frag := s.rd (RG_GRP_CFG.FRAG g)
  let fill := s.rd (RG_GRP_CFG.FILL g)
  let node := s.rd (RG_GRP_FWD.NODE g)
  let min_ := s.rd (RG_GRP_CFG.MIN g)
  firstOf [
    must (!(fwd && (s.grpMask g != 0 || node == s.nodeId || decide (0xFFFE ≤ node) ||
      (s.on RG_FWDIN.VALID && s.rd RG_FWDIN.GRP == g)))) 0x4F g,
    firstAt lanes fun l => must (s.rd (RG_LANE_CTRL.GEN l) == gen && s.rd (RG_LANE_CTRL.GEN l) != 3) 0x48 l,
    must (both == 0) 0x49 (lowLane g both),
    firstAt (s.unitsOn 7) fun o =>
      let shared := Nat.land (s.grpMask g) (s.grpMask o)
      must (o == g || o / 8 != g / 8 || shared == 0) 0x49 (lowLane g shared),
    must (fwd || (min_ != 0 && decide (min_ ≤ (s.namedLanes g).length))) 0x4A g,
    must (decide (64 ≤ frag) && decide (frag ≤ 512) && decide (16 ≤ fill) && decide (fill ≤ 8192) &&
      decide (16 ≤ s.rd (RG_GRP_WIN.WINDOW g))) 0x4B g]

/-! ## Engines and cores (R256, R323, R345, R349) -/

/-- An engine (R198, R335, R341, R349). -/
def State.engineRule (s w : State) (e : Nat) : Ruling :=
  let keyed := (List.range 64).filter fun j => s.on (SH_KEYED.VALID j)
  firstOf [
    s.regionRule (768 + e),
    must (decide (17 ≤ s.poolLen (halfOf 32 e))) 0x66 (halfOf 32 e),
    must (decide (s.rd SH_EFFORT.STREAM ≤ 4) && decide (s.rd SH_EFFORT.KEYED ≤ 4)) 0x67 (regDetail Addr.SH_EFFORT),
    must (decide (w.streamsOf (w.queuesOn none) e ≤ 32)) 0x61 e,
    firstAt keyed fun j =>
      must (!keyed.any fun i => decide (i < j) && s.rd (SH_KEYED.SOURCE i) == s.rd (SH_KEYED.SOURCE j)) 0x65 j]

/-- Whether a half's image may ever lend tasks: in its base values or in any enabled profile (R198). -/
def State.lendEnabled (s w : State) (h : Nat) : Bool :=
  let lends := fun (v : U32) => (PD_LEND.EN h).of v.toNat == 1 && (PD_LEND.MAX h).of v.toNat != 0
  lends ((Tab.get none s.boot.base (Addr.PD_LEND h)).getD (regReset (Addr.PD_LEND h))) ||
    (w.unitsOn 12).any fun p => lends (s.profValue p (Addr.PD_LEND h))

/-- A core (R198, R315, R323, R437). -/
def State.coreRule (s w : State) (k : Nat) : Ruling :=
  let n := s.rd (RC_CTRL.PROG k)
  firstOf [
    match s.boot.progs.find? fun x => x.1 == n with
    | none => some (0x80, k)
    | some (_, b) => must (decide (b.length ≤ 65536)) 0x81 n,
    s.regionRule (640 + k),
    if s.lendEnabled w (1 - k / 32) then s.regionRule (704 + k) else none]

/-- Every class that an enabled queue needs keeps a core in service (R256). -/
def State.classRules (s : State) : Ruling :=
  let has := fun (h c : Nat) => (List.range 32).any fun i =>
    bitAt (s.rd (PD_CLASS_MAP.CORES h c)) i && s.unitOn 4 (32 * h + i)
  firstAt ((s.queuesOn none).filter fun q => s.rd (PQ_CFG.SINK q) == 0) fun q =>
    let h := s.rd (PQ_CFG.HALF q)
    must (s.classServed h (s.rd (PQ_CFG.CLASS q)) has) 0x25 (halfDetail (s.rd (PQ_CFG.CLASS q)) h)

/-! ## Gauge (R400, R407, R411, R412, R424) -/

/-- An input's share of its unit's load, as a fraction (R407). -/
def State.loadOf (s : State) (h j : Nat) : Nat × Nat :=
  let fixed := 5 + 10 * s.rd (GA_IN_B.SETTLE h j)
  let busy := fixed + 4 * 2 ^ s.rd (GA_IN_A.AVG h j)
  let ow := s.rd (GA_CFG.OW_EVERY h)
  let period := 10 * s.rd (GA_IN_P.PERIOD h j)
  if s.on (GA_IN_A.OW h j) then (busy * ow + fixed + 4, ow * period) else (busy, period)

/-- The load of a unit's enabled inputs, as a fraction (R407). -/
def State.unitLoad (s : State) (h : Nat) : Nat × Nat :=
  ((List.range 28).filter fun j => s.on (GA_IN_A.EN h j)).foldl (fun (acc : Nat × Nat) j =>
    let x := s.loadOf h j
    if x.2 = 0 then acc else (acc.1 * x.2 + x.1 * acc.2, acc.2 * x.2)) (0, 1)

/-- The load is at most 3.0; the detail is it in hundredths (R407). -/
def State.loadRule (s : State) (h : Nat) : Ruling :=
  let l := s.unitLoad h
  must (decide (l.1 ≤ 3 * l.2)) 0x71 (halfDetail (min 0x7FFF (100 * l.1 / l.2)) h)

/-- Coefficients of an input's set. -/
def State.coefOf (s : State) (h j i : Nat) : U32 := s.reg (Addr.GA_COEF h (4 * s.rd (GA_IN_A.COEF h j) + i))

/-- Whether a binary32 pattern is a NaN or an infinity. -/
def notFinite (v : U32) : Bool := bits v.toNat 23 8 == 255

/-- Whether a binary32 pattern is at most zero. -/
def notPositive (v : U32) : Bool := bitAt v.toNat 31 || v.toNat == 0

/-- How many coefficients a curve uses (R411). -/
def curveCoefs (c : Nat) : Nat :=
  match c with
  | 1 => 2 | 2 => 3 | 3 => 1 | 4 => 1 | 5 => 1 | 6 => 1 | 7 => 2 | 8 => 2 | 9 => 3 | _ => 0

/-- The coefficient set of an external input is valid (R412). -/
def State.coefOk (s : State) (h j : Nat) : Bool :=
  let c := s.rd (GA_IN_A.CURVE h j)
  !((List.range (curveCoefs c)).any fun i => notFinite (s.coefOf h j i)) &&
    !(c == 1 && notPositive (s.coefOf h j 0)) && !(c == 2 && notPositive (s.coefOf h j 1)) &&
    !(c == 9 && (notPositive (s.coefOf h j 0) || notPositive (s.coefOf h j 1)))

/-- The reference inputs that an input counts on are enabled and of the right curve (R412). -/
def State.refRule (s w : State) (h j : Nat) : Ruling :=
  let c := s.gaCurve h j
  let cj := s.rd (GA_IN_A.CJ h j)
  let r := s.rd (GA_IN_B.REFIN h j)
  firstOf [
    must (!(decide (16 > j) && between c 3 6) ||
      (w.unitOn 10 (32 * h + cj) && [1, 2, 10].contains (s.gaCurve h cj))) 0x77 j,
    must (!(decide (16 > j) && c == 8) || (w.unitOn 10 (32 * h + r) && s.gaCurve h r == 0)) 0x78 j]

/-- The pins an input drives, with their sources (R400). -/
def State.drives (s : State) (h j : Nat) : List (Nat × Nat) := (s.gaHolds h j false).2.zip (s.gaHolds h j false).1

/-- A Gauge unit (R198, R403, R424). -/
def State.gaugeRule (s w : State) (h : Nat) : Ruling :=
  firstOf [
    must (s.rd (GA_CFG.ROT h) != 0) 0x75 0xFF,
    s.queueRules w (612 + h) h 0x76 [s.rd (GA_Q.N h)],
    s.regionRule (612 + h),
    s.loadRule h]

/-- A Gauge input, judged as enabled (R396 to R400, R411, R412, R424). -/
def State.inputRule (s w : State) (i : Nat) : Ruling :=
  let (h, j) := (i / 32, i % 32)
  let ext := decide (j < 16)
  let src := s.rd (GA_IN_B.SRC h j)
  let src2 := s.rd (GA_IN_B.SRC2 h j)
  let mine := s.drives h j
  let clash := (List.range 16).any fun k => k != j && s.on (GA_IN_A.EN h k) &&
    (s.drives h k).any fun x => mine.any fun y => x.1 == y.1 && x.2 != y.2
  firstOf [
    must (!ext || (decide (s.rd (GA_IN_A.NEG h j) ≤ 16) && !clash)) 0x70 i,
    must (!ext || decide (s.rd (GA_IN_A.CURVE h j) < 12)) 0x72 i,
    must (!ext || (decide (src ≤ 8) && decide (src2 ≤ 8) && (src2 != src || src == 8))) 0x74 i,
    must ((!ext || (s.rd (GA_IN_A.RANGE h j) != 3 && decide (s.rd (GA_IN_B.SETTLE h j) ≤ 65))) &&
      s.rd (GA_IN_P.PERIOD h j) != 0 &&
      !(ext && s.on (GA_IN_A.OW h j) && s.rd (GA_CFG.OW_EVERY h) == 0)) 0x75 i,
    must (!ext || s.coefOk h j) 0x73 (s.rd (GA_IN_A.COEF h j)),
    (s.refRule w h j).map fun v => (v.1, i),
    (s.wr (GA_IN_A.EN h j) 1).loadRule h]

/-! ## Timing channels and ports (R85 to R110, R138 to R149) -/

/-- A timing channel (R85 to R89, R97, R105, R110, R190, R198). -/
def State.channelRule (s w : State) (c : Nat) : Ruling :=
  let bad := fun (ok : Bool) (off : Nat) => must ok 0x12 (c + off * 256)
  let armW := decide (2 ≤ s.rd (TCH_CTRL.ARM c))
  let thr := toSigned 10 (s.rd (TCH_THR.THRESH c))
  let align := toSigned 16 (s.rd (TCH_ALIGN.TF c))
  let h := halfOf 96 c
  firstOf [
    bad (s.rd (TCH_CTRL.EDGE c) != 3 && decide (s.rd (TCH_CTRL.GATE_SEL c) ≤ 11) && s.rd (TCH_CTRL.RATE c) != 3 &&
      s.rd (TCH_CTRL.CALMODE c) != 3) 0x00,
    bad (decide (-250 ≤ thr) && decide (thr ≤ 250) && decide (s.rd (TCH_THR.HYST c) ≤ 40)) 0x04,
    bad (decide (s.rd (TCH_HOLD.TC c) ≤ 64)) 0x08,
    bad (decide (-16384 ≤ align) && decide (align ≤ 16384)) 0x14,
    must (!(armW && s.rd (TCH_WIN.LEN c) == 0)) 0x50 c,
    s.queueRules w (512 + c) h 0x20 (queueRange (s.rd (TCH_QUEUE.QBASE c)) (s.rd (TCH_QUEUE.QCOUNT c))),
    s.regionRule (512 + c)]

/-- Intake latency of a generation, ns (R112). -/
def tIntNs (gen : Nat) : Nat := [40, 60, 1080].getD gen 1080

/-- Frame words per 100 µs of a generation (R112). -/
def wordRate (gen : Nat) : Nat := [400, 1939, 7200].getD gen 7200

/-- CABLE_NS of a port's balls (R138). -/
def State.cableNs (s : State) (p : Nat) : Nat := bits (s.rd (EV_EQ_LO.E p)) 24 8

/-- The words a port's FIFO must still take once it has passed its mark (R143). -/
def State.holdHead (s : State) (p : Nat) : Nat :=
  let gen := s.rd (EV_CTRL.GEN p)
  let cable := if s.on (EV_CTRL.AUTO_SWAP p) then max (s.cableNs p) (s.cableNs (Nat.xor p 1)) else s.cableNs p
  -- t_w in quarter ns, the rate in words per 100 µs
  257 + ceilDiv (wordRate gen * (160 + 125 + 8 * cable + 400 + 4 * tIntNs gen)) 400000

/-- The lowest bit of an equalisation entry that breaks R138. -/
def State.eqBadBit (s : State) (p : Nat) : Option Nat :=
  let e := s.rd (EV_EQ_LO.E p) + s.rd (EV_EQ_HI.E p) * 2 ^ 32
  (List.range 64).find? fun i => bitAt e i && (i == 7 || i == 23 || decide (32 ≤ i))

/-- An Eave port (R112, R124, R129, R138, R143, R149, R190, R198). -/
def State.portRule (s w : State) (p : Nat) : Ruling :=
  let gen := s.rd (EV_CTRL.GEN p)
  let h := halfOf 512 p
  let head := s.holdHead p
  let tmo := s.rd (EV_CLOSE.TMO p)
  firstOf [
    must (gen != 3) 0x40 3,
    match s.eqBadBit p with
    | some b => some (0x43, b)
    | none => none,
    must (decide (s.rd (EV_FIFO.HIGH p) + head ≤ 511) && decide (s.rd (EV_FIFO.LOW p) < s.rd (EV_FIFO.HIGH p))) 0x42
      (511 - head),
    must (tmo != 0 && decide (tIntNs gen + 2 * s.cableNs p ≤ 25 * tmo)) 0x46 0x18,
    must (s.rd (EV_RLY.TMO p) != 0 && s.rd (EV_RLY.MAXOUT p) != 0 && decide (s.rd (EV_RLY.MAXOUT p) ≤ 4)) 0x46 0x1C,
    must (decide (s.rd (EV_TRG.DLY p) ≤ 16383)) 0x46 0x14,
    s.queueRules w p h 0x41 (queueRange (s.rd (EV_QUEUE.QBASE p)) (s.rd (EV_QUEUE.QCOUNT p))),
    must (s.rd (RD_CTRL.MODE p) != 3 && decide (s.rd (RD_CTRL.QROT p) ≤ s.rd (EV_QUEUE.QCOUNT p))) 0x51 p,
    s.regionRule p]

/-- A trigger source (R181, R188, R190): the queues of the MARK writers, and of the primitive units where they write
records. -/
def State.triggerRule (s : State) : Ruling :=
  let qs := (if s.on TRG_CTRL.PRIMS_COPY then [(608, 0, s.rd TRG_PQ.N), (609, 1, s.rd TRG_PQ.S)] else []) ++
    ((List.range 16).filter fun g => s.rd (ACQ_CTRL.CLSMASK g) != 0).flatMap fun g =>
      [(610, 0, s.rd (ACQ_MQ.N g)), (611, 1, s.rd (ACQ_MQ.S g))]
  firstAt qs fun (o, h, q) => must (s.ownsAlone o h q) 0x56 q

/-! ## Any unit (R451) -/

/-- Clearing a unit's bit: what a remaining unit that depends on it makes of it (R256, R258, R345, R412, R455, R456). -/
def State.retireRule (s : State) (kind i : Nat) : Ruling :=
  match enableField kind i with
  | none => none
  | some f =>
    let t := s.wr f 0
    match kind with
    | 4 => t.classRules
    | 5 => firstAt (t.queuesOn none) fun q => must (!(s.rd (PQ_CFG.SINK q) == 1 && s.rd (PQ_CFG.TARGET q) == i)) 0x60 q
    | 7 => firstAt (t.queuesOn none) fun q => must (!(s.rd (PQ_CFG.SINK q) == 2 && s.rd (PQ_CFG.TARGET q) == i)) 0x26 q
    | 8 => must (!(s.rd TIME_CFG.SOURCE == 1 && s.rd TIME_CFG.HIP_LINK == i)) 0x10 i
    | 10 => firstAt (t.unitsOn 10) fun k =>
        if k / 32 = i / 32 then (t.refRule t (k / 32) (k % 32)).map fun v => (v.1, k) else none
    | 12 => must (!(s.rd PROF_STAT.CUR == i || (s.on PROF_STAT.SWITCH_PEND && s.rd PROF_STAT.PEND == i))) 0xA5 i
    | _ => none

/-- Setting a unit's bit: its own fields, and its relations to the units admitted (R451). Profiles are judged by their
own rule. -/
def State.unitRule (s w : State) (kind i : Nat) : Ruling :=
  match kind with
  | 1 => s.portRule w i
  | 2 => s.channelRule w i
  | 3 => s.groupRule w i
  | 4 => s.coreRule w i
  | 5 => s.engineRule w i
  | 6 => s.laneRule i
  | 7 => s.laneGroupRule i
  | 8 => must (s.rd (HIP_EQ.E i) < 2 ^ 26) 0x4E (0x100 + i)
  | 9 => s.gaugeRule w i
  | 10 => s.inputRule w i
  | 11 => s.triggerRule
  | _ => none

/-- A channel's rate that its pitch cannot reach (R43, R97, R456). -/
def State.rateRule (s : State) (c : Nat) : Option Bad :=
  if s.rd PROF_STAT.PITCH = 3 ∧ s.rd (TCH_CTRL.RATE c) = 1 then
    some ⟨12, s.rd PROF_STAT.CUR, 0xA1, regDetail (Addr.TCH_CTRL c)⟩
  else none

/-- Every unit admitted, and what the device step asks of the registers a profile sets, judged again; the intake too where
asked (R441, R451, R453, R456, entry 70). -/
def State.allRules (s : State) (intake : Bool) : Ruling :=
  firstOf [
    s.ringRule,
    s.weightSums,
    firstAt (checkOrder.filter (· != 12)) fun kind => firstAt (s.unitsOn kind) fun i =>
      s.unitRule s kind i,
    s.classRules,
    if intake then s.intakeRules else none]

/-- The rules of a profile's own section and of the registers it sets (R42, R43, R169, R190, R440, R456).
(log 70: DEDUCED) -/
def State.profileRule (s : State) (p : Nat) : Option Bad :=
  let x := s.prof p
  let bad := fun (r d : Nat) => some (⟨12, p, r, d⟩ : Bad)
  if !x.present then bad 0xA3 p
  else if !between x.expN 10 22 || !pitchAllows x.pitch x.expN then bad 0xA0 x.expN
  else if x.pitch = 3 ∧ (x.clk % 4 = 1 ∨ x.clk / 4 = 1) then bad 0xA1 0x0003
  else
    let t := s.takeProfile p
    match (s.unitsOn 2).findSome? fun c => t.rateRule c with
    | some b => some b
    | none =>
    if 448 < t.rd PR_TIMING.HOLD + t.rd PR_TIMING.BATCH then bad 0x52 p
    else
    match (List.range 16).find? fun k => t.rd (DEC_COND.LMASK k) != 0 &&
        (t.rd (DEC_COND.MINCNT k) == 0 || t.rd (DEC_WIN.TC k) == 0) with
    | some k => bad 0x55 k
    | none =>
    match (List.range 16).find? fun g => t.on (ACQ_CTRL.MODE g) && t.rd (ACQ_CTRL.CLSMASK g) == 0 with
    | some g => bad 0x57 g
    | none => none

/-- A profile against the present state: every unit admitted, under the profile's values (R451, R456, R460). The
start-up check leaves the intake to its own step (R451). (log 70: DEDUCED) -/
def State.profileFits (s : State) (p : Nat) (intake : Bool) : Option Bad :=
  match s.profileRule p with
  | some b => some b
  | none => ((s.takeProfile p).allRules intake).map fun v => ⟨12, p, 0xA4, v.1 % 256⟩

/-- One enable decided under one profile's values (R451). -/
def State.decideUnder (s w : State) (kind i : Nat) (on : Bool) : Option Bad :=
  if !on then (s.retireRule kind i).map fun v => ⟨kind, i, v.1, v.2⟩
  else if kind = 12 then none
  else
    match (s.unitRule w kind i).map fun v => (⟨kind, i, v.1, v.2⟩ : Bad) with
    | some b => some b
    | none => if kind = 2 then s.rateRule i else none

/-- What a run-time enable adds: the intake of the half of a source (R220), with its bit set. -/
def State.sourceIntake (s : State) (kind i : Nat) : Option Bad :=
  let t := (((enableField kind i).map fun f => s.wr f 1)).getD s
  if kind = 1 then (t.intakeRule (halfOf 512 i)).map fun v => ⟨1, i, v.1, v.2⟩
  else if kind = 2 then (t.intakeRule (halfOf 96 i)).map fun v => ⟨2, i, v.1, v.2⟩
  else none

/-- One enable at run time: under the profile in force and under a pending one (R220, R451, R453). -/
def State.decideUnit (s : State) (kind i : Nat) (on : Bool) : Option Bad :=
  let under := fun (t : State) => (t.decideUnder t kind i on) <|> (if on then t.sourceIntake kind i else none)
  let own := if kind = 12 ∧ on then s.profileFits i true else under s
  own <|> (match s.boot.pendProf with
    | some (p, _) => under (s.takeProfile p)
    | none => none)

/-! ## Start-up and RUN (R448, R451) -/

/-- A refusal recorded (R452). -/
def State.refuseBad (s : State) (b : Bad) : State := s.refuse b.kind b.index b.reason b.detail

/-- Every bit set is judged in order; those refused are cleared (R451). `s` gathers the bits that pass, `w` holds them
and those still to be judged. (log 25: DEDUCED) -/
def checkAllUnits : List (Nat × Nat) → State → State → State
  | [], s, _ => s
  | (kind, i) :: us, s, w =>
    match enableField kind i with
    | none => checkAllUnits us s w
    | some f =>
      let bad := if kind = 12 then s.profileFits i false else s.decideUnder w kind i true
      match bad with
      | none => checkAllUnits us (s.wr f 1) w
      | some b => checkAllUnits us (s.refuseBad b) (w.wr f 0)

/-- The bits of every unit cleared. -/
def State.clearUnits (s : State) (us : List (Nat × Nat)) : State :=
  s.each us fun s u => match enableField u.1 u.2 with
    | some f => s.wr f 0
    | none => s

/-- The check of every enable bit (R451): the state with the bits that passed, and whether RUN is not refused. -/
def State.checkAll (s : State) : State × Bool :=
  match s.deviceRule s with
  | some b => (s.refuseBad b, false)
  | none =>
    let us := checkOrder.flatMap fun kind => (s.unitsOn kind).map fun i => (kind, i)
    let t := checkAllUnits us (s.clearUnits us) s
    match (t.unitsOn 12).findSome? fun p => (t.takeProfile p).intakeRules with
    | some v => (t.refuse 0 0 v.1 v.2, false)
    | none =>
      -- R459: PROF0 is in force at RUN, so its refusal refuses RUN
      if t.boot.imageOn ∧ !t.unitOn 12 t.boot.prof0 then (t.refuse 12 t.boot.prof0 0xA3 t.boot.prof0, false)
      else (t, true)

end Sys2Proof.Machine
end

