-- ==== Sys2Proof/Machine/Flags.lean ====
section
/-! DEFINITION. The flag and overflow computations of a rafter core: carry, accumulator saturation, and the
sticky bits of STAT (R274, R283, R298, R299). -/

namespace Sys2Proof.Machine

/-- Carry out of a + b + cin (R283). -/
def carryOut (a b : U32) (cin : Nat) : Bool := decide (2 ^ 32 ≤ a.toNat + b.toNat + cin)

/-- No borrow in a − b − bin (R283). -/
def noBorrow (a b : U32) (bin : Nat) : Bool := decide (b.toNat + bin ≤ a.toNat)

/-- STAT with C replaced (R274). -/
def statC (stat : U32) (c : Bool) : U32 := BitVec.ofNat 32 (setBits stat.toNat 0 1 (b2n c))

/-- What a write of STAT makes of it: C as written; AOV and PSN clear only when written with 0 (R274). -/
def statWrite (old v : U32) : U32 :=
  BitVec.ofNat 32 (bits v.toNat 0 1 + Nat.land (bits old.toNat 1 2) (bits v.toNat 1 2) * 2)

/-- STAT with sticky AOV set (R299). -/
def statAov (stat : U32) : U32 := stat ||| 2

/-- STAT with sticky PSN set (R281). -/
def statPsn (stat : U32) : U32 := stat ||| 4

/-- Whether an exact accumulator result lies in the 40-bit range (R298, R299). -/
def accFits (x : Int) : Bool := decide (-(2 ^ 39 : Int) ≤ x) && decide (x < (2 ^ 39 : Int))

/-- The 40-bit value of an exact result, saturated (R299). -/
def accSat (x : Int) : BitVec 40 :=
  if (2 ^ 39 : Int) ≤ x then BitVec.ofNat 40 0x7FFFFFFFFF
  else if x < -(2 ^ 39 : Int) then BitVec.ofNat 40 0x8000000000
  else BitVec.ofInt 40 x

/-- lo(x), signed (R283). -/
def lo16 (x : U32) : Int := toSigned 16 x.toNat

/-- hi(x), signed (R283). -/
def hi16 (x : U32) : Int := toSigned 16 (x.toNat / 2 ^ 16)

end Sys2Proof.Machine
end

