-- ==== Sys2Proof/Machine/Operands.lean ====
section
/-! DEFINITION. The operands of a rafter core: general registers, accumulators, CSRs, local memories, the address
modes, the store buffer, and the registers that show the core's state (R273 to R281, R309, R310). -/

namespace Sys2Proof.Machine

/-! ## Registers (R273) -/

/-- General register `r`; g0 reads 0 (R273). -/
def CoreSt.reg (c : CoreSt) (r : Nat) : U32 := if r = 0 then 0 else Tab.get 0 c.g r

/-- General register `r` written; a write of g0 is discarded (R273). -/
def CoreSt.setReg (c : CoreSt) (r : Nat) (v : U32) : CoreSt :=
  if r = 0 then c else { c with g := Tab.set 0 c.g r v }

/-- Accumulator an (R273). -/
def CoreSt.acc (c : CoreSt) (n : Nat) : BitVec 40 := if n = 0 then c.a0 else c.a1

/-- Accumulator an written (R273). -/
def CoreSt.setAcc (c : CoreSt) (n : Nat) (v : BitVec 40) : CoreSt :=
  if n = 0 then { c with a0 := v } else { c with a1 := v }

/-- Four registers d to d+3, `d` holding bits [31:0] (R277, R287). -/
def CoreSt.quad (c : CoreSt) (d : Nat) : Word :=
  mkWord ((List.range 4).map fun i => (32 * i, 32, (c.reg (d + i)).toNat))

/-- Four registers d to d+3 written (R277, R287). -/
def CoreSt.setQuad (c : CoreSt) (d : Nat) (w : Word) : CoreSt :=
  (List.range 4).foldl (fun c i => c.setReg (d + i) (BitVec.ofNat 32 (wfield w (32 * i) 32))) c

/-- Whether `d` names a group of four registers: 4, 8 or 12 (R277). -/
def quadReg (d : Nat) : Bool := d == 4 || d == 8 || d == 12

/-! ## CSRs (R274) -/

/-- Numbers of the CSRs that the core keeps (R274). -/
def csrMODE : Nat := 0x000
/-- STAT. -/
def csrSTAT : Nat := 0x001
/-- EPC. -/
def csrEPC : Nat := 0x002
/-- EMODE. -/
def csrEMODE : Nat := 0x003
/-- ECAUSE. -/
def csrECAUSE : Nat := 0x004
/-- EBAD. -/
def csrEBAD : Nat := 0x005
/-- VBASE. -/
def csrVBASE : Nat := 0x006
/-- CBASE. -/
def csrCBASE : Nat := 0x010
/-- CLEN. -/
def csrCLEN : Nat := 0x011
/-- TIMEH. -/
def csrTIMEH : Nat := 0x01B

/-- LS, LE and LC of a loop level (R274). -/
def csrLS (level : Nat) : Nat := 0x008 + 3 * level
/-- LE of a loop level. -/
def csrLE (level : Nat) : Nat := 0x009 + 3 * level
/-- LC of a loop level. -/
def csrLC (level : Nat) : Nat := 0x00A + 3 * level

/-- CSRs of access RW (R274). -/
def csrRW (n : Nat) : Bool := decide (n ≤ 6) || (decide (8 ≤ n) && decide (n ≤ 0xD)) || n == 0x10 || n == 0x11

/-- CSRs of access RO (R274). -/
def csrRO (n : Nat) : Bool := (decide (0x18 ≤ n) && decide (n ≤ 0x1D)) || (decide (0x20 ≤ n) && decide (n ≤ 0x22))

/-- A CSR kept by the core; VBASE is 0x0000_FF00 at reset (R274). -/
def CoreSt.csrAt (c : CoreSt) (n : Nat) : U32 := Tab.get (if n = csrVBASE then 0xFF00 else 0) c.csr n

/-- A CSR kept by the core takes `v`. -/
def CoreSt.setCsr (c : CoreSt) (n : Nat) (v : U32) : CoreSt :=
  { c with csr := Tab.set (if n = csrVBASE then 0xFF00 else 0) c.csr n v }

/-- A field of a CSR kept by the core. -/
def CoreSt.csrBits (c : CoreSt) (n lo w : Nat) : Nat := bits (c.csrAt n).toNat lo w

/-- What a write of CSR `n` with `v` stores (R274). -/
def csrMask (n : Nat) (old v : U32) : U32 :=
  if n = csrMODE ∨ n = csrEMODE then v &&& 0xF
  else if n = csrSTAT then statWrite old v
  else if n = csrECAUSE then v &&& 0x30F
  else if n = csrVBASE then v &&& 0xFF00
  else if n = csrCLEN then v &&& 0xFFFFFFF0
  else v

/-- A CSR as MFC reads it (R274). -/
def State.csrRead (s : State) (k n : Nat) : U32 :=
  let c := s.core k
  if n = 0x18 then BitVec.ofNat 32 k
  else if n = 0x19 then BitVec.ofNat 32 (s.rd NODE_ID.ID)
  else if n = 0x1A then BitVec.ofNat 32 (stamp s.now)
  else if n = 0x1C then BitVec.ofNat 32 s.epoch
  else if n = 0x1D then BitVec.ofNat 32 s.course
  else if n = 0x20 then
    BitVec.ofNat 32 (match c.task with
      | some t => if t.desc.restarted then t.item.pushes else 0
      | none => 0)
  else if n = 0x21 then BitVec.ofNat 32 c.kept.length
  else if n = 0x22 then BitVec.ofNat 32 c.allocs.length
  else c.csrAt n

/-! ## State shown in registers (R312, R324) -/

/-- State of a core (R312). -/
def State.coreState (s : State) (k : Nat) : Nat := s.rd (RC_STAT.STATE k)

/-- STOPPED (R312). -/
def rcStopped : Nat := 0
/-- POWERED_DOWN (R312). -/
def rcPoweredDown : Nat := 1
/-- RUNNING (R312). -/
def rcRunning : Nat := 2
/-- IDLE (R312). -/
def rcIdle : Nat := 3
/-- HALTED (R312). -/
def rcHalted : Nat := 4
/-- DRAINING (R312). -/
def rcDraining : Nat := 5
/-- LOADING (R312). -/
def rcLoading : Nat := 6
/-- FAULT (R312). -/
def rcFault : Nat := 7

/-- The core's page shows the core as it stands (R324). -/
def State.syncCore (s : State) (k : Nat) : State :=
  let c := s.core k
  let s := s.wr (RC_STAT.EXL k) (b2n c.exl)
  let s := s.wr (RC_STAT.LOCKED k) (b2n c.lock.isSome)
  let s := s.wr (RC_STAT.TASK k) (b2n c.task.isSome)
  let s := s.wr (RC_STAT.AOV k) (c.csrBits csrSTAT 1 1)
  let s := s.wr (RC_STAT.PSN k) (c.csrBits csrSTAT 2 1)
  let s := s.wr (RC_STAT.KEPT k) (min 255 c.kept.length)
  let s := s.wr (RC_STAT.ALLOCS k) (min 15 c.allocs.length)
  let s := s.wr (RC_PC.PC k) c.pc.toNat
  let d := (c.task.map (·.desc)).getD {}
  let s := s.wr (RC_TASK.QUEUE k) d.queue
  let s := s.wr (RC_TASK.LENT k) (b2n d.lent)
  let s := s.wr (RC_TASK.RESTARTED k) (b2n d.restarted)
  s.wr (RC_TCOURSE.C k) d.course

/-- The core becomes `c`, and its page shows it. -/
def State.putCore (s : State) (k : Nat) (c : CoreSt) : State := (s.setCore k c).syncCore k

/-- Idle cores of a half, shown in PD_STATUS (R271). -/
def State.setIdle (s : State) (h : Nat) (ks : List Nat) : State :=
  (s.setPurlin h { s.purlin h with idle := ks }).wr (PD_STATUS.IDLE h) ks.length

/-- Core cycles in a duration in Tf: 1.0 GHz, or 0.5 GHz under the slow clock (R42, R317). -/
def CoreSt.cycles (c : CoreSt) (t : Nat) : Nat :=
  if c.slowClock then t * 125 / 655360 else t * 125 / 327680

/-! ## Tasks on a core (R278, R287, R288) -/

/-- A descriptor's 128 bits (R246). -/
def Desc.pack (d : Desc) : Word :=
  mkWord [(0, 14, d.queue), (14, 4, d.cls), (18, 3, d.prio), (21, 3, d.wait), (24, 8, d.arg),
    (32, 32, d.course), (64, 15, d.bundle), (79, 8, d.word), (87, 16, d.len), (103, 1, b2n d.timeout),
    (104, 1, b2n d.part), (105, 1, b2n d.restarted), (106, 1, b2n d.start), (107, 1, b2n d.final),
    (108, 1, b2n d.late), (109, 1, b2n d.lent), (110, 1, b2n d.fw), (120, 8, d.missing)]

/-- The descriptor that firmware gives in four registers: FW set, the Purlin's own flags taken as 0 (R246,
R290). -/
def Desc.ofFirmware (w : Word) : Desc :=
  { queue := wfield w 0 14, cls := wfield w 14 4, prio := wfield w 18 3, wait := wfield w 21 3,
    arg := wfield w 24 8, course := wfield w 32 32, bundle := wfield w 64 15, word := wfield w 79 8,
    len := wfield w 87 16, start := wfield w 106 1 == 1, final := wfield w 107 1 == 1, fw := true }

/-- The half that owns the core's task (R278); the core's own without a task. -/
def CoreSt.owning (c : CoreSt) (k : Nat) : Nat := (c.task.map (·.half)).getD (k / 32)

/-- A byte of a local memory. -/
def memByte (m : List Host.Cell) (a : Nat) : Nat := (Tab.get (0 : BitVec 8) m a).toNat

/-- A byte of a local memory written. -/
def setMemByte (m : List Host.Cell) (a v : Nat) : List Host.Cell :=
  Tab.set (0 : BitVec 8) m a (BitVec.ofNat 8 v)

/-- `n` bytes of a local memory, little-endian (R277). -/
def memLoad (m : List Host.Cell) (a n : Nat) : Nat :=
  (List.range n).foldl (fun x i => x + memByte m (a + i) * 2 ^ (8 * i)) 0

/-- `n` bytes of a local memory written, little-endian (R277). -/
def memStore (m : List Host.Cell) (a n v : Nat) : List Host.Cell :=
  (List.range n).foldl (fun m i => setMemByte m (a + i) (v / 2 ^ (8 * i))) m

/-- The join mailbox's offset in data memory (R288). -/
def mailboxAt : Nat := 0xFF80

/-- The words of local memory from byte offset `a` over `n` bytes are good again: a store replaces check bits
(R280). Instruction memory has words 0 to 0x3FFF, data memory 0x4000 to 0x7FFF. -/
def clearErr (e : Tab Nat) (a n : Nat) : Tab Nat :=
  (List.range (ceilDiv (a % 4 + n) 4)).foldl (fun e i => Tab.set 0 e (a / 4 + i) 0) e

/-- Data memory written at a byte address of the core's map (R276, R280). -/
def CoreSt.storeData (c : CoreSt) (ea n v : Nat) : CoreSt :=
  { c with dmem := memStore c.dmem (ea - 0x10000) n v, memErr := clearErr c.memErr ea n }

/-- The join mailbox takes the members' descriptors, entries of absent members zero (R288). -/
def CoreSt.mailbox (c : CoreSt) (ms : List (Option Desc)) : CoreSt :=
  (List.range 8).foldl (fun c i =>
    c.storeData (0x10000 + mailboxAt + 16 * i) 16 (((ms.getD i none).map Desc.pack).getD 0).toNat) c

/-! ## Local memory errors (R280) -/

/-- What a read of local words finds: `n` bytes at byte address `ea` of the map (R280). -/
def CoreSt.memBad (c : CoreSt) (ea n : Nat) : Bool :=
  (List.range (ceilDiv (ea % 4 + n) 4)).any fun i => decide (2 ≤ Tab.get 0 c.memErr (ea / 4 + i))

/-- Single-bit errors in the words read are corrected, written back and counted (R280, R486). -/
def State.correctMem (s : State) (k ea n : Nat) : State :=
  s.each (List.range (ceilDiv (ea % 4 + n) 4)) fun s i =>
    let c := s.core k
    if Tab.get 0 c.memErr (ea / 4 + i) = 1 then
      ((s.setCore k { c with memErr := Tab.set 0 c.memErr (ea / 4 + i) 0 }).count (RC_MEM_CORR.N k)).tally 0x103
    else s

/-! ## The Thatch as a core sees it (R276, R278, R279) -/

/-- First byte address of the Thatch in a core's map (R276). -/
def thatchBase : Nat := 0x10000000

/-- Whether a byte address of the map lies in the Thatch (R276). -/
def inThatch (a : Nat) : Bool := decide (thatchBase ≤ a) && decide (a ≤ 0x17FFFFFF)

/-- The Thatch word of a byte address of the map (R276). -/
def thatchWord (a : Nat) : Nat := (a - thatchBase) / 16

/-- The shared areas of a half: first bundle and length (R325). -/
def State.sharedAreas (s : State) (h : Nat) : List (Nat × Nat) :=
  (List.range 8).filterMap fun j =>
    let (b, n) := if h = 0 then (s.rd (RC_SHARE_N.BASE j), s.rd (RC_SHARE_N.LEN j))
      else (s.rd (RC_SHARE_S.BASE j), s.rd (RC_SHARE_S.LEN j))
    if n = 0 then none else some (b, n)

/-- Whether a word lies in a shared area of a half (R278, R325). -/
def State.inShared (s : State) (a h : Nat) : Bool :=
  (s.sharedAreas h).any fun (b, n) => decide (b ≤ a / 256) && decide (a / 256 < b + n)

/-- Whether a word lies in a record, with the wrap of R199. -/
def State.inRec (s : State) (r : RecAt) (a : Nat) : Bool :=
  let (_, base, len) := s.regionAt (r.addr / 256)
  let first := base * 256
  let l := len * 256
  if len = 0 then decide (r.addr ≤ a) && decide (a < r.addr + r.len)
  else decide (first ≤ a) && decide (a < first + l) &&
    decide ((a - first + l - (r.addr - first)) % l < r.len)

/-- Whether a core may load a Thatch word (R278). -/
def State.mayLoad (s : State) (k a : Nat) : Bool :=
  (s.core k).task.isSome && bundleHalf (a / 256) == (s.core k).owning k && !inLoft a

/-- Whether a core may store to a Thatch word (R278). -/
def State.mayStore (s : State) (k a : Nat) : Bool :=
  let c := s.core k
  c.task.isSome && bundleHalf (a / 256) == c.owning k &&
    (c.allocs.any (fun r => s.inRec r a) || s.inShared a (c.owning k))

/-- The write region, ring slice or shared area that holds a word: first word and words (R279). -/
def State.wrapArea (s : State) (a : Nat) : Option (Nat × Nat) :=
  (((s.regions.map fun x => x.2) ++ s.sharedAreas 0 ++ s.sharedAreas 1).find? fun x =>
    decide (x.1 ≤ a / 256) && decide (a / 256 < x.1 + x.2)).map fun x => (x.1 * 256, x.2 * 256)

/-- The effective address of base + imm under the address mode (R279); none where WRAP finds no area. -/
def State.effAddr (s : State) (k : Nat) (base : U32) (imm : BitVec 18) : Option Nat :=
  let c := s.core k
  let i := toSigned 18 imm.toNat
  let b := base.toNat
  let linear := (((b : Int) + i) % (2 ^ 32 : Int)).toNat
  match c.csrBits csrMODE 2 2 with
  | 1 =>
    if inThatch b then
      (s.wrapArea (thatchWord b)).map fun (first, n) =>
        let s0 := thatchBase + 16 * first
        s0 + ((((b : Int) - s0 + i) % ((16 * n : Nat) : Int)).toNat)
    else some linear
  | 2 =>
    let cb := (c.csrAt csrCBASE).toNat
    let cl := (c.csrAt csrCLEN).toNat
    if cl ≠ 0 ∧ cb ≤ b ∧ b < cb + cl then
      some ((cb + (((b : Int) - cb + i) % (cl : Int)).toNat) % 2 ^ 32)
    else some linear
  | _ => some linear

/-! ## The store buffer (R309, R310) -/

/-- The mask of `n` bytes at byte `off` of a word. -/
def byteMask (off n : Nat) : BitVec 16 := BitVec.ofNat 16 ((2 ^ n - 1) * 2 ^ off)

/-- Bytes of `new` under a byte mask, the others of `old`. -/
def mergeBytes (m : BitVec 16) (old new : Word) : Word :=
  mkWord ((List.range 16).map fun i =>
    (8 * i, 8, if bitAt m.toNat i then wfield new (8 * i) 8 else wfield old (8 * i) 8))

/-- An entry is written to its bank: whole under a full mask, else read, merged and written (R237, R309). -/
def State.writeEntry (s : State) (e : SbEntry) : State :=
  if e.mask = BitVec.allOnes 16 then s.storeWord e.addr e.data
  else
    let (w, p) := s.loadWord e.addr
    s.storeWord e.addr (mergeBytes e.mask w e.data) p

/-- A store enters the buffer: into the newest entry where that is of the same word, else as a new entry, the
oldest being written first when four are held (R309). -/
def State.bufferStore (s : State) (k : Nat) (e : SbEntry) : State :=
  let c := s.core k
  match c.sb.reverse with
  | last :: rest =>
    if last.addr = e.addr then
      let m : SbEntry := ⟨e.addr, mergeBytes e.mask last.data e.data, last.mask ||| e.mask⟩
      s.setCore k { c with sb := rest.reverse ++ [m] }
    else if 4 ≤ c.sb.length then
      let s := s.each (c.sb.take 1) State.writeEntry
      s.setCore k { c with sb := c.sb.drop 1 ++ [e] }
    else s.setCore k { c with sb := c.sb ++ [e] }
  | [] => s.setCore k { c with sb := [e] }

/-- The buffer is written out, in order (R310). -/
def State.flushSb (s : State) (k : Nat) : State :=
  let c := s.core k
  (s.each c.sb State.writeEntry).setCore k { c with sb := [] }

/-- The buffer is written out up to the last entry of a word (R310). -/
def State.drainFor (s : State) (k a : Nat) : State :=
  let c := s.core k
  let keep := (c.sb.reverse.takeWhile fun e => e.addr != a).reverse
  if keep.length = c.sb.length then s
  else (s.each (c.sb.take (c.sb.length - keep.length)) State.writeEntry).setCore k { c with sb := keep }

end Sys2Proof.Machine
end

