-- ==== Sys2Proof/Machine/CoreState.lean ====
section
/-! DEFINITION. The states of a rafter core, and what halting, leaving service, delivery of a task and a unit reset
do to it (R262, R287, R292 to R294, R305 to R307, R311 to R314, R318). -/

namespace Sys2Proof.Machine

/-- A core enters a state (R312). -/
def State.setCoreState (s : State) (k st : Nat) : State := s.wr (RC_STAT.STATE k) st

/-- A core stands no longer among the idle ones (R255). -/
def State.leaveIdle (s : State) (k : Nat) : State :=
  s.setIdle (k / 32) ((s.purlin (k / 32)).idle.filter (· != k))

/-- An offer of a half not yet accepted is withdrawn when one of its own eligible cores is idle (R259). -/
def State.withdraw (s : State) (h k : Nat) : State :=
  let p := s.purlin h
  let rs := p.ready.map fun (r : ReadyItem) =>
    if r.offered && s.eligible r.cls k then { r with offered := false } else r
  s.setPurlin h { p with ready := rs }

/-- A core that waits in TAKE is idle (R255, R287). -/
def State.goIdle (s : State) (k : Nat) : State :=
  let h := k / 32
  let s := s.setCoreState k rcIdle
  (s.setIdle h ((s.purlin h).idle.filter (· != k) ++ [k])).withdraw h k

/-- The core halts: cause 0 request, 1 breakpoint, 2 step, 3 forced (R318, R324). -/
def State.haltCore (s : State) (k cause bp : Nat) : State :=
  let from_ := s.coreState k
  let s := s.leaveIdle k
  let s := s.setCoreState k rcHalted
  let s := s.wr (DBG_STAT.HALTED k) 1
  let s := s.wr (DBG_STAT.CAUSE k) cause
  let s := if cause = 1 then s.wr (DBG_STAT.BP k) bp else s
  s.putCore k { s.core k with haltedFrom := from_, haltReq := false, stepping := false }

/-- The bank lock of a core is released (R219). -/
def State.unlockBank (s : State) (k : Nat) : State :=
  { s with th := { s.th with locks := s.th.locks.filter fun x => x.2 != k + 1 } }

/-- A locked sequence fails: held stores discarded, the lock released, the failure counted, once for each sequence
(R307). -/
def State.failSeq (s : State) (k : Nat) : State :=
  match (s.core k).lock with
  | some l =>
    if l.broken then s else ((s.unlockBank k).count (RC_LOCK_FAIL.N k)).flag (RC_EVT.LOCK_FAIL k)
  | none => s

/-- A core's allocations not yet pushed are abandoned: their provisional holds are released (R292, R314). -/
def State.dropAllocs (s : State) (k : Nat) : State :=
  let c := s.core k
  (s.each c.allocs State.release).setCore k { c with allocs := [], pushed := [] }

/-- Every record that a core keeps is released (R293). (log 75: DEDUCED) -/
def State.dropKept (s : State) (k : Nat) : State :=
  let c := s.core k
  (s.each c.kept State.release).setCore k { c with kept := [] }

/-- The core's registers, accumulators and CSRs at their reset values, its local data memory zero, nothing in
progress (R273, R315). (log 80: DEDUCED) -/
def CoreSt.fresh (c : CoreSt) : CoreSt :=
  { imem := c.imem, memErr := c.memErr.filter fun x => decide (x.1 < 0x4000), task := c.task, allocs := c.allocs,
    pushed := c.pushed, kept := c.kept, accepted := c.accepted, refresh := c.refresh,
    clockDue := c.clockDue, slowClock := c.slowClock, sb := c.sb }

/-- A core that has no task any more leaves service (R312): LOADING for a refresh, POWERED_DOWN, or STOPPED.
Its buffer is drained first and its kept records are released (R293, R311). -/
def State.coreOut (s : State) (k : Nat) : State :=
  let s := ((s.flushSb k).dropKept k).leaveIdle k
  let c := s.core k
  if c.refresh.isSome then (s.setCoreState k rcLoading).putCore k c.fresh
  else if s.on (RC_CTRL.PWRDN k) then (s.setCoreState k rcPoweredDown).putCore k c.fresh
  else
    let d : CoreSt := { c with taking := none, leaving := false, stuck := none }
    (s.setCoreState k rcStopped).putCore k d

/-- A core starts at 0x0000_0000 (R273, R312). (log 80: DEDUCED) -/
def State.coreStart (s : State) (k : Nat) : State :=
  let c := s.core k
  let f : CoreSt := { c.fresh with dmem := c.dmem, memErr := c.memErr }
  (s.setCoreState k rcRunning).putCore k f

/-- The clock of the profile in force is taken, between a DONE and the next TAKE (R317). (log 84: DEDUCED) -/
def CoreSt.clocked (c : CoreSt) : CoreSt :=
  if c.clockDue then { c with slowClock := !c.slowClock, clockDue := false } else c

/-- PD_CORE.BUSY counts the task held up to now, in STATS mode (R266, R269). (log 66: DEDUCED) -/
def State.countBusy (s : State) (k : Nat) : State :=
  let c := s.core k
  if c.task.isSome then
    let n := tfPurlinCycles (s.now - c.busyAt)
    let s := if s.on (PD_CTRL.OBS (k / 32)) then s else s.count (PD_CORE_BUSY.BUSY k) n
    s.setCore k { c with busyAt := s.now }
  else s

/-- Lent tasks of a half counted in and out (R259, R271). (log 66: DEDUCED) -/
def State.countLent (s : State) (owner : Nat) (out : Bool) : State :=
  let f := fun (n : Nat) => if out then n + 1 else n - 1
  let s := s.wr (PD_STATUS.LENT_OUT owner) (f (s.rd (PD_STATUS.LENT_OUT owner)))
  s.wr (PD_STATUS.LENT_IN (1 - owner)) (f (s.rd (PD_STATUS.LENT_IN (1 - owner))))

/-- A task enters a core that waits in TAKE, and TAKE completes (R269, R287, R288). (log 66: DEDUCED) -/
def State.deliver (s : State) (k : Nat) (t : Task) : State :=
  let c := s.core k
  let d := c.taking.getD 4
  let c := (c.setQuad d t.desc.pack).clocked
  let c := if t.members.isEmpty then c else c.mailbox t.members
  let c : CoreSt :=
    { c with task := some t, taking := none, accepted := 0, allocs := [], pushed := [], busyAt := s.now,
             pc := c.pc + 4 }
  let s := (s.leaveIdle k).setCoreState k rcRunning
  let s := (s.count (RC_TASKS.N k)).count (RC_INSTR.N k)
  let s := if t.desc.lent then s.countLent t.half true else s
  let s :=
    if s.on (PD_CTRL.OBS (k / 32)) then s
    else
      let w := tfPurlinCycles (s.now - t.item.readyAt)
      let s := (s.count (PD_CORE_TASKS.TASKS k)).count (PD_CORE_WAIT_SUM.WAIT_SUM k) w
      let s := s.wr (PD_CORE_WAIT_MAX.WAIT_MAX k) (max (min w 0xFFFFFFFF) (s.rd (PD_CORE_WAIT_MAX.WAIT_MAX k)))
      if t.desc.lent then s.count (PD_CORE_LENT_IN.LENT_IN k) else s
  let s := s.putCore k c
  if c.stepping then s.haltCore k 2 0 else s

/-- A task that a core reset has ended is dispatched again once, in the place it had; one that was restarted
already is abandoned (R262). -/
def State.restartTask (s : State) (t : Task) (pushes : Nat) : State :=
  let h := t.half
  let q := t.desc.queue
  let s := if t.desc.lent then s.countLent h false else s
  if t.desc.restarted then
    let s := s.releaseTask t
    let s := ((s.count (PD_ABANDONED.N h)).flag (PD_EVT.ABANDON h)).trace h 9 q (s.traceUnit q) t.desc.prio
      t.desc.cls t.desc.course 0
    let s := s.note h (Addr.PD_EVT h) (PD_EVT.ABANDON h).lo .event q [q, t.desc.course]
    let x := s.queue q
    let s := s.setQueue q { x with running := x.running - 1, headAt := if s.isBusy q then s.now else x.headAt }
    (s.syncQueue q).settle
  else
    let r : ReadyItem :=
      { t.item with restarted := true, again := some t.desc :: t.members, offered := false, pushes := pushes }
    let p := s.purlin h
    (s.setPurlin h { p with ready := insertReady r p.ready }).syncQueue q

/-- A unit reset of a core (R48, R262, R293, R294, R307, R311, R312, R314). (log 80, 81, 82: DEDUCED) -/
def State.resetCore (s : State) (k : Nat) : State :=
  let st := s.coreState k
  if (st == rcStopped || st == rcPoweredDown) && !(s.core k).restartDue then s
  else
    let s := s.countBusy k
    let s := s.failSeq k
    let s := (((s.flushSb k).dropAllocs k).dropKept k).leaveIdle k
    let c := s.core k
    let s := s.wr (DBG_STAT.HALTED k) 0
    let s := s.wr (DBG_STAT.DS k) 0
    let s := match c.task with
      | some t => s.restartTask t c.accepted
      | none => s
    let f : CoreSt := { c.fresh with task := none }
    let s := s.each [640 + k, 704 + k] fun s w => s.setWriter w { s.writer w with seq := 0 }
    if c.leaving || st == rcDraining then (s.setCore k f).coreOut k
    else
      let f : CoreSt := { f with restartDue := true }
      (s.setCoreState k rcStopped).putCore k f

end Sys2Proof.Machine
end

