-- ==== Sys2Proof/Machine/Rafter.lean ====
section
/-! DEFINITION. How a rafter core issues an instruction: breakpoints, the fetch, the checks of delay slots, loops and
locked sequences, the exceptions, loop-back, and the end of a sequence (R275, R280, R285, R295 to R308, R318,
R319). -/

namespace Sys2Proof.Machine

/-! ## Exceptions (R300 to R307) -/

/-- Causes of R300. -/
inductive Cause where
  | illegal | align | access | poison | overflow | loop | lock | trap | memEcc
deriving DecidableEq, Repr

/-- The number of a cause (R300). -/
def Cause.code : Cause → Nat
  | .illegal => 1 | .align => 2 | .access => 3 | .poison => 4 | .overflow => 5 | .loop => 6 | .lock => 7
  | .trap => 8 | .memEcc => 9

/-- The row of a cause in the table of R300, the top one first: when one instruction raises several, the row
nearer the top wins. -/
def Cause.row : Cause → Nat
  | .memEcc => 0 | .illegal => 1 | .loop => 2 | .lock => 3 | .align => 4 | .access => 5 | .poison => 6
  | .overflow => 7 | .trap => 8

/-- Of several causes with their EBAD values, the one that wins (R300). -/
def worst : List (Cause × Nat) → Option (Cause × Nat)
  | [] => none
  | x :: xs =>
    match worst xs with
    | none => some x
    | some y => if y.1.row < x.1.row then some y else some x

/-- The address after an open locked sequence (R307). -/
def CoreSt.seqEnd (c : CoreSt) : U32 :=
  match c.lock with
  | some l => c.pc + BitVec.ofNat 32 (4 * l.left)
  | none => c.pc

/-- An exception is taken: the failed sequence's books, the saved registers, EXL, MODE and the vector; a double
fault while EXL is 1 (R301, R303, R304, R307). (log 76, 79: DEDUCED) -/
def State.raise (s : State) (k : Nat) (cause : Cause) (ebad : Nat) : State :=
  let c := s.core k
  let s := (s.count (RC_EXC.N k)).flag (RC_EVT.EXC k)
  let s := s.failSeq k
  let epc := match c.lock, c.slot with
    | some _, _ => c.seqEnd
    | none, some b => b.1
    | none, none => c.pc
  let ds := c.lock.isNone && c.slot.isSome
  let c1 := match c.lock with
    | some l => c.setReg l.d 0
    | none => c
  let c2 : CoreSt := { c1 with lock := none, slot := none, stuck := none }
  if c.exl then
    let s := (s.setCoreState k rcFault).putCore k { c2 with stepping := false, haltReq := false }
    s.event (k / 32) (RC_EVT.DFAULT k) (unitId 4 k)
  else
    let c3 := c2.setCsr csrEPC epc
    let c3 := c3.setCsr csrEMODE (c.csrAt csrMODE)
    let c3 := c3.setCsr csrECAUSE
      (BitVec.ofNat 32 (cause.code + 256 * b2n ds + 512 * b2n c.lock.isSome))
    let c3 := c3.setCsr csrEBAD (BitVec.ofNat 32 ebad)
    let c3 := c3.setCsr csrMODE 0
    let pc := c.csrAt csrVBASE + BitVec.ofNat 32 (16 * cause.code)
    s.putCore k { c3 with exl := true, pc := pc }

/-! ## What an instruction is to the issue -/

/-- The kinds of instruction that R285, R296 and R306 tell apart. -/
inductive IKind where
  /-- ALU, MAC-group instructions and MFC -/
  | plain
  /-- loads and stores -/
  | mem
  /-- branches and jumps -/
  | branch
  /-- LOOP, TAKE, DONE, PUSH, ALLOC, LOCK, RLS, MTC and RETE -/
  | task
  /-- TRAP, SYNC -/
  | other
deriving DecidableEq, Repr

/-- What executing an instruction comes to. -/
inductive Exec where
  /-- done, the next instruction follows -/
  | next (s : State)
  /-- a branch or jump: the delay slot follows, then the address (R285) -/
  | slot (s : State) (target : U32)
  /-- done, and control passes to an address at once (R295, R302) -/
  | goto_ (s : State) (pc : U32)
  /-- not complete: the core waits and issues the instruction again (R289, R290) -/
  | wait (s : State)
  /-- TAKE without a task: the core waits, or leaves service (R287, R312) -/
  | idle (s : State)
  /-- exceptions that the instruction raises (R300) -/
  | raise (causes : List (Cause × Nat))

/-- An instruction as issued: its word, its kind, the address it loads from or stores to with whether it stores, and
its effect. -/
structure Inst where
  word : Nat
  kind : IKind
  access : State → Option (Bool × Nat) := fun _ => none
  effect : State → Exec

/-! ## Breakpoints (R319) -/

/-- Whether breakpoint `i` matches a fetch, load or store at an address (R319). -/
def State.bpMatch (s : State) (k i : Nat) (isFetch isStore : Bool) (a : Nat) : Bool :=
  s.on (BP_CTRL.EN k i) && s.rd (BP_ADDR.A k i) == a &&
    match s.rd (BP_CTRL.KIND k i) with
    | 0 => isFetch
    | 1 => !isFetch && !isStore
    | 2 => !isFetch && isStore
    | _ => !isFetch

/-- The addresses whose fetch is watched when an instruction issues: its own, its delay slot's, and those of a
sequence it opens (R319). -/
def Inst.fetches (i : Inst) (pc : Nat) : List Nat :=
  if i.kind = .branch then [pc, pc + 4]
  else if bits i.word 26 6 = 0x3C then (List.range (bits i.word 8 3 + 2)).map fun n => pc + 4 * n
  else [pc]

/-- The breakpoint that halts the core before an instruction, if any (R319). The one at which it halted is passed
over once. -/
def State.bpHit (s : State) (k : Nat) (i : Inst) : Option Nat :=
  let c := s.core k
  (List.range 4).find? fun b =>
    !(c.bpSkip && s.rd (DBG_STAT.BP k) == b) &&
      ((c.slot.isNone && c.lock.isNone && (i.fetches c.pc.toNat).any fun a => s.bpMatch k b true false a) ||
        match i.access s with
        | some (w, a) => s.bpMatch k b false w a
        | none => false)

/-! ## The checks before execution (R285, R296, R306) -/

/-- Whether an address is LE of an active loop level (R295). (log 78: DEDUCED) -/
def CoreSt.atLoopEnd (c : CoreSt) (pc : U32) : Bool :=
  (List.range 2).any fun l => c.csrAt (csrLC l) != 0 && c.csrAt (csrLE l) == pc

/-- Whether a locked sequence's fifth Thatch store, or an access to another bank's word, stands in the way
(R306). -/
def State.lockBars (s : State) (l : LockSeq) (i : Inst) : Bool :=
  match i.kind with
  | .plain => false
  | .mem =>
    match i.access s with
    | some (w, a) => inThatch a && (bankOf (thatchWord a) != l.bank || (w && decide (4 ≤ l.held.length)))
    | none => false
  | _ => true

/-- The causes that an instruction's place raises (R285, R296, R297, R306). (log 76: DEDUCED) -/
def State.placeCauses (s : State) (k : Nat) (i : Inst) : List (Cause × Nat) :=
  let c := s.core k
  let pc := c.pc.toNat
  let inSlot := c.slot.isSome
  (if inSlot && (i.kind == .branch || i.kind == .task) then [(.illegal, i.word)] else []) ++
  (if !c.exl && c.atLoopEnd c.pc &&
      (i.kind == .branch || i.kind == .task || inSlot || c.lock.isSome) then [(.loop, pc)] else []) ++
  (match c.lock with
    | some l => if s.lockBars l i then [(.lock, pc)] else []
    | none => [])

/-! ## After execution (R295, R297, R305, R318) -/

/-- The loop-back decision at an address, inner level first: the loop counts, and where control goes (R295).
(log 78: DEDUCED) -/
def CoreSt.loopBack (c : CoreSt) (at_ next : U32) : CoreSt × U32 :=
  let dec := fun (c : CoreSt) (l : Nat) => c.setCsr (csrLC l) (c.csrAt (csrLC l) - 1)
  let active := fun (c : CoreSt) (l : Nat) => c.csrAt (csrLC l) != 0 && c.csrAt (csrLE l) == at_
  if active c 1 then
    if c.csrAt (csrLC 1) = 1 then
      let c := dec c 1
      if active c 0 then (if c.csrAt (csrLC 0) = 1 then (dec c 0, next) else (dec c 0, c.csrAt (csrLS 0)))
      else (c, next)
    else (dec c 1, c.csrAt (csrLS 1))
  else if active c 0 then
    if c.csrAt (csrLC 0) = 1 then (dec c 0, next) else (dec c 0, c.csrAt (csrLS 0))
  else (c, next)

/-- The locked sequence counts an instruction; at its end the stores are committed in order and d := 1, or d := 0
when the lock was broken (R305, R307). -/
def State.countSeq (s : State) (k : Nat) : State :=
  let c := s.core k
  match c.lock with
  | none => s
  | some l =>
    if 1 < l.left then s.setCore k { c with lock := some { l with left := l.left - 1 } }
    else
      let s := if l.broken then s else (s.each l.held State.writeEntry).unlockBank k
      let c := c.setReg l.d (if l.broken then 0 else 1)
      s.setCore k { c with lock := none }

/-- A halt that was asked for is taken at an instruction boundary, not between a branch and its slot nor inside a
locked sequence (R318). -/
def State.boundaryHalt (s : State) (k : Nat) : State :=
  let c := s.core k
  let st := s.coreState k
  if c.slot.isSome || c.lock.isSome || !(st == rcRunning || st == rcIdle || st == rcDraining) then s
  else if c.stepping && st != rcIdle then s.haltCore k 2 0
  else if c.haltReq then s.haltCore k 0 0
  else s

/-- An instruction has completed: the count, the delay slot, loop-back, the sequence, and a halt that was due. -/
def State.complete_ (s : State) (k : Nat) (before : CoreSt) (next : U32) (slot : Option (U32 × U32))
    (wasLock : Bool) : State :=
  let s := s.count (RC_INSTR.N k)
  let c := s.core k
  let (c, next) := if before.exl then (c, next) else c.loopBack before.pc next
  let s := s.setCore k { c with pc := next, slot := slot, stuck := none }
  let s := if wasLock then s.countSeq k else s
  (s.syncCore k).boundaryHalt k

/-- Where control goes after a plain instruction: past it, or to the target when it was a delay slot (R285). -/
def CoreSt.after (c : CoreSt) : U32 :=
  match c.slot with
  | some b => b.2
  | none => c.pc + 4

/-! ## Issue -/

/-- What a fetch raises: outside instruction memory, misaligned, or an uncorrectable word (R276, R277, R280). -/
def CoreSt.fetchCause (c : CoreSt) : Option (Cause × Nat) :=
  let pc := c.pc.toNat
  if pc % 4 ≠ 0 then some (.align, pc)
  else if 0xFFFF < pc then some (.access, pc)
  else if c.memBad pc 4 then some (.memEcc, pc)
  else none

/-- An exception is taken, and a halt that was due with it. (log 76: DEDUCED) -/
def State.raiseAt (s : State) (k : Nat) (x : Cause × Nat) : State :=
  let s := if x.1 = .memEcc then s.tally 0x123 else s
  let s := if x.1 = .memEcc ∧ 0x10000 ≤ x.2 then s.flag (RC_EVT.DMEM_UNCORR k) else s
  (s.raise k x.1 x.2).boundaryHalt k

/-- Whether a core can issue an instruction: RUNNING or DRAINING, not waiting in TAKE, and not waiting in another
instruction (R287, R289, R290, R312). (log 69: DESIGN CHOICE) -/
def State.canIssue (s : State) (k word : Nat) : Bool :=
  let c := s.core k
  (s.coreState k == rcRunning || s.coreState k == rcDraining) && c.taking.isNone &&
    (match c.stuck with
      | some (w, _) => w == word
      | none => true)

/-- A core halts before an instruction at a breakpoint; one in a delay slot halts before its branch (R319). -/
def State.bpHalt (s : State) (k b : Nat) : State :=
  let c := s.core k
  let c := match c.slot with
    | some x => { c with pc := x.1, slot := none }
    | none => c
  (s.setCore k c).haltCore k 1 b

/-- A core issues an instruction. (log 69: DESIGN CHOICE) -/
def State.runInst (s : State) (k : Nat) (i : Inst) : State :=
  if !s.canIssue k i.word then s
  else
    let c := s.core k
    match (if c.lock.isSome then none else s.bpHit k i) with
    | some b => s.bpHalt k b
    | none =>
      -- R318: a data breakpoint inside a sequence halts at the sequence's end
      let hr := c.haltReq || (c.lock.isSome && (s.bpHit k i).isSome)
      let s := s.setCore k { c with bpSkip := false, haltReq := hr }
      match c.fetchCause with
      | some x => s.raiseAt k x
      | none =>
        let s := s.correctMem k c.pc.toNat 4
        let place := s.placeCauses k i
        let own := match i.effect s with
          | .raise cs => cs
          | _ => []
        match worst (place ++ own) with
        | some x => s.raiseAt k x
        | none =>
          match i.effect s with
          | .next s => s.complete_ k c c.after none c.lock.isSome
          | .slot s t => s.complete_ k c (c.pc + 4) (some (c.pc, t)) false
          | .goto_ s pc => s.complete_ k c pc none false
          | .wait s => s.syncCore k
          | .idle s => (s.syncCore k).boundaryHalt k
          | .raise _ => s

/-- An instruction whose effect is on the core's own registers. (log 69: DESIGN CHOICE) -/
def onCore (k : Nat) (f : CoreSt → CoreSt) (s : State) : Exec := .next (s.setCore k (f (s.core k)))

/-! ## Encodings (R282) -/

/-- Format R. -/
def encR (op d a b fn : Nat) : Nat := op * 2 ^ 26 + d * 2 ^ 22 + a * 2 ^ 18 + b * 2 ^ 14 + fn
/-- Format I. -/
def encI (op d a imm : Nat) : Nat := op * 2 ^ 26 + d * 2 ^ 22 + a * 2 ^ 18 + imm
/-- Format U. -/
def encU (op d imm : Nat) : Nat := op * 2 ^ 26 + d * 2 ^ 22 + imm
/-- Format B. -/
def encB (op a b off : Nat) : Nat := op * 2 ^ 26 + a * 2 ^ 22 + b * 2 ^ 18 + off
/-- Format J. -/
def encJ (op off : Nat) : Nat := op * 2 ^ 26 + off
/-- Format L. -/
def encL (op level a cnt off : Nat) : Nat := op * 2 ^ 26 + level * 2 ^ 25 + a * 2 ^ 21 + cnt * 2 ^ 10 + off
/-- Format M. -/
def encM (op n a b : Nat) : Nat := op * 2 ^ 26 + n * 2 ^ 25 + a * 2 ^ 18 + b * 2 ^ 14
/-- Format A. -/
def encA (op d a n sh fn : Nat) : Nat := op * 2 ^ 26 + d * 2 ^ 22 + a * 2 ^ 18 + n * 2 ^ 17 + sh * 2 ^ 8 + fn
/-- Format S. -/
def encS (op d a imm fn : Nat) : Nat := op * 2 ^ 26 + d * 2 ^ 22 + a * 2 ^ 18 + imm * 2 ^ 8 + fn

end Sys2Proof.Machine
end

