-- ==== Sys2Proof/Machine/Alu.lean ====
section
/-! DEFINITION. The ALU instructions of a rafter core (R283). -/

namespace Sys2Proof.Machine

/-- d := f a b (R283). -/
def aluR (k op fn d a b : Nat) (f : U32 → U32 → U32) : Inst where
  word := encR op d a b fn
  kind := .plain
  effect := onCore k fun c => c.setReg d (f (c.reg a) (c.reg b))

/-- d and C from the sum of a, y and a carry in (R283). -/
def CoreSt.addTo (c : CoreSt) (d : Nat) (a y : U32) (cin : Nat) : CoreSt :=
  (c.setReg d (a + y + BitVec.ofNat 32 cin)).setCsr csrSTAT (statC (c.csrAt csrSTAT) (carryOut a y cin))

/-- d and C from the difference of a, y and a borrow in (R283). -/
def CoreSt.subTo (c : CoreSt) (d : Nat) (a y : U32) (bin : Nat) : CoreSt :=
  (c.setReg d (a - y - BitVec.ofNat 32 bin)).setCsr csrSTAT (statC (c.csrAt csrSTAT) (noBorrow a y bin))

/-- The carry bit (R274). -/
def CoreSt.carry (c : CoreSt) : Nat := c.csrBits csrSTAT 0 1

/-- An instruction of format R whose effect is on the core's registers. -/
def regR (k op fn d a b : Nat) (f : CoreSt → CoreSt) : Inst where
  word := encR op d a b fn
  kind := .plain
  effect := onCore k f

/-- d := f a imm (R283). -/
def aluI (k op d a imm : Nat) (f : U32 → U32) : Inst where
  word := encI op d a imm
  kind := .plain
  effect := onCore k fun c => c.setReg d (f (c.reg a))

/-- An 18-bit immediate, sign-extended (R282). -/
def immS (imm : BitVec 18) : U32 := imm.signExtend 32

/-- An 18-bit immediate, zero-extended (R283). -/
def immZ (imm : BitVec 18) : U32 := imm.setWidth 32

/-- The amount of a shift: five bits (R283). -/
def shamt (b : U32) : Nat := b.toNat % 32

/-- Leading zeros, 0 to 32 (R283). -/
def clz32 (x : U32) : Nat :=
  ((List.range 32).takeWhile fun i => !x.toNat.testBit (31 - i)).length

/-- The magnitude of the difference of two unsigned numbers; it never wraps (R283, entry 71). -/
def absDiff (a b : U32) : U32 := if a.ult b then b - a else a - b

/-- ADD (R283): d := a + b, C := carry out. -/
def execAdd (k : Core) (d a b : GReg) (s : State) : Out :=
  .next (s.runInst k.val (regR k.val 0x00 0x01 d.val a.val b.val fun c => c.addTo d.val (c.reg a.val) (c.reg b.val) 0))

/-- SUB (R283): d := a − b, C := no borrow. -/
def execSub (k : Core) (d a b : GReg) (s : State) : Out :=
  .next (s.runInst k.val (regR k.val 0x00 0x02 d.val a.val b.val fun c => c.subTo d.val (c.reg a.val) (c.reg b.val) 0))

/-- ADDC (R283): d := a + b + C. -/
def execAddc (k : Core) (d a b : GReg) (s : State) : Out :=
  .next (s.runInst k.val (regR k.val 0x00 0x03 d.val a.val b.val fun c =>
    c.addTo d.val (c.reg a.val) (c.reg b.val) c.carry))

/-- SUBC (R283): d := a − b − ¬C. -/
def execSubc (k : Core) (d a b : GReg) (s : State) : Out :=
  .next (s.runInst k.val (regR k.val 0x00 0x04 d.val a.val b.val fun c =>
    c.subTo d.val (c.reg a.val) (c.reg b.val) (1 - c.carry)))

/-- AND (R283): d := a AND b. -/
def execAndR (k : Core) (d a b : GReg) (s : State) : Out :=
  .next (s.runInst k.val (aluR k.val 0x00 0x05 d.val a.val b.val (fun x y => x &&& y)))

/-- OR (R283): d := a OR b. -/
def execOrR (k : Core) (d a b : GReg) (s : State) : Out :=
  .next (s.runInst k.val (aluR k.val 0x00 0x06 d.val a.val b.val (fun x y => x ||| y)))

/-- XOR (R283): d := a XOR b. -/
def execXorR (k : Core) (d a b : GReg) (s : State) : Out :=
  .next (s.runInst k.val (aluR k.val 0x00 0x07 d.val a.val b.val (fun x y => x ^^^ y)))

/-- SLL (R283): d := a shifted left by b[4:0]. -/
def execSll (k : Core) (d a b : GReg) (s : State) : Out :=
  .next (s.runInst k.val (aluR k.val 0x00 0x08 d.val a.val b.val (fun x y => x <<< shamt y)))

/-- SRL (R283): d := a shifted right by b[4:0]. -/
def execSrl (k : Core) (d a b : GReg) (s : State) : Out :=
  .next (s.runInst k.val (aluR k.val 0x00 0x09 d.val a.val b.val (fun x y => x >>> shamt y)))

/-- SRA (R283): d := a shifted right by b[4:0], the sign filling. -/
def execSra (k : Core) (d a b : GReg) (s : State) : Out :=
  .next (s.runInst k.val (aluR k.val 0x00 0x0A d.val a.val b.val (fun x y => x.sshiftRight (shamt y))))

/-- SLT (R283): d := 1 if a < b, signed. -/
def execSlt (k : Core) (d a b : GReg) (s : State) : Out :=
  .next (s.runInst k.val (aluR k.val 0x00 0x0B d.val a.val b.val (fun x y => if x.slt y then 1 else 0)))

/-- SLTU (R283): d := 1 if a < b, unsigned. -/
def execSltu (k : Core) (d a b : GReg) (s : State) : Out :=
  .next (s.runInst k.val (aluR k.val 0x00 0x0C d.val a.val b.val (fun x y => if x.ult y then 1 else 0)))

/-- MUL (R283): the low 32 bits of a × b. -/
def execMul (k : Core) (d a b : GReg) (s : State) : Out :=
  .next (s.runInst k.val (aluR k.val 0x00 0x0D d.val a.val b.val (fun x y => x * y)))

/-- MULHS (R283): the high 32 bits of the signed a × b. -/
def execMulhs (k : Core) (d a b : GReg) (s : State) : Out :=
  .next (s.runInst k.val (aluR k.val 0x00 0x0E d.val a.val b.val (fun x y => BitVec.ofInt 32 (x.toInt * y.toInt / (2 ^ 32 : Int)))))

/-- MULHU (R283): the high 32 bits of the unsigned a × b. -/
def execMulhu (k : Core) (d a b : GReg) (s : State) : Out :=
  .next (s.runInst k.val (aluR k.val 0x00 0x0F d.val a.val b.val (fun x y => BitVec.ofNat 32 (x.toNat * y.toNat / 2 ^ 32))))

/-- MIN (R283): the smaller, signed. -/
def execMinR (k : Core) (d a b : GReg) (s : State) : Out :=
  .next (s.runInst k.val (aluR k.val 0x00 0x10 d.val a.val b.val (fun x y => if x.slt y then x else y)))

/-- MAX (R283): the larger, signed. -/
def execMaxR (k : Core) (d a b : GReg) (s : State) : Out :=
  .next (s.runInst k.val (aluR k.val 0x00 0x11 d.val a.val b.val (fun x y => if x.slt y then y else x)))

/-- ABSD (R283): the magnitude of a − b. (log 71: DEDUCED) -/
def execAbsd (k : Core) (d a b : GReg) (s : State) : Out :=
  .next (s.runInst k.val (aluR k.val 0x00 0x12 d.val a.val b.val absDiff))

/-- CLZ (R283): the leading zeros of a. -/
def execClz (k : Core) (d a : GReg) (s : State) : Out :=
  .next (s.runInst k.val (aluR k.val 0x00 0x13 d.val a.val 0 (fun x _ => BitVec.ofNat 32 (clz32 x))))

/-- ADDI (R283): d := a + imm, C := carry out. -/
def execAddi (k : Core) (d a : GReg) (imm : BitVec 18) (s : State) : Out :=
  .next (s.runInst k.val
    { word := encI 0x01 d.val a.val imm.toNat, kind := .plain,
      effect := onCore k.val fun c => c.addTo d.val (c.reg a.val) (immS imm) 0 })

/-- ANDI (R283): d := a AND imm, zero-extended. -/
def execAndi (k : Core) (d a : GReg) (imm : BitVec 18) (s : State) : Out :=
  .next (s.runInst k.val (aluI k.val 0x02 d.val a.val imm.toNat (fun x => x &&& immZ imm)))

/-- ORI (R283): d := a OR imm, zero-extended. -/
def execOri (k : Core) (d a : GReg) (imm : BitVec 18) (s : State) : Out :=
  .next (s.runInst k.val (aluI k.val 0x03 d.val a.val imm.toNat (fun x => x ||| immZ imm)))

/-- XORI (R283): d := a XOR imm, zero-extended. -/
def execXori (k : Core) (d a : GReg) (imm : BitVec 18) (s : State) : Out :=
  .next (s.runInst k.val (aluI k.val 0x04 d.val a.val imm.toNat (fun x => x ^^^ immZ imm)))

/-- SLLI (R283): d := a shifted left by imm[4:0]. -/
def execSlli (k : Core) (d a : GReg) (imm : BitVec 5) (s : State) : Out :=
  .next (s.runInst k.val (aluI k.val 0x05 d.val a.val imm.toNat (fun x => x <<< imm.toNat)))

/-- SRLI (R283): d := a shifted right by imm[4:0]. -/
def execSrli (k : Core) (d a : GReg) (imm : BitVec 5) (s : State) : Out :=
  .next (s.runInst k.val (aluI k.val 0x06 d.val a.val imm.toNat (fun x => x >>> imm.toNat)))

/-- SRAI (R283): d := a shifted right by imm[4:0], the sign filling. -/
def execSrai (k : Core) (d a : GReg) (imm : BitVec 5) (s : State) : Out :=
  .next (s.runInst k.val (aluI k.val 0x07 d.val a.val imm.toNat (fun x => x.sshiftRight imm.toNat)))

/-- SLTI (R283): d := 1 if a < imm, signed. -/
def execSlti (k : Core) (d a : GReg) (imm : BitVec 18) (s : State) : Out :=
  .next (s.runInst k.val (aluI k.val 0x08 d.val a.val imm.toNat (fun x => if x.slt (immS imm) then 1 else 0)))

/-- SLTIU (R283): d := 1 if a < the sign-extended imm, unsigned. -/
def execSltiu (k : Core) (d a : GReg) (imm : BitVec 18) (s : State) : Out :=
  .next (s.runInst k.val (aluI k.val 0x09 d.val a.val imm.toNat (fun x => if x.ult (immS imm) then 1 else 0)))

/-- LUI (R283): d := imm16 shifted left by 16. -/
def execLui (k : Core) (d : GReg) (imm : BitVec 16) (s : State) : Out :=
  .next (s.runInst k.val
    { word := encU 0x0A d.val imm.toNat, kind := .plain,
      effect := onCore k.val fun c => c.setReg d.val (BitVec.ofNat 32 (imm.toNat * 2 ^ 16)) })

end Sys2Proof.Machine
end

