-- ==== Sys2Proof/Machine/Flow.lean ====
section
/-! DEFINITION. Branches, jumps and hardware loops of a rafter core (R283, R285, R295 to R297). -/

namespace Sys2Proof.Machine

/-- A PC-relative target: PC + 4·off (R282). -/
def relTarget (pc off : U32) : U32 := pc + off * 4

/-- A conditional branch (R283, R285): the delay slot follows, then the target or the address after the slot. -/
def branchB (k op a b : Nat) (off : BitVec 18) (cond : U32 → U32 → Bool) : Inst where
  word := encB op a b off.toNat
  kind := .branch
  effect := fun s =>
    let c := s.core k
    .slot s (if cond (c.reg a) (c.reg b) then relTarget c.pc (off.signExtend 32) else c.pc + 8)

/-- BEQ (R283). -/
def execBeq (k : Core) (a b : GReg) (off : BitVec 18) (s : State) : Out :=
  .next (s.runInst k.val (branchB k.val 0x20 a.val b.val off fun x y => x == y))

/-- BNE (R283). -/
def execBne (k : Core) (a b : GReg) (off : BitVec 18) (s : State) : Out :=
  .next (s.runInst k.val (branchB k.val 0x21 a.val b.val off fun x y => x != y))

/-- BLT (R283), signed. -/
def execBlt (k : Core) (a b : GReg) (off : BitVec 18) (s : State) : Out :=
  .next (s.runInst k.val (branchB k.val 0x22 a.val b.val off fun x y => x.slt y))

/-- BGE (R283), signed. -/
def execBge (k : Core) (a b : GReg) (off : BitVec 18) (s : State) : Out :=
  .next (s.runInst k.val (branchB k.val 0x23 a.val b.val off fun x y => !x.slt y))

/-- BLTU (R283). -/
def execBltu (k : Core) (a b : GReg) (off : BitVec 18) (s : State) : Out :=
  .next (s.runInst k.val (branchB k.val 0x24 a.val b.val off fun x y => x.ult y))

/-- BGEU (R283). -/
def execBgeu (k : Core) (a b : GReg) (off : BitVec 18) (s : State) : Out :=
  .next (s.runInst k.val (branchB k.val 0x25 a.val b.val off fun x y => !x.ult y))

/-- J (R283). -/
def execJ (k : Core) (off : BitVec 26) (s : State) : Out :=
  .next (s.runInst k.val
    { word := encJ 0x26 off.toNat, kind := .branch,
      effect := fun s => .slot s (relTarget (s.core k.val).pc (off.signExtend 32)) })

/-- JAL (R273, R283): g15 := PC + 8. -/
def execJal (k : Core) (off : BitVec 26) (s : State) : Out :=
  .next (s.runInst k.val
    { word := encJ 0x27 off.toNat, kind := .branch,
      effect := fun s =>
        let c := s.core k.val
        .slot (s.setCore k.val (c.setReg 15 (c.pc + 8))) (relTarget c.pc (off.signExtend 32)) })

/-- What a jump to a register raises: a target that is not 4-byte aligned, or outside instruction memory (R285). -/
def jumpCauses (t : U32) : List (Cause × Nat) :=
  (if t.toNat % 4 ≠ 0 then [(.align, t.toNat)] else []) ++
  (if 0xFFFF < t.toNat then [(.access, t.toNat)] else [])

/-- JR (R283, R285). -/
def execJr (k : Core) (a : GReg) (s : State) : Out :=
  .next (s.runInst k.val
    { word := encR 0x28 0 a.val 0 0x00, kind := .branch,
      effect := fun s =>
        let t := (s.core k.val).reg a.val
        match jumpCauses t with
        | x :: xs => .raise (x :: xs)
        | [] => .slot s t })

/-- JALR (R283, R285): d := PC + 8; d = a raises ILLEGAL. -/
def execJalr (k : Core) (d a : GReg) (s : State) : Out :=
  let w := encR 0x29 d.val a.val 0 0x00
  .next (s.runInst k.val
    { word := w, kind := .branch,
      effect := fun s =>
        let c := s.core k.val
        let t := c.reg a.val
        match (if d = a then [(Cause.illegal, w)] else []) ++ jumpCauses t with
        | x :: xs => .raise (x :: xs)
        | [] => .slot (s.setCore k.val (c.setReg d.val (c.pc + 8))) t })

/-- What LOOP raises: ILLEGAL for an off of 0 or in a handler; LOOP for an inner end outside an active outer loop,
or an outer level under an active inner one (R295 to R297). -/
def loopCauses (c : CoreSt) (w level : Nat) (le : U32) (off : Nat) : List (Cause × Nat) :=
  (if off = 0 ∨ c.exl then [(.illegal, w)] else []) ++
  (if level = 1 ∧ c.csrAt (csrLC 0) ≠ 0 ∧ ¬(c.csrAt (csrLS 0) ≤ le ∧ le ≤ c.csrAt (csrLE 0))
    then [(.loop, c.pc.toNat)] else []) ++
  (if level = 0 ∧ c.csrAt (csrLC 1) ≠ 0 then [(.loop, c.pc.toNat)] else [])

/-- LOOP (R295, R296): sets up a level; a count of 0 skips the body. -/
def execLoop (k : Core) (level : Fin 2) (a : GReg) (cnt : BitVec 11) (off : BitVec 10) (s : State) : Out :=
  let w := encL 0x2C level.val a.val cnt.toNat off.toNat
  .next (s.runInst k.val
    { word := w, kind := .task,
      effect := fun s =>
        let c := s.core k.val
        let le := relTarget c.pc (off.setWidth 32)
        match loopCauses c w level.val le off.toNat with
        | x :: xs => .raise (x :: xs)
        | [] =>
          let n := if a.val = 0 then cnt.setWidth 32 else c.reg a.val
          let c := ((c.setCsr (csrLS level.val) (c.pc + 4)).setCsr (csrLE level.val) le).setCsr (csrLC level.val) n
          let s := s.setCore k.val c
          if n = 0 then .goto_ s (le + 4) else .next s })

end Sys2Proof.Machine
end

