-- ==== Sys2Proof/Machine/LoadStore.lean ====
section
/-! DEFINITION. Loads and stores of a rafter core (R276 to R281, R308 to R310). -/

namespace Sys2Proof.Machine

/-- The bytes of a Thatch word from byte `off` on, as a number (R277). -/
def wordBytesAt (w : Word) (off n : Nat) : Nat := w.toNat / 2 ^ (8 * off) % 2 ^ (8 * n)

/-- A word as a load in a sequence sees it: the held stores of that word merged in, later over earlier (R310). -/
def mergeHeld (held : List SbEntry) (a : Nat) (w : Word) : Word :=
  held.foldl (fun w e => if e.addr = a then mergeBytes e.mask w e.data else w) w

/-- The causes of an access of `n` bytes at an effective address (R276 to R278). `areas` names the regions of the
map that the instruction may reach: LDW alone reads instruction memory, and no store does. -/
def State.accessCauses (s : State) (k ea n : Nat) (store ldw : Bool) : List (Cause × Nat) :=
  (if ea % n ≠ 0 then [(.align, ea)] else []) ++
  (if ea ≤ 0xFFFF then (if ldw then [] else [(.access, ea)])
   else if ea ≤ 0x1FFFF then []
   else if inThatch ea then
     (if store then (if s.mayStore k (thatchWord ea) then [] else [(.access, ea)])
      else (if s.mayLoad k (thatchWord ea) then [] else [(.access, ea)]))
   else [(.access, ea)])

/-- A load of `n` bytes at an effective address, whose value goes through `put` (R276 to R281, R308, R310). -/
def loadAt (k ea n : Nat) (ldw : Bool) (put : CoreSt → Nat → CoreSt) (s : State) : Exec :=
  match s.accessCauses k ea n false ldw with
  | x :: xs => .raise (x :: xs)
  | [] =>
    let c := s.core k
    if inThatch ea then
      let a := thatchWord ea
      let s := s.drainFor k a
      let (w, p) := s.loadWord a
      let inSeq := c.lock.isSome
      if p && !inSeq && c.csrBits csrMODE 1 1 == 1 then .raise [(.poison, ea)]
      else
        let w := match c.lock with
          | some l => mergeHeld l.held a w
          | none => w
        let c := s.core k
        let c := if p then c.setCsr csrSTAT (statPsn (c.csrAt csrSTAT)) else c
        .next (s.setCore k (put c (wordBytesAt w (ea % 16) n)))
    else if c.memBad ea n then .raise [(.memEcc, ea)]
    else
      let s := s.correctMem k ea n
      let c := s.core k
      let v := if ea ≤ 0xFFFF then memLoad c.imem ea n else memLoad c.dmem (ea - 0x10000) n
      .next (s.setCore k (put c v))

/-- A store of `n` bytes at an effective address (R276 to R278, R305, R309). -/
def storeAt (k ea n : Nat) (v : CoreSt → Nat) (s : State) : Exec :=
  match s.accessCauses k ea n true false with
  | x :: xs => .raise (x :: xs)
  | [] =>
    let c := s.core k
    if inThatch ea then
      let off := ea % 16
      let e : SbEntry := ⟨thatchWord ea, BitVec.ofNat 128 (v c % 2 ^ (8 * n) * 2 ^ (8 * off)), byteMask off n⟩
      match c.lock with
      | some l => .next (s.setCore k { c with lock := some { l with held := l.held ++ [e] } })
      | none => .next (s.bufferStore k e)
    else .next (s.setCore k (c.storeData ea n (v c)))

/-- The effective address of a load or store, for the issue's checks (R279). -/
def memAddr (k a : Nat) (imm : BitVec 18) (store : Bool) (s : State) : Option (Bool × Nat) :=
  (s.effAddr k ((s.core k).reg a) imm).map fun ea => (store, ea)

/-- A load or store at a + imm: ACCESS where WRAP finds no area, with the base as its address (R279). -/
def atAddr (k a : Nat) (imm : BitVec 18) (f : Nat → State → Exec) (s : State) : Exec :=
  match s.effAddr k ((s.core k).reg a) imm with
  | none => .raise [(.access, ((s.core k).reg a).toNat)]
  | some ea => f ea s

/-- A load instruction of `n` bytes. -/
def loadI (k op d a : Nat) (imm : BitVec 18) (n : Nat) (put : CoreSt → Nat → CoreSt) : Inst where
  word := encI op d a imm.toNat
  kind := .mem
  access := memAddr k a imm false
  effect := atAddr k a imm fun ea => loadAt k ea n (op == 0x10) put

/-- A store instruction of `n` bytes. -/
def storeI (k op d a : Nat) (imm : BitVec 18) (n : Nat) (v : CoreSt → Nat) : Inst where
  word := encI op d a imm.toNat
  kind := .mem
  access := memAddr k a imm true
  effect := atAddr k a imm fun ea => storeAt k ea n v

/-- d takes a value widened without sign (R283). -/
def putU (d : Nat) (c : CoreSt) (v : Nat) : CoreSt := c.setReg d (BitVec.ofNat 32 v)

/-- d takes a value of `w` bits widened with its sign (R283). -/
def putS (d w : Nat) (c : CoreSt) (v : Nat) : CoreSt := c.setReg d (BitVec.ofInt 32 (toSigned w v))

/-- An LDQ or STQ that names a register other than 4, 8 or 12 raises ILLEGAL (R277). -/
def quadInst (d : Nat) (i : Inst) : Inst :=
  if quadReg d then i else { i with access := fun _ => none, effect := fun _ => .raise [(.illegal, i.word)] }

/-- LDW (R283). -/
def execLdw (k : Core) (d a : GReg) (imm : BitVec 18) (s : State) : Out :=
  .next (s.runInst k.val (loadI k.val 0x10 d.val a.val imm 4 (putU d.val)))

/-- LDH (R283). -/
def execLdh (k : Core) (d a : GReg) (imm : BitVec 18) (s : State) : Out :=
  .next (s.runInst k.val (loadI k.val 0x11 d.val a.val imm 2 (putS d.val 16)))

/-- LDHU (R283). -/
def execLdhu (k : Core) (d a : GReg) (imm : BitVec 18) (s : State) : Out :=
  .next (s.runInst k.val (loadI k.val 0x12 d.val a.val imm 2 (putU d.val)))

/-- LDB (R283). -/
def execLdb (k : Core) (d a : GReg) (imm : BitVec 18) (s : State) : Out :=
  .next (s.runInst k.val (loadI k.val 0x13 d.val a.val imm 1 (putS d.val 8)))

/-- LDBU (R283). -/
def execLdbu (k : Core) (d a : GReg) (imm : BitVec 18) (s : State) : Out :=
  .next (s.runInst k.val (loadI k.val 0x14 d.val a.val imm 1 (putU d.val)))

/-- LDQ (R277, R283): d to d+3 := 16 bytes. -/
def execLdq (k : Core) (d a : GReg) (imm : BitVec 18) (s : State) : Out :=
  .next (s.runInst k.val (quadInst d.val
    (loadI k.val 0x15 d.val a.val imm 16 fun c v => c.setQuad d.val (BitVec.ofNat 128 v))))

/-- STW (R283). -/
def execStw (k : Core) (d a : GReg) (imm : BitVec 18) (s : State) : Out :=
  .next (s.runInst k.val (storeI k.val 0x18 d.val a.val imm 4 fun c => (c.reg d.val).toNat))

/-- STH (R283). -/
def execSth (k : Core) (d a : GReg) (imm : BitVec 18) (s : State) : Out :=
  .next (s.runInst k.val (storeI k.val 0x19 d.val a.val imm 2 fun c => (c.reg d.val).toNat))

/-- STB (R283). -/
def execStb (k : Core) (d a : GReg) (imm : BitVec 18) (s : State) : Out :=
  .next (s.runInst k.val (storeI k.val 0x1A d.val a.val imm 1 fun c => (c.reg d.val).toNat))

/-- STQ (R277, R283): 16 bytes := d to d+3. -/
def execStq (k : Core) (d a : GReg) (imm : BitVec 18) (s : State) : Out :=
  .next (s.runInst k.val (quadInst d.val
    (storeI k.val 0x1B d.val a.val imm 16 fun c => (c.quad d.val).toNat)))

/-- STORE_DRAIN (R309): the oldest entry of a core's store buffer is written to its bank. -/
def execStoreDrain (k : Core) (s : State) : Out :=
  let c := s.core k.val
  match c.sb with
  | [] => .next s
  | e :: es => .next ((s.writeEntry e).setCore k.val { c with sb := es })

end Sys2Proof.Machine
end

