-- ==== Sys2Proof/Machine/Mac.lean ====
section
/-! DEFINITION. The MAC-group instructions of a rafter core (R283, R298, R299). -/

namespace Sys2Proof.Machine

/-- Accumulators take exact results: saturated with AOV set, or OVERFLOW under OVT with nothing written (R299). -/
def accTake (k : Nat) (vals : CoreSt → List (Nat × Int)) (s : State) : Exec :=
  let c := s.core k
  let vs := vals c
  let fits := vs.all fun x => accFits x.2
  if !fits && c.csrBits csrMODE 0 1 == 1 then .raise [(.overflow, 0)]
  else
    let c := vs.foldl (fun c x => c.setAcc x.1 (accSat x.2)) c
    let c := if fits then c else c.setCsr csrSTAT (statAov (c.csrAt csrSTAT))
    .next (s.setCore k c)

/-- Two's complement value of an accumulator (R298). -/
def CoreSt.accInt (c : CoreSt) (n : Nat) : Int := (c.acc n).toInt

/-- A MAC-group instruction of format M. -/
def macM (k op n a b : Nat) (vals : CoreSt → List (Nat × Int)) : Inst where
  word := encM op n a b
  kind := .plain
  effect := accTake k vals

/-- A MAC-group instruction of format A on one accumulator. -/
def macA (k fn a n sh : Nat) (val : CoreSt → Int) : Inst where
  word := encA 0x34 0 a n sh fn
  kind := .plain
  effect := accTake k fun c => [(n, val c)]

/-- The product of the low halves, signed (R283). -/
def CoreSt.loMul (c : CoreSt) (a b : Nat) : Int := lo16 (c.reg a) * lo16 (c.reg b)

/-- The product of the high halves, signed (R283). -/
def CoreSt.hiMul (c : CoreSt) (a b : Nat) : Int := hi16 (c.reg a) * hi16 (c.reg b)

/-- MAC (R283): an := an + lo(a)·lo(b). -/
def execMac (k : Core) (n : Fin 2) (a b : GReg) (s : State) : Out :=
  .next (s.runInst k.val (macM k.val 0x30 n.val a.val b.val fun c =>
    [(n.val, c.accInt n.val + c.loMul a.val b.val)]))

/-- MSU (R283): an := an − lo(a)·lo(b). -/
def execMsu (k : Core) (n : Fin 2) (a b : GReg) (s : State) : Out :=
  .next (s.runInst k.val (macM k.val 0x31 n.val a.val b.val fun c =>
    [(n.val, c.accInt n.val - c.loMul a.val b.val)]))

/-- MACD (R283, R299): an := an + lo(a)·lo(b) + hi(a)·hi(b), judged on the sum. -/
def execMacd (k : Core) (n : Fin 2) (a b : GReg) (s : State) : Out :=
  .next (s.runInst k.val (macM k.val 0x32 n.val a.val b.val fun c =>
    [(n.val, c.accInt n.val + c.loMul a.val b.val + c.hiMul a.val b.val)]))

/-- MACP (R283, R299): a0 += lo(a)·lo(b), a1 += hi(a)·hi(b); an overflow in either traps. -/
def execMacp (k : Core) (a b : GReg) (s : State) : Out :=
  .next (s.runInst k.val (macM k.val 0x33 0 a.val b.val fun c =>
    [(0, c.accInt 0 + c.loMul a.val b.val), (1, c.accInt 1 + c.hiMul a.val b.val)]))

/-- ACLR (R283): an := 0. -/
def execAclr (k : Core) (n : Fin 2) (s : State) : Out :=
  .next (s.runInst k.val (macA k.val 0x00 0 n.val 0 fun _ => 0))

/-- ALD (R283): an := a, sign-extended. -/
def execAld (k : Core) (n : Fin 2) (a : GReg) (s : State) : Out :=
  .next (s.runInst k.val (macA k.val 0x01 a.val n.val 0 fun c => (c.reg a.val).toInt))

/-- AADD (R283): an := an + (a, sign-extended, shifted left by sh). -/
def execAadd (k : Core) (n : Fin 2) (a : GReg) (sh : BitVec 6) (s : State) : Out :=
  .next (s.runInst k.val (macA k.val 0x02 a.val n.val sh.toNat fun c =>
    c.accInt n.val + (c.reg a.val).toInt * 2 ^ sh.toNat))

/-- ASUB (R283): an := an − (a, sign-extended, shifted left by sh). -/
def execAsub (k : Core) (n : Fin 2) (a : GReg) (sh : BitVec 6) (s : State) : Out :=
  .next (s.runInst k.val (macA k.val 0x03 a.val n.val sh.toNat fun c =>
    c.accInt n.val - (c.reg a.val).toInt * 2 ^ sh.toNat))

/-- ASHR (R283): an := an shifted right by sh, arithmetically. -/
def execAshr (k : Core) (n : Fin 2) (sh : BitVec 5) (s : State) : Out :=
  .next (s.runInst k.val (macA k.val 0x04 0 n.val sh.toNat fun c => c.accInt n.val / (2 ^ sh.toNat : Int)))

/-- ASHL (R283, R299): an := an shifted left by sh. -/
def execAshl (k : Core) (n : Fin 2) (sh : BitVec 5) (s : State) : Out :=
  .next (s.runInst k.val (macA k.val 0x05 0 n.val sh.toNat fun c => c.accInt n.val * 2 ^ sh.toNat))

/-- MVAL (R283): d := an[31:0]. -/
def execMval (k : Core) (d : GReg) (n : Fin 2) (s : State) : Out :=
  .next (s.runInst k.val
    { word := encA 0x34 d.val 0 n.val 0 0x06, kind := .plain,
      effect := onCore k.val fun c => c.setReg d.val ((c.acc n.val).setWidth 32) })

/-- MVAH (R283): d := an[39:32], sign-extended. -/
def execMvah (k : Core) (d : GReg) (n : Fin 2) (s : State) : Out :=
  .next (s.runInst k.val
    { word := encA 0x34 d.val 0 n.val 0 0x07, kind := .plain,
      effect := onCore k.val fun c => c.setReg d.val (BitVec.ofInt 32 (c.accInt n.val / (2 ^ 32 : Int))) })

end Sys2Proof.Machine
end

