-- ==== Sys2Proof/Machine/Purlin.lean ====
section
/-! DEFINITION. The Purlin dispatchers: time-outs, dispatch, lending, flags, group enables and drain limits
(R252 to R264, R269, R270). -/

namespace Sys2Proof.Machine

/-! ## Time-outs (R253) -/

/-- QUEUE_WAIT_TIMEOUT (R253): the head's time-out expires, counted from the instant at which it became head. A
condition met at that instant wins. -/
def execQueueWaitTimeout (q : QueueNo) (s : State) : Out :=
  let q := q.val
  let h := s.queueHalf q
  match (s.queue q).descs.head? with
  | none => .next s
  | some e =>
    if s.isReady q || s.isBusy q || s.on (PQ_CFG.FOLLOW q) || !(s.queue q).admitted then .next s
    else
      let s := s.advance ((s.queue q).headAt + s.eff (PQ_LIM.TMO q) * 256 * tcTf)
      if s.waitMet q e then .next (s.readyHead q e false)
      else .next (((s.readyHead q e true).count (PD_TIMEOUTS.N h)).flag (PD_EVT.TIMEOUT h))

/-! ## Dispatch (R255 to R257) -/

/-- The first ready task of a list of priority `prio` that suits, with the core it goes to. (log 65: DEDUCED) -/
def State.pairAt (s : State) (h prio : Nat) (core : ReadyItem → Option Nat) : Option (ReadyItem × Nat) :=
  ((s.purlin h).ready.filter fun r => r.prio == prio && s.forCores r).findSome? fun r =>
    (core r).map fun k => (r, k)

/-- The next dispatch of a half to its own cores: the highest priority with a suitable idle core, the earliest
task there, the core idle longest (R255, R256). (log 65: DEDUCED) -/
def State.nextDispatch (s : State) (h : Nat) : Option (ReadyItem × Nat) :=
  (List.range 8).reverse.findSome? fun prio =>
    s.pairAt h prio fun r => (s.purlin h).idle.find? fun k => s.eligible r.cls k

/-- DISPATCH (R255). -/
def execDispatch (h : Half) (s : State) : Out :=
  let h := h.val
  if s.mg.frozen then .next s
  else match s.nextDispatch h with
    | none => .next s
    | some (r, k) =>
      let w := tfPurlinCycles (s.now - r.readyAt)
      match s.takeItem h r false with
      | (none, s) => .next s
      | (some t, s) =>
        let s := s.trace h 1 t.desc.queue k t.desc.prio t.desc.cls t.desc.course w
        .next (((s.deliver k t).depthWatch h).settle.holdAll)

/-! ## Lending (R259) -/

/-- Whether a half may lend one more of its tasks (R259). -/
def State.mayLend (s : State) (h : Nat) : Bool :=
  s.effOn (PD_LEND.EN h) && decide (s.rd (PD_STATUS.LENT_OUT h) < s.eff (PD_LEND.MAX h))

/-- Whether a ready task of a half may be lent: a CORES task of a lendable queue (R259). (log 65: DEDUCED) -/
def State.lendable (s : State) (r : ReadyItem) : Bool := s.forCores r && s.effOn (PQ_CFG.LEND r.queue)

/-- LEND_OFFER (R259): the task that has stood longest without an idle eligible core of its own half is offered
once it has stood ready for PD_LEND.WAIT cycles. -/
def execLendOffer (h : Half) (s : State) : Out :=
  let h := h.val
  let due := fun (r : ReadyItem) =>
    !r.offered && s.lendable r && !(s.purlin h).idle.any (fun k => s.eligible r.cls k)
  if !s.mayLend h || s.mg.frozen then .next s
  else match (s.purlin h).ready.find? due with
    | none => .next s
    | some r =>
      let s := s.advance (r.readyAt + purlinCyclesTf (s.eff (PD_LEND.WAIT h)))
      let p := s.purlin h
      let rs := p.ready.map fun (x : ReadyItem) => if x = r then { x with offered := true } else x
      .next (s.setPurlin h { p with ready := rs })

/-- The core of half `h` that would run an offered task of the other half: idle, eligible by its own half's map,
with a region for lent output, and with no ready task of its own half that it could run (R259). -/
def State.lentCore (s : State) (h : Nat) (r : ReadyItem) : Option Nat :=
  (s.purlin h).idle.find? fun k =>
    s.eligible r.cls k && (s.regionOf (704 + k)).2 != 0 &&
      !(s.purlin h).ready.any fun x => s.forCores x && s.eligible x.cls k

/-- LEND_ACCEPT (R259): half `h` accepts an offer of the other half, and the task enters its core. (log 67: DEDUCED) -/
def execLendAccept (h : Half) (s : State) : Out :=
  let h := h.val
  let o := 1 - h
  if !s.mayLend o || s.mg.frozen then .next s
  else
    match (List.range 8).reverse.findSome? fun prio =>
      s.pairAt o prio fun r => if r.offered then s.lentCore h r else none with
    | none => .next s
    | some (r, k) =>
      let w := tfPurlinCycles (s.now - r.readyAt)
      match s.takeItem o r true with
      | (none, s) => .next s
      | (some t, s) =>
        let d := t.desc
        let s := s.trace o 4 d.queue k d.prio d.cls d.course 0
        let s := s.trace h 5 d.queue k d.prio d.cls d.course 0
        let s := s.trace o 1 d.queue k d.prio d.cls d.course w
        .next (((s.deliver k t).depthWatch o).settle.holdAll)

/-! ## Group enables and drain limits (R242, R260) -/

/-- A write of PD_QGEN (R242, R260): the enable bit goes through its check. -/
def writeQgen (j data : Nat) (s : State) : Status × State :=
  s.reqEnable 3 j (PD_QGEN.EN j) data fun s => (.done, s)

/-- QGROUP_EN_WRITE (R242). -/
def execQgroupEnWrite (path : Path) (j : QGroup) (data : U32) (s : State) : Out :=
  s.writeRow path (Addr.PD_QGEN j.val) (writeQgen j.val data.toNat)

/-- DRAIN_TIMEOUT (R260): the descriptors a retired queue still holds at its drain limit are dropped, and one NOTE
names the first and last course. -/
def execDrainTimeout (q : QueueNo) (s : State) : Out :=
  let q := q.val
  let x := s.queue q
  let h := s.queueHalf q
  match x.descs.head?, x.descs.getLast? with
  | some a, some z =>
    if !x.retired then .next s
    else
      let s := s.advance (x.retireAt + usTf (s.eff (PD_DRAIN.TMO h)))
      let s := s.each x.descs fun s e =>
        let s := s.release e.desc.place
        let s := (s.count (PD_DROPPED.N h)).flag (PD_EVT.DROP h)
        s.trace h 6 q (s.traceUnit q) e.desc.prio e.desc.cls e.desc.course 0
      let p := s.purlin h
      let s := s.setPurlin h { p with ready := p.ready.filter fun r => r.queue != q || r.restarted }
      let s := (s.setQueue q { s.queue q with descs := [] }).syncQueue q
      let s := s.note h (Addr.PD_EVT h) (PD_EVT.DROP h).lo .event q [a.desc.course, z.desc.course]
      .next s.settle.holdAll
  | _, _ => .next s

/-! ## Flags and counters (R252, R269) -/

/-- One is added to a flag of a half, saturating (R252). -/
def State.addFlag (s : State) (h f : Nat) : State := (s.count (PD_FLAG.COUNT h f)).settle

/-- A write of PD_FLAG_SET (R252). -/
def writeFlagSet (h data : Nat) (s : State) : Status × State := (.done, s.addFlag h (data % 256))

/-- PD_FLAG_SET (R252). -/
def execPdFlagSet (path : Path) (h : Half) (data : U32) (s : State) : Out :=
  s.writeRow path (Addr.PD_FLAG_SET h.val) (writeFlagSet h.val data.toNat)

/-- A read of PD_CORE.TASKS (R269, R514): the tasks, and unless it is a peek the count clears and the path's copy of
WAIT_SUM takes the waits of the same tasks, which the counter then no longer holds. -/
def readCoreTasks (path : Path) (consume : Bool) (k : Nat) (s : State) : Nat × State :=
  let n := s.rd (PD_CORE_TASKS.TASKS k)
  if !consume then (n, s)
  else
    let a := Addr.PD_CORE_WAIT_SUM k
    let s := (s.setLatch path a (s.reg a)).setLatch path (a + 1) 1
    (n, (s.wr (PD_CORE_TASKS.TASKS k) 0).wr (PD_CORE_WAIT_SUM.WAIT_SUM k) 0)

/-- PD_CORE_TASKS_READ (R269). -/
def execPdCoreTasksRead (path : Path) (consume : Bool) (k : Core) (s : State) : Out :=
  if !s.pins.answered then .next s else .next (readCoreTasks path consume k.val s).2

end Sys2Proof.Machine
end

