-- ==== Sys2Proof/Machine/TaskOps.lean ====
section
/-! DEFINITION. The task, record, lock and system instructions of a rafter core (R274, R275, R287 to R294, R302,
R305 to R308, R310). -/

namespace Sys2Proof.Machine

/-! ## TAKE and DONE (R287, R292) -/

/-- TAKE (R287, R312): the core waits until a task is delivered, or leaves service where a boundary asked for it.
(log 72: DEDUCED) -/
def execTake (k : Core) (d : GReg) (s : State) : Out :=
  let k := k.val
  let w := encS 0x38 d.val 0 0 0x00
  .next (s.runInst k
    { word := w, kind := .task,
      effect := fun s =>
        let c := s.core k
        if !quadReg d.val || c.task.isSome then .raise [(.illegal, w)]
        else if c.leaving then .idle (s.coreOut k)
        else .idle ((s.setCore k { c with taking := some d.val }).goIdle k) })

/-- Allocations not pushed are abandoned at DONE, each counted (R292). -/
def State.abandonAllocs (s : State) (k : Nat) : State :=
  let n := (s.core k).allocs.length
  if n = 0 then s
  else ((s.dropAllocs k).count (RC_ALLOC_ABANDON.N k) n).flag (RC_EVT.ALLOC_ABANDON k)

/-- The task's end: the buffer written out, allocations abandoned, the delivered records released or kept, the flag
added, completion signalled (R292, R293), the clock changed where due (R317), and a draining core out (R312). -/
def State.endTask (s : State) (k : Nat) (t : Task) (keep : Bool) (flag : Option Nat) : State :=
  let s := (s.countBusy k).abandonAllocs k
  let s := if keep then
      let c := s.core k
      s.setCore k { c with kept := c.kept ++ t.records }
    else s.releaseTask t
  let c := s.core k
  let s := s.setCore k { c.clocked with task := none, pushed := [], accepted := 0 }
  let s := match flag with
    | some f => s.addFlag t.half f
    | none => s
  let s := if t.desc.lent then s.countLent t.half false else s
  let s := s.taskDone t k
  if s.coreState k = rcDraining then s.coreOut k else s

/-- DONE (R292). -/
def execDoneT (k : Core) (a : GReg) (opts : BitVec 10) (s : State) : Out :=
  let k := k.val
  let w := encS 0x39 0 a.val opts.toNat 0x00
  .next (s.runInst k
    { word := w, kind := .task,
      effect := fun s =>
        match (s.core k).task with
        | none => .raise [(.illegal, w)]
        | some t =>
          let keep := bitAt opts.toNat 0
          if keep && decide (64 < (s.core k).kept.length + t.records.length) then .raise [(.access, 0)]
          else
            let f := ((s.core k).reg a.val).toNat % 256
            .next ((s.flushSb k).endTask k t keep (if bitAt opts.toNat 1 then some f else none)) })

/-! ## Records (R289 to R293) -/

/-- The core's write region for its task's half: writer 640 + k, or 704 + k for a lent task (R198, R289). -/
def CoreSt.region (c : CoreSt) (k : Nat) : Nat :=
  if (c.task.map fun t => t.desc.lent).getD false then 704 + k else 640 + k

/-- The core waits in an instruction since an instant (R289, R290). (log 72: DEDUCED) -/
def State.coreWaits (s : State) (k w : Nat) : State :=
  let c := s.core k
  if c.stuck.isSome then s else s.setCore k { c with stuck := some (w, s.now) }

/-- Core cycles that an instruction has waited (R289, R290). (log 72: DEDUCED) -/
def CoreSt.waited (c : CoreSt) (now : Nat) : Nat :=
  match c.stuck with
  | some (_, t) => c.cycles (now - t)
  | none => 0

/-- ALLOC (R289): a record of a words is reserved at the writer's pointer and held provisionally. (log 72: DEDUCED) -/
def execAlloc (k : Core) (d a : GReg) (s : State) : Out :=
  let k := k.val
  let w := encS 0x3B d.val a.val 0 0x00
  .next (s.runInst k
    { word := w, kind := .task,
      effect := fun s =>
        let c := s.core k
        let n := (c.reg a.val).toNat
        let wr := c.region k
        if n = 0 ∨ 2048 < n ∨ c.task.isNone ∨ 8 ≤ c.allocs.length ∨ (s.regionOf wr).2 = 0 then
          .raise [(.access, n)]
        else if !s.fits wr n then
          let s := if c.stuck.isNone then
              s.count (if writerHalf wr = 0 then TH_REGION_WAIT.N else TH_REGION_WAIT.S) else s
          .wait (s.coreWaits k w)
        else
          let s := s.count (RC_ALLOC_WAIT.N k) (c.waited s.now)
          let (r, s) := s.takeWords wr n
          let s := s.hold r
          let c := (s.core k).setReg d.val (BitVec.ofNat 32 (thatchBase + 16 * r.addr))
          .next (s.setCore k { c with allocs := r :: c.allocs }) })

/-- What a pushed descriptor names (R290): an unpushed allocation, another pushable record with its length bound, or
nothing. -/
inductive Pushable where
  | alloc (r : RecAt)
  | other
  | no
deriving DecidableEq, Repr

/-- The record that a firmware descriptor names (R290). -/
def State.pushable (s : State) (k : Nat) (d : Desc) : Pushable :=
  let c := s.core k
  let a := d.place.addr
  match c.allocs.find? fun r => r.addr == a with
  | some r =>
    if d.len ≤ r.len ∧ wfield (s.loadWord a).1 0 4 ≠ 0 then .alloc r else .no
  | none =>
    match c.pushed.find? fun r => r.addr == a with
    | some r => if d.len ≤ r.len then .other else .no
    | none =>
      let given := (c.task.map Task.records).getD []
      if (given ++ c.kept).any fun r => r.addr == a then .other else .no

/-- The status of a push that is refused (R247, R290), 0 when it is not. (log 73: DEDUCED) -/
def State.pushStatus (s : State) (k : Nat) (d : Desc) : Nat :=
  let q := d.queue
  if !s.on (PQ_CFG.FWPUSH q) then 1
  else if s.queueHalf q ≠ (s.core k).owning k then 2
  else if 4 ≤ d.wait then 3
  else if s.on (PQ_CFG.FOLLOW q) then 4
  else if d.len = 0 ∨ s.pushable k d = .no then 5
  else if !s.queueOpen q then 6
  else 0

/-- The header of a first push: LEN, FW, NODE and the writer's next SEQ (R291). -/
def State.rewriteHeader (s : State) (wr : Nat) (r : RecAt) (len : Nat) : State :=
  let (h, p) := s.loadWord r.addr
  let x := s.writer wr
  let h := setBits h.toNat 72 16 len
  let h := setBits h 93 1 1
  let h := setBits h 96 16 (s.rd NODE_ID.ID)
  let h := setBits h 112 16 x.seq
  (s.storeWord r.addr (BitVec.ofNat 128 h) p).setWriter wr { x with seq := (x.seq + 1) % 2 ^ 16 }

/-- The write pointer moves back to the end of a shortened record when that is the latest allocation (R291). -/
def State.shorten (s : State) (wr : Nat) (r : RecAt) (len : Nat) : State :=
  let (base, n) := s.regionOf wr
  let l := n * 256
  let x := s.writer wr
  let off := r.addr - base * 256
  if l ≠ 0 ∧ (off + r.len) % l = x.wp then s.setWriter wr { x with wp := (off + len) % l } else s

/-- The first accepted push of an allocation (R291): its provisional hold turns into the queue's. -/
def State.pushAlloc (s : State) (k : Nat) (r : RecAt) (len : Nat) : State :=
  let wr := (s.core k).region k
  let s := (s.rewriteHeader wr r len).shorten wr r len
  let s := s.release r
  let c := s.core k
  s.setCore k { c with allocs := c.allocs.filter fun x => x.addr != r.addr, pushed := ⟨r.addr, len⟩ :: c.pushed }

/-- The epoch of a record: its header's, or the one in force where its first word is no header (R205, R208).
(log 74: DEDUCED) -/
def State.recEpoch (s : State) (d : Desc) : Nat :=
  let h := (s.loadWord d.place.addr).1
  if wfield h 0 4 = 0 then s.epoch else wfield h 24 16

/-- PUSH (R290, R291): the status goes to d; a push to a queue at its limit waits. (log 72, 74: DEDUCED) -/
def execPush (k : Core) (d a : GReg) (s : State) : Out :=
  let k := k.val
  let w := encS 0x3A d.val a.val 0 0x00
  .next (s.runInst k
    { word := w, kind := .task,
      effect := fun s =>
        if !quadReg a.val then .raise [(.illegal, w)]
        else
          let s := s.flushSb k
          let x := Desc.ofFirmware ((s.core k).quad a.val)
          match s.pushStatus k x with
          | 0 =>
            if s.atLimit x.queue then .wait (s.coreWaits k w)
            else
              let s := s.count (RC_PUSH_WAIT.N k) ((s.core k).waited s.now)
              let s := match s.pushable k x with
                | .alloc r => s.pushAlloc k r x.len
                | _ => s
              let s := (s.hold x.place).pushQueue x.queue x (s.recEpoch x)
              let c := (s.core k).setReg d.val 0
              .next (s.setCore k { c with accepted := c.accepted + 1 })
          | st =>
            let h := (s.core k).owning k
            let s := ((s.count (PD_BADPUSH.N h)).flag (PD_EVT.BADPUSH h)).flag (RC_EVT.PUSH_REFUSED k)
            .next (s.setCore k ((s.core k).setReg d.val (BitVec.ofNat 32 st))) })

/-- RLS (R293): a kept record is released. (log 75: DEDUCED) -/
def execRls (k : Core) (d a : GReg) (s : State) : Out :=
  let k := k.val
  let w := encS 0x3D d.val a.val 0 0x00
  .next (s.runInst k
    { word := w, kind := .task,
      effect := fun s =>
        if !quadReg a.val then .raise [(.illegal, w)]
        else
          let c := s.core k
          let x := Desc.ofFirmware (c.quad a.val)
          match c.kept.find? fun r => r.addr == x.place.addr with
          | some r =>
            let s := s.release r
            let c := c.setReg d.val 0
            .next (s.setCore k { c with kept := c.kept.erase r })
          | none => .next (s.setCore k (c.setReg d.val 1)) })

/-! ## Locked sequences (R305 to R308) -/

/-- The bank that LOCK names, where its conditions hold: a task, a word of a shared area of the task's half, and no
active loop end within the sequence (R305). -/
def State.lockBank (s : State) (k : Nat) (addr : U32) (n : Nat) : Option Nat :=
  let c := s.core k
  let a := thatchWord addr.toNat
  if c.task.isSome && inThatch addr.toNat && bundleHalf (a / 256) == c.owning k && s.inShared a (c.owning k) &&
      !((List.range n).any fun i => c.atLoopEnd (c.pc + 4 + BitVec.ofNat 32 (4 * i)))
  then some (bankOf a) else none

/-- LOCK (R305): the bank is locked to the core and the next n instructions are its sequence. A bank that another
core holds is waited for. (log 72: DEDUCED) -/
def execLock (k : Core) (d a : GReg) (n : BitVec 10) (s : State) : Out :=
  let k := k.val
  let w := encS 0x3C d.val a.val n.toNat 0x00
  let len := n.toNat % 8 + 1
  .next (s.runInst k
    { word := w, kind := .task,
      effect := fun s =>
        let c := s.core k
        match s.lockBank k (c.reg a.val) len with
        | none => .raise [(.lock, c.pc.toNat)]
        | some b =>
          let s := s.flushSb k
          if Tab.get 0 s.th.locks b ≠ 0 then .wait (s.coreWaits k w)
          else
            let l : LockSeq := { left := len, bank := b, d := d.val, lockPc := c.pc }
            let s := { s with th := { s.th with locks := Tab.set 0 s.th.locks b (k + 1) } }
            .next (s.setCore k { s.core k with lock := some l }) })

/-- LOCK_BREAK (R219, R307): the lock is broken after 32 bank cycles; the sequence fails and its stores are
discarded. Its remaining instructions still execute, their stores discarded as well. -/
def execLockBreak (k : Core) (s : State) : Out :=
  let k := k.val
  let c := s.core k
  match c.lock with
  | none => .next s
  | some l =>
    if l.broken then .next s
    else
      let s := s.failSeq k
      .next (s.setCore k { s.core k with lock := some { l with broken := true, held := [] } })

/-! ## CSRs, RETE, TRAP, SYNC (R274, R275, R302) -/

/-- MFC (R274): d := CSR; reading TIMEL latches TIMEH. -/
def execMfc (k : Core) (d : GReg) (csr : BitVec 10) (s : State) : Out :=
  let k := k.val
  let n := csr.toNat
  let w := encS 0x3E d.val 0 n 0x00
  .next (s.runInst k
    { word := w, kind := .plain,
      effect := fun s =>
        if !csrRW n && !csrRO n then .raise [(.illegal, w)]
        else
          let v := s.csrRead k n
          let c := s.core k
          let c := if n = 0x1A then c.setCsr csrTIMEH (BitVec.ofNat 32 (stamp s.now / 2 ^ 32)) else c
          .next (s.setCore k (c.setReg d.val v)) })

/-- MTC (R274, R275). (log 77: DEDUCED) -/
def execMtc (k : Core) (csr : BitVec 10) (a : GReg) (s : State) : Out :=
  let k := k.val
  let n := csr.toNat
  let w := encS 0x3E 0 a.val n 0x01
  .next (s.runInst k
    { word := w, kind := .task,
      effect := fun s =>
        let c := s.core k
        let v := c.reg a.val
        if !csrRW n || (n == csrMODE && bits v.toNat 2 2 == 3) then .raise [(.illegal, w)]
        else .next (s.setCore k (c.setCsr n (csrMask n (c.csrAt n) v))) })

/-- RETE (R302): MODE := EMODE, EXL := 0, PC := EPC. The address mode 3 is written to MODE by no instruction
(R274). (log 77: DEDUCED) -/
def execRete (k : Core) (s : State) : Out :=
  let k := k.val
  let w := encS 0x3E 0 0 0 0x02
  .next (s.runInst k
    { word := w, kind := .task,
      effect := fun s =>
        let c := s.core k
        if !c.exl || c.csrBits csrEMODE 2 2 == 3 then .raise [(.illegal, w)]
        else
          let c1 := c.setCsr csrMODE (c.csrAt csrEMODE)
          .goto_ (s.setCore k { c1 with exl := false }) (c.csrAt csrEPC) })

/-- TRAP (R283). -/
def execTrap (k : Core) (imm : BitVec 10) (s : State) : Out :=
  .next (s.runInst k.val
    { word := encS 0x3E 0 0 imm.toNat 0x03, kind := .other, effect := fun _ => .raise [(.trap, imm.toNat)] })

/-- SYNC (R310): the store buffer is written out. -/
def execSync (k : Core) (s : State) : Out :=
  .next (s.runInst k.val
    { word := encS 0x3E 0 0 0 0x04, kind := .other, effect := fun s => .next (s.flushSb k.val) })

/-- ILLEGAL_INSTRUCTION (R284): a word that R282 and R283 do not list is fetched. -/
def illegalWord (k w : Nat) (s : State) : State :=
  s.runInst k { word := w, kind := .other, effect := fun _ => .raise [(.illegal, w)] }

end Sys2Proof.Machine
end

