-- ==== Sys2Proof/Machine/Debug.lean ====
section
/-! DEFINITION. The decoding of a rafter core's words, and the debug port: halt, resume, step, forced halt, register
and local-memory access (R280, R282 to R284, R318 to R321). -/

namespace Sys2Proof.Machine

/-! ## Decoding (R282 to R284) -/

/-- A general register from a field. -/
def gr (w lo : Nat) : GReg := ⟨bits w lo 4, by unfold bits; exact Nat.mod_lt _ (by decide)⟩

/-- An accumulator from a field. -/
def an (w lo : Nat) : Fin 2 := ⟨bits w lo 1, by unfold bits; exact Nat.mod_lt _ (by decide)⟩

/-- A field as a bit vector. -/
def bvf (w lo n : Nat) : BitVec n := BitVec.ofNat n (bits w lo n)

/-- Format R with OP 0x00: the register operations by FN (R283). -/
def decodeAlu (k : Core) (w : Nat) : Option (State → Out) :=
  let d := gr w 22
  let a := gr w 18
  let b := gr w 14
  if bits w 8 6 ≠ 0 then none
  else match bits w 0 8 with
    | 0x01 => some (execAdd k d a b)
    | 0x02 => some (execSub k d a b)
    | 0x03 => some (execAddc k d a b)
    | 0x04 => some (execSubc k d a b)
    | 0x05 => some (execAndR k d a b)
    | 0x06 => some (execOrR k d a b)
    | 0x07 => some (execXorR k d a b)
    | 0x08 => some (execSll k d a b)
    | 0x09 => some (execSrl k d a b)
    | 0x0A => some (execSra k d a b)
    | 0x0B => some (execSlt k d a b)
    | 0x0C => some (execSltu k d a b)
    | 0x0D => some (execMul k d a b)
    | 0x0E => some (execMulhs k d a b)
    | 0x0F => some (execMulhu k d a b)
    | 0x10 => some (execMinR k d a b)
    | 0x11 => some (execMaxR k d a b)
    | 0x12 => some (execAbsd k d a b)
    | 0x13 => some (execClz k d a)
    | _ => none

/-- Format A with OP 0x34, by FN (R283). -/
def decodeAcc (k : Core) (w : Nat) : Option (State → Out) :=
  let d := gr w 22
  let a := gr w 18
  let n := an w 17
  let short := bits w 13 1 = 0
  if bits w 14 3 ≠ 0 then none
  else match bits w 0 8 with
    | 0x00 => some (execAclr k n)
    | 0x01 => some (execAld k n a)
    | 0x02 => some (execAadd k n a (bvf w 8 6))
    | 0x03 => some (execAsub k n a (bvf w 8 6))
    | 0x04 => if short then some (execAshr k n (bvf w 8 5)) else none
    | 0x05 => if short then some (execAshl k n (bvf w 8 5)) else none
    | 0x06 => some (execMval k d n)
    | 0x07 => some (execMvah k d n)
    | _ => none

/-- Format S with OP 0x3E, by FN (R283). -/
def decodeSys (k : Core) (w : Nat) : Option (State → Out) :=
  match bits w 0 8 with
  | 0x00 => some (execMfc k (gr w 22) (bvf w 8 10))
  | 0x01 => some (execMtc k (bvf w 8 10) (gr w 18))
  | 0x02 => some (execRete k)
  | 0x03 => some (execTrap k (bvf w 8 10))
  | 0x04 => some (execSync k)
  | _ => none

/-- Format M, whose other fields must be 0 (R282). -/
def decodeMac (k : Core) (w : Nat) (f : Fin 2 → GReg → GReg → State → Out) : Option (State → Out) :=
  if bits w 22 3 = 0 ∧ bits w 0 14 = 0 then
    some (if bits w 26 6 = 0x33 then execMacp k (gr w 18) (gr w 14) else f (an w 25) (gr w 18) (gr w 14))
  else none

/-- A shift by an immediate of five bits (R283). -/
def decodeShift (w : Nat) (f : BitVec 5 → State → Out) : Option (State → Out) :=
  if bits w 5 13 = 0 then some (f (bvf w 0 5)) else none

/-- The instruction that a word stands for, none where R284 makes it illegal whatever the state. -/
def decodeCore (k : Core) (w : Nat) : Option (State → Out) :=
  let d := gr w 22
  let a := gr w 18
  let i : BitVec 18 := bvf w 0 18
  let fn0 := bits w 0 8 = 0
  let jump := fn0 ∧ bits w 8 6 = 0
  match bits w 26 6 with
  | 0x00 => decodeAlu k w
  | 0x01 => some (execAddi k d a i)
  | 0x02 => some (execAndi k d a i)
  | 0x03 => some (execOri k d a i)
  | 0x04 => some (execXori k d a i)
  | 0x05 => decodeShift w (execSlli k d a)
  | 0x06 => decodeShift w (execSrli k d a)
  | 0x07 => decodeShift w (execSrai k d a)
  | 0x08 => some (execSlti k d a i)
  | 0x09 => some (execSltiu k d a i)
  | 0x0A => if bits w 16 6 = 0 then some (execLui k d (bvf w 0 16)) else none
  | 0x10 => some (execLdw k d a i)
  | 0x11 => some (execLdh k d a i)
  | 0x12 => some (execLdhu k d a i)
  | 0x13 => some (execLdb k d a i)
  | 0x14 => some (execLdbu k d a i)
  | 0x15 => some (execLdq k d a i)
  | 0x18 => some (execStw k d a i)
  | 0x19 => some (execSth k d a i)
  | 0x1A => some (execStb k d a i)
  | 0x1B => some (execStq k d a i)
  | 0x20 => some (execBeq k d a i)
  | 0x21 => some (execBne k d a i)
  | 0x22 => some (execBlt k d a i)
  | 0x23 => some (execBge k d a i)
  | 0x24 => some (execBltu k d a i)
  | 0x25 => some (execBgeu k d a i)
  | 0x26 => some (execJ k (bvf w 0 26))
  | 0x27 => some (execJal k (bvf w 0 26))
  | 0x28 => if jump then some (execJr k a) else none
  | 0x29 => if jump then some (execJalr k d a) else none
  | 0x2C => some (execLoop k (an w 25) (gr w 21) (bvf w 10 11) (bvf w 0 10))
  | 0x30 => decodeMac k w (execMac k)
  | 0x31 => decodeMac k w (execMsu k)
  | 0x32 => decodeMac k w (execMacd k)
  | 0x33 => if bits w 25 1 = 0 then decodeMac k w (execMac k) else none
  | 0x34 => decodeAcc k w
  | 0x38 => if fn0 then some (execTake k d) else none
  | 0x39 => if fn0 then some (execDoneT k a (bvf w 8 10)) else none
  | 0x3A => if fn0 then some (execPush k d a) else none
  | 0x3B => if fn0 then some (execAlloc k d a) else none
  | 0x3C => if fn0 then some (execLock k d a (bvf w 8 10)) else none
  | 0x3D => if fn0 then some (execRls k d a) else none
  | 0x3E => decodeSys k w
  | _ => none

/-- ILLEGAL_INSTRUCTION (R284). A word that is listed is no such fetch. -/
def execIllegalInstruction (k : Core) (w : U32) (s : State) : Out :=
  match decodeCore k w.toNat with
  | none => .next (illegalWord k.val w.toNat s)
  | some _ => .next s

/-- The core fetches the word at its PC and issues it (R276, R280). (log 69: DESIGN CHOICE) -/
def State.fetchIssue (s : State) (k : Core) : State :=
  let w := memLoad (s.core k.val).imem (s.core k.val).pc.toNat 4
  match decodeCore k w with
  | none => illegalWord k.val w s
  | some f =>
    match f s with
    | .next s => s
    | _ => s

/-! ## Instruction memory scrub (R280) -/

/-- IMEM_SCRUB (R280): the scrubber reads a word and finds bits in error: one is corrected and counted, more are
reported. -/
def execImemScrub (k : Core) (w : BitVec 14) (errs : Nat) (s : State) : Out :=
  let k := k.val
  let a := w.toNat
  let c := s.core k
  let n := errs + Tab.get 0 c.memErr a
  let s := s.setCore k { c with memErr := Tab.set 0 c.memErr a n }
  if n = 1 then .next (s.correctMem k (4 * a) 4)
  else if 2 ≤ n then
    .next (((s.tally 0x123)).event (k / 32) (RC_EVT.IMEM_UNCORR k) (unitId 4 k))
  else .next s

/-! ## The debug port (R318 to R321) -/

/-- A halted core goes on in the state it left (R312). -/
def State.resumeCore (s : State) (k : Nat) : State :=
  let c := s.core k
  let s := s.wr (DBG_STAT.HALTED k) 0
  let s := s.wr (DBG_STAT.DS k) 0
  let s := s.wr (DBG_STAT.LOCK_ABANDONED k) 0
  let s := s.setCore k { c with bpSkip := s.rd (DBG_STAT.CAUSE k) == 1 }
  if c.haltedFrom = rcIdle then
    if c.leaving then (s.coreOut k).syncCore k else (s.goIdle k).syncCore k
  else (s.setCoreState k c.haltedFrom).syncCore k

/-- A halt is requested: taken at an instruction boundary (R318). (log 83: DEDUCED) -/
def State.requestHalt (s : State) (k : Nat) : State :=
  let st := s.coreState k
  if st == rcRunning || st == rcIdle || st == rcDraining then
    (s.setCore k { s.core k with haltReq := true }).boundaryHalt k
  else s

/-- A forced halt: a sequence fails, and a pending delay slot leaves the PC at its branch (R307, R318).
(log 83: DEDUCED) -/
def State.forceHalt (s : State) (k : Nat) : State :=
  let st := s.coreState k
  if !(st == rcRunning || st == rcIdle || st == rcDraining) then s
  else
    let c := s.core k
    match c.lock, c.slot with
    | some l, _ =>
      let s := s.failSeq k
      let c1 := c.setReg l.d 0
      let s := s.setCore k { c1 with lock := none, pc := c.seqEnd }
      (s.wr (DBG_STAT.LOCK_ABANDONED k) 1).haltCore k 3 0
    | none, some b =>
      let s := s.setCore k { c with slot := none, pc := b.1 }
      (s.wr (DBG_STAT.DS k) 1).haltCore k 3 0
    | none, none => s.haltCore k 3 0

/-- A step: one instruction, a branch with its delay slot, or a whole locked sequence, each as the core fetches it
(R318). At most nine instructions belong to one step. -/
def State.stepCore (s : State) (k : Core) : State :=
  let c := s.core k.val
  if c.haltedFrom = rcIdle then (s.resumeCore k.val).setCore k.val { (s.resumeCore k.val).core k.val with stepping := true }
  else
    let s := s.resumeCore k.val
    let s := s.setCore k.val { s.core k.val with stepping := true }
    (List.range 9).foldl (fun (s : State) _ =>
      let st := s.coreState k.val
      if (s.core k.val).stepping && (st == rcRunning || st == rcDraining) && (s.core k.val).stuck.isNone
      then s.fetchIssue k else s) s

/-- A write of DBG_CTRL (R318, R324): of several requests in one write a forced halt, then a halt, then a step
acts. (log 83: DEDUCED) -/
def writeDbgCtrl (k : Core) (data : Nat) (s : State) : Status × State :=
  let halted := s.coreState k.val == rcHalted
  if bitAt data 3 then (.done, s.forceHalt k.val)
  else if bitAt data 0 then (.done, s.requestHalt k.val)
  else if bitAt data 2 then (.done, if halted then s.stepCore k else s)
  else if bitAt data 1 then (.done, if halted then s.resumeCore k.val else s)
  else (.done, s)

/-- DBG_HALT (R318). -/
def execDbgHalt (path : Path) (k : Core) (data : U32) (s : State) : Out :=
  if bitAt data.toNat 0 then s.writeRow path (Addr.DBG_CTRL k.val) (writeDbgCtrl k data.toNat) else .next s

/-- DBG_RESUME (R312, R318). -/
def execDbgResume (path : Path) (k : Core) (data : U32) (s : State) : Out :=
  if bitAt data.toNat 1 then s.writeRow path (Addr.DBG_CTRL k.val) (writeDbgCtrl k data.toNat) else .next s

/-- DBG_STEP (R318). -/
def execDbgStep (path : Path) (k : Core) (data : U32) (s : State) : Out :=
  if bitAt data.toNat 2 then s.writeRow path (Addr.DBG_CTRL k.val) (writeDbgCtrl k data.toNat) else .next s

/-- DBG_FORCE (R318). -/
def execDbgForce (path : Path) (k : Core) (data : U32) (s : State) : Out :=
  if bitAt data.toNat 3 then s.writeRow path (Addr.DBG_CTRL k.val) (writeDbgCtrl k data.toNat) else .next s

/-- The value of a debug register number, none where there is no such register (R320). `consume` asks for a read's
side effect (R321). -/
def State.dbgRead (s : State) (p : Path) (k n : Nat) (consume : Bool) : Option (U32 × State) :=
  let c := s.core k
  if n < 16 then some (c.reg n, s)
  else if n = 0x10 then some (c.a0.setWidth 32, s)
  else if n = 0x11 then some ((c.a0 >>> 32).setWidth 32, s)
  else if n = 0x12 then some (c.a1.setWidth 32, s)
  else if n = 0x13 then some ((c.a1 >>> 32).setWidth 32, s)
  else if n = 0x14 then some (c.pc, s)
  else if 0x400 ≤ n ∧ (csrRW (n - 0x400) || csrRO (n - 0x400)) then
    let m := n - 0x400
    -- R514: TIMEH is latched per path for the debug port
    let a := Addr.DBG_DATA k + 1
    if m = 0x1A ∧ consume then
      some (s.csrRead k m, s.setLatch p a (BitVec.ofNat 32 (stamp s.now / 2 ^ 32)))
    else if m = 0x1B then some (s.latchOf p a, s)
    else some (s.csrRead k m, s)
  else none

/-- The core with a debug register written, none where it cannot be (R320). (log 77: DEDUCED) -/
def CoreSt.dbgWrite (c : CoreSt) (n : Nat) (v : U32) : Option CoreSt :=
  let low := fun (x : BitVec 40) => BitVec.ofNat 40 (x.toNat / 2 ^ 32 * 2 ^ 32 + v.toNat)
  let high := fun (x : BitVec 40) => BitVec.ofNat 40 (x.toNat % 2 ^ 32 + v.toNat % 256 * 2 ^ 32)
  if n < 16 then some (c.setReg n v)
  else if n = 0x10 then some { c with a0 := low c.a0 }
  else if n = 0x11 then some { c with a0 := high c.a0 }
  else if n = 0x12 then some { c with a1 := low c.a1 }
  else if n = 0x13 then some { c with a1 := high c.a1 }
  else if n = 0x14 then some { c with pc := v, slot := none }
  else if 0x400 ≤ n ∧ csrRW (n - 0x400) then
    let m := n - 0x400
    if m = csrMODE ∧ bits v.toNat 2 2 = 3 then none else some (c.setCsr m (csrMask m (c.csrAt m) v))
  else none

/-- The access that DBG_ACC.GO performs (R320): ACC_STATUS 0 done, 1 not halted, 2 no such register, 3 read-only. -/
def State.dbgAccess (s : State) (p : Path) (k : Nat) : State :=
  let n := s.rd (DBG_ACC.REG k)
  if s.coreState k ≠ rcHalted then s.wr (DBG_STAT.ACC_STATUS k) 1
  else if s.on (DBG_ACC.WRITE k) then
    match (s.core k).dbgWrite n (s.reg (Addr.DBG_DATA k)) with
    | some c =>
      let s := if n = 0x14 then s.wr (DBG_STAT.DS k) 0 else s
      (s.putCore k c).wr (DBG_STAT.ACC_STATUS k) 0
    | none => s.wr (DBG_STAT.ACC_STATUS k) (if 0x400 ≤ n ∧ csrRO (n - 0x400) then 3 else 2)
  else
    match s.dbgRead p k n (s.on (DBG_ACC.CONSUME k) || p != .soffit) with
    | some (v, s) => (s.setReg (Addr.DBG_DATA k) v).wr (DBG_STAT.ACC_STATUS k) 0
    | none => s.wr (DBG_STAT.ACC_STATUS k) 2

/-- A write of DBG_ACC (R320, R324). -/
def writeDbgAcc (p : Path) (k data : Nat) (s : State) : Status × State :=
  let (st, s) := s.codeWrite (Addr.DBG_ACC k) data
  (st, if bitAt data 16 then s.dbgAccess p k else s)

/-- DBG_ACC_GO (R320). -/
def execDbgAccGo (path : Path) (k : Core) (data : U32) (s : State) : Out :=
  if bitAt data.toNat 16 then s.writeRow path (Addr.DBG_ACC k.val) (writeDbgAcc path k.val data.toNat) else .next s

/-- The word at RC_MEMA as a byte address of the core's map (R320, R324). -/
def State.memA (s : State) (k : Nat) : Nat := s.rd (RC_MEMA.A k) / 4 * 4

/-- A read of RC_MEMD (R280, R320): an access corrects a single-bit error; of an uncorrectable word the value is
open (entry 5). (log 59, 133: DEDUCED) -/
def readMemD (k : Nat) (s : State) : Nat × State :=
  let a := s.memA k
  if (s.core k).memBad a 4 then
    let (v, s) := s.draw
    (v % 2 ^ 32, s)
  else
    let s := s.correctMem k a 4
    let c := s.core k
    (if a < 0x10000 then memLoad c.imem a 4 else memLoad c.dmem (a - 0x10000) 4, s)

/-- A write of RC_MEMD (R320): only while the core is HALTED, STOPPED or POWERED_DOWN. -/
def writeMemD (k data : Nat) (s : State) : Status × State :=
  let st := s.coreState k
  if !(st == rcHalted || st == rcStopped || st == rcPoweredDown) then (.ignored, s)
  else
    let a := s.memA k
    let c := s.core k
    if a < 0x10000 then
      (.done, s.setCore k { c with imem := memStore c.imem a 4 data, memErr := clearErr c.memErr a 4 })
    else (.done, s.setCore k (c.storeData a 4 data))

/-- RC_MEMD_ACCESS (R320). -/
def execRcMemdAccess (path : Path) (k : Core) (write : Bool) (data : U32) (s : State) : Out :=
  if write then s.writeRow path (Addr.RC_MEMD k.val) (writeMemD k.val data.toNat)
  else if !s.pins.answered then .next s else .next (readMemD k.val s).2

/-! ## The enable bit (R313) -/

/-- A write of RC_CTRL (R313, R324): EN through its check; PROG and PWRDN are ignored in RUN. -/
def writeRcCtrl (k data : Nat) (s : State) : Status × State :=
  s.reqEnable 4 k (RC_CTRL.EN k) data fun s => s.codeWrite (Addr.RC_CTRL k) data

/-- RC_EN_WRITE (R313). -/
def execRcEnWrite (path : Path) (k : Core) (data : U32) (s : State) : Out :=
  s.writeRow path (Addr.RC_CTRL k.val) (writeRcCtrl k.val data.toNat)

end Sys2Proof.Machine
end

