-- ==== Sys2Proof/Machine/Ledger.lean ====
section
/-! DEFINITION. The ledger: lines, records, commits, baselines, the epoch guard and the read at start-up
(R483 to R493). -/

namespace Sys2Proof.Machine

/-! ## Lines and records (R483 to R485) -/

/-- First line of the circular log (R483). -/
def logFirst : Nat := 20

/-- Lines of the circular log (R483). -/
def logLines : Nat := 16364

/-- Line `i` lines past line `h` of the circular log (R483). -/
def logLine (h i : Nat) : Nat := logFirst + (h - logFirst + i) % logLines

/-- A line of the ledger; one never written reads as zero. (log 4, 45: PRESUMED) -/
def State.ledgerLine (s : State) (i : Nat) : Word := Tab.get 0 s.mg.ledger i

/-- A line of the ledger is written. -/
def State.setLedgerLine (s : State) (i : Nat) (w : Word) : State :=
  { s with mg := { s.mg with ledger := Tab.set 0 s.mg.ledger i w } }

/-- CRC-32C over whole lines (R340, R484). -/
def crcLines (ws : List Word) : Nat := crc32c (ws.flatMap wordBytes)

/-- A line with its bits [127:96] replaced. -/
def withCrc (w : Word) (c : Nat) : Word := BitVec.ofNat 128 (setBits w.toNat 96 32 c)

/-- A record's header without its CRC (R484). -/
def ledgerHead (r : LRec) (lseq powered : Nat) : Word :=
  mkWord [(0, 16, 0x4C47), (16, 4, r.kind), (20, 1, b2n r.clean), (21, 1, r.part), (22, 6, r.body.length),
    (32, 32, lseq), (64, 32, powered)]

/-- A record's lines (R484). -/
def LRec.lines (r : LRec) (lseq powered : Nat) : List Word :=
  let h := ledgerHead r lseq powered
  withCrc h (crcLines (h :: r.body)) :: r.body

/-- The counters of R486 that generic lines carry. -/
def genericIds : List Nat :=
  [0x0000, 0x0001] ++ (List.range 9).map (0x0010 + ·) ++ [0x0020, 0x0021] ++
  (List.range 8).map (0x0100 + ·) ++ (List.range 8).map (0x0120 + ·) ++ [0x0500, 0x0501] ++
  (List.range 12).map (0x0600 + ·) ++ (List.range 10).map (0x0610 + ·) ++
  [0x0700, 0x0701, 0x0702, 0x0708, 0x0709, 0x0710, 0x0711, 0x0712, 0x0713, 0x0720, 0x0721, 0x0730, 0x0731,
   0x0740] ++ (List.range 8).map (0x0800 + ·)

/-- Whether an id is one of the packed counters (R485). -/
def packedId (i : Nat) : Bool := decide (0x200 ≤ i) && decide (i ≤ 0x427)

/-- First ids of a baseline's packed lines: ports, lanes, links (R486, R489). -/
def baseFirsts : List Nat :=
  (List.range 74).map (fun k => 0x200 + 7 * k) ++ (List.range 5).map (fun k => 0x400 + 7 * k) ++
  (List.range 2).map (fun k => 0x420 + 7 * k)

/-- A generic line's entry (R485). -/
def State.lgEntry (s : State) : Option Nat → Nat
  | some i => i + s.tallyOf i * 2 ^ 16
  | none => 0xFFFF

/-- Generic lines of some counters, two to a line (R485). -/
def State.genericLines (s : State) : List Nat → List Word
  | [] => []
  | [a] => [mkWord [(0, 64, s.lgEntry (some a)), (64, 64, s.lgEntry none)]]
  | a :: b :: r => mkWord [(0, 64, s.lgEntry (some a)), (64, 64, s.lgEntry (some b))] :: s.genericLines r

/-- A packed line from its first id (R485). -/
def State.packedLine (s : State) (f : Nat) : Word :=
  mkWord ([(0, 15, f), (15, 1, 1)] ++ (List.range 7).map fun j =>
    (16 + 16 * j, 16, if packedId (f + j) then min 0xFFFF (s.tallyOf (f + j)) else 0))

/-- First ids of packed lines that cover some rising ids, `top` being past the last line's end. -/
def coverPacked : Nat → List Nat → List Nat
  | _, [] => []
  | top, i :: r => if i < top then coverPacked top r else i :: coverPacked (i + 7) r

/-- Counters whose value differs from their last written one (R489). -/
def State.changedIds (s : State) : List Nat :=
  let ids := (s.mg.tally.map (·.1)) ++ (s.mg.written.map (·.1))
  let ch := fun (i : Nat) => s.tallyOf i != Tab.get 0 s.mg.written i
  (genericIds.filter fun i => ids.contains i && ch i) ++
    ((List.range 0x228).map (0x200 + ·)).filter fun i => ids.contains i && ch i

/-- Body lines of a DELTA (R485, R489). -/
def State.deltaBody (s : State) : List Word :=
  let ch := s.changedIds
  s.genericLines (ch.filter fun i => !packedId i) ++
    (coverPacked 0 (ch.filter packedId)).map s.packedLine

/-- Body lines of a baseline: 119 (R489). -/
def State.baseBody (s : State) : List Word := s.genericLines genericIds ++ baseFirsts.map s.packedLine

/-- A snapshot is latched (R487). (log 118: DEDUCED) -/
def State.snapshot (s : State) : State :=
  let s := s.countSeconds
  { s with mg := { s.mg with written := s.mg.tally } }

/-- The records of a DELTA or a baseline, as latched now: 63 body lines at most in each (R484, R489). -/
def LRec.parts (kind : Nat) (clean : Bool) (body : List Word) : List LRec :=
  if kind = 2 then [⟨2, false, 0, body.take 63⟩, ⟨2, false, 1, body.drop 63⟩]
  else if body.length ≤ 63 then [⟨1, clean, 0, body⟩]
  else [⟨1, clean, 0, body.take 63⟩, ⟨1, clean, 0, body.drop 63⟩]

/-! ## Writing (R484, R489 to R491) -/

/-- Whether a record of `n` lines at the head would begin a new lap (R491). -/
def State.beginsLap (s : State) (n : Nat) : Bool :=
  s.rd LG_HEAD.LINE ≤ logFirst || decide (16384 < s.rd LG_HEAD.LINE + n)

/-- A record's lines are written at the head, complete (R484). -/
def State.putLedger (s : State) (r : LRec) : State :=
  let h := max logFirst (s.rd LG_HEAD.LINE)
  let n := r.body.length + 1
  let s : State := if s.beginsLap n then
      let s := s.tally 0x0740
      { s with mg := { s.mg with lapAt := s.now } }
    else s
  let ls := r.lines (s.rd LG_LSEQ.N) (s.tallyOf 0 % 2 ^ 32)
  let s := s.each ((List.range ls.length).zip ls) fun s x => s.setLedgerLine (logLine h x.1) x.2
  let s := (s.wr LG_HEAD.LINE (logLine h n)).wr LG_LSEQ.N (s.rd LG_LSEQ.N + 1)
  let s := s.count LG_COMMITS.N
  let since := if r.kind = 2 ∧ r.part = 1 then 0 else s.mg.sinceBase + n
  { s with mg := { s.mg with sinceBase := since } }

/-- The records that the head of the list of waiting records stands for, with their contents latched: a DELTA or a
baseline asked for takes its snapshot as it begins (R487, R489). -/
def State.latchRec (s : State) (r : LRec) : List LRec × State :=
  if r.kind = 3 ∨ r.body ≠ [] then ([r], s)
  else
    let body := if r.kind = 2 then s.countSeconds.baseBody else s.countSeconds.deltaBody
    (LRec.parts r.kind r.clean body, s.snapshot)

/-- The next record that waits begins to be written, unless a power-fail warning holds the ledger or it would begin a
lap too soon (R491, R499). (log 118: DEDUCED) -/
def State.ledgerStart (s : State) : State :=
  if s.mg.writing.isSome || s.on LG_STAT.PFAIL_HOLD then s
  else match s.mg.waiting with
    | [] => s
    | r :: rest =>
      let (rs, t) := s.latchRec r
      match rs with
      | [] => s
      | x :: more =>
        if s.beginsLap (x.body.length + 1) && s.tallyOf 0x0740 != 0 &&
            decide (s.now < s.mg.lapAt + 4800 * usTf 1000000) then s.flag LG_STAT.STRETCHED
        else
          let t : State := { t with mg := { t.mg with writing := some x, waiting := more ++ rest } }
          (t.wr LG_STAT.STRETCHED 0).flag LG_STAT.WRITING

/-- LEDGER_COMPACT ends once its baseline's second part is written (R489, R495, R496). (log 122: DEDUCED) -/
def State.compactDone (s : State) (r : LRec) : State :=
  if r.kind = 2 ∧ r.part = 1 then
    match s.actOf 8 with
    | some a => s.endAct a 0 Addr.LG_HEAD 0 [] 0
    | none => s
  else s

/-- The record in progress is complete (R484, R490). -/
def State.ledgerFinish (s : State) : State :=
  match s.mg.writing with
  | none => s
  | some r =>
    let s := s.putLedger r
    let s : State := { s with mg := { s.mg with writing := none } }
    (s.wr LG_STAT.WRITING 0).compactDone r

/-- LEDGER_RECORD_WRITTEN (R484, R490): the record in progress completes; with none, the next one that waits begins and
completes. (log 118: DEDUCED) -/
def execLedgerRecordWritten (s : State) : Out :=
  let s := if s.mg.writing.isSome then s else s.ledgerStart
  if s.mg.writing.isSome then .next ((s.advance (s.now + usTf 10)).ledgerFinish.ledgerStart) else .next s

/-- A DELTA is asked for, unless one waits (R489). (log 118: DEDUCED) -/
def State.askDelta (s : State) : State :=
  if s.mg.waiting.any fun r => r.kind == 1 then s
  else { s with mg := { s.mg with waiting := s.mg.waiting ++ [⟨1, false, 0, []⟩] } }

/-- A baseline is asked for, unless one waits (R489). (log 118: DEDUCED) -/
def State.askBase (s : State) : State :=
  if s.mg.waiting.any fun r => r.kind == 2 then s
  else { s with mg := { s.mg with waiting := s.mg.waiting ++ [⟨2, false, 0, []⟩] } }

/-- The interval of periodic commits in s, 10 when the register holds none (R489). -/
def State.commitEvery (s : State) : Nat :=
  if s.rd LG_POLICY.INTERVAL = 0 then 10 else s.rd LG_POLICY.INTERVAL

/-- LEDGER_COMMIT (R488, R489): the interval ends, its EVENT counts start afresh, and a DELTA is committed; a baseline
follows once the head has advanced 2,046 lines since the last. (log 118: DEDUCED) -/
def execLedgerCommit (s : State) : Out :=
  if !s.running then .next s
  else
    let s := s.advance (s.mg.commitAt + s.commitEvery * usTf 1000000)
    let s : State := { s with mg := { s.mg with commitAt := s.now, events := [] } }
    let s := s.askDelta
    let s := if 2046 ≤ s.mg.sinceBase then s.askBase else s
    .next s.ledgerStart

/-- What LEDGER_COMPACT does (R464, R489, R495). -/
def dirLedgerCompact (d : Dir) (s : State) : State :=
  s.dirCheck d (d.data == 0) fun s =>
    s.dirActivity d 8 [(10, 0, 0)] deviceWide fun _ s => s.askBase.ledgerStart

/-- LEDGER_COMPACT (R464, R489). -/
def execLedgerCompact (r : DirReq) (s : State) : Out := .next (s.directive 0x0F r noArgs dirLedgerCompact)

/-- Records written one after the other at once, by the NVM island without any core (R499). -/
def State.putAll (s : State) (rs : List LRec) : State := s.each rs State.putLedger

/-- Every changed tally is committed at once, after the record in progress (R48, R490, R499). -/
def State.commitNow (s : State) (clean : Bool) : State :=
  let s := s.ledgerFinish
  let (rs, s) := s.latchRec ⟨1, clean, 0, []⟩
  s.putAll rs

/-! ## The epoch guard (R493) -/

/-- A guard slot's line (R493). -/
def guardWord (epoch seq powered : Nat) : Word :=
  let w := mkWord [(0, 16, epoch), (16, 32, seq), (48, 32, powered)]
  withCrc w (crcLines [w])

/-- Whether a guard slot's CRC matches (R493). -/
def guardValid (w : Word) : Bool := wfield w 96 32 == crcLines [withCrc w 0]

/-- The valid slot with the highest guard sequence: slot, sequence, epoch (R493). -/
def State.guardIn (s : State) : Option (Nat × Nat × Nat) :=
  (List.range 4).foldl (fun (best : Option (Nat × Nat × Nat)) i =>
    let w := s.ledgerLine (16 + i)
    if !guardValid w then best
    else
      let x := (i, wfield w 16 32, wfield w 0 16)
      match best with
      | some b => if b.2.1 < x.2.1 then some x else best
      | none => some x) none

/-- The next guard slot in turn is written (R493). -/
def State.putGuard (s : State) (epoch : Nat) : State :=
  let slot := s.mg.guardSlot % 4
  let seq := (s.mg.guardSeq + 1) % 2 ^ 32
  let s := s.setLedgerLine (16 + slot) (guardWord epoch seq (s.tallyOf 0 % 2 ^ 32))
  { s with mg := { s.mg with guardSlot := (slot + 1) % 4, guardSeq := seq } }

/-- A new reserve is written to counter 0x0720 and to the guard (R493). -/
def State.reserve (s : State) (epoch : Nat) : State :=
  let e := min 0xFFFF epoch
  (s.setTally 0x0720 e).putGuard e

/-- An epoch starts: it is counted, and one that equals the reserved value takes a new reserve of 16 first (R486,
R493). -/
def State.countEpoch (s : State) (e : Nat) : State :=
  let s := if e = s.tallyOf 0x0720 ∧ e < 0xFFFF then s.reserve (e + 16) else s
  s.tally 0x0721

/-! ## The read at start-up (R492) -/

/-- A valid record found in the log. -/
structure Found where
  lseq : Nat
  line : Nat
  kind : Nat
  clean : Bool
  part : Nat
  body : List Word
deriving DecidableEq, Repr

/-- The valid record whose header is the line `i`, if there is one (R484). -/
def State.recordAt (s : State) (i : Nat) (h : Word) : Option Found :=
  let n := wfield h 22 6
  let body := (List.range n).map fun k => s.ledgerLine (logLine i (k + 1))
  let kind := wfield h 16 4
  if logFirst ≤ i ∧ wfield h 0 16 = 0x4C47 ∧ 1 ≤ kind ∧ kind ≤ 3 ∧
      wfield h 96 32 = crcLines (withCrc h 0 :: body) then
    some ⟨wfield h 32 32, i, kind, bitAt h.toNat 20, wfield h 21 1, body⟩
  else none

/-- Every valid record of the log. -/
def State.foundRecords (s : State) : List Found := s.mg.ledger.filterMap fun x => s.recordAt x.1 x.2

/-- Part 0 of the newest complete baseline: both parts valid, with consecutive sequences (R489, R492). -/
def newestBase (rs : List Found) : Option Found :=
  rs.foldl (fun (best : Option Found) r =>
    if r.kind = 2 ∧ r.part = 0 ∧ rs.any (fun x => x.kind == 2 && x.part == 1 && x.lseq == r.lseq + 1) then
      match best with
      | some b => if b.lseq < r.lseq then some r else best
      | none => some r
    else best) none

/-- The records from sequence `n` on with consecutive sequences, `fuel` at most (R492). -/
def chainFrom (rs : List Found) : Nat → Nat → List Found
  | 0, _ => []
  | fuel + 1, n =>
    match rs.find? fun r => r.lseq == n with
    | some r => r :: chainFrom rs fuel (n + 1)
    | none => []

/-- A body line's entries: id and value (R485). -/
def lineEntries (w : Word) : List (Nat × Nat) :=
  if bitAt w.toNat 15 ∧ wfield w 0 16 ≠ 0xFFFF then
    ((List.range 7).map fun j => (wfield w 0 15 + j, wfield w (16 + 16 * j) 16)).filter fun e => packedId e.1
  else ([(wfield w 0 16, wfield w 16 48), (wfield w 64 16, wfield w 80 48)]).filter fun e => e.1 != 0xFFFF

/-- A record's counters are applied (R492). (log 45: PRESUMED) -/
def State.applyFound (s : State) (r : Found) : State :=
  if r.kind = 3 then s
  else s.each (r.body.flatMap lineEntries) fun s e => s.setTally e.1 e.2

/-- The spares in service are applied: each takes its bank's number, and the banks they replace are powered down
(R233, R492). -/
def State.applySpares (s : State) : State :=
  s.each (List.range 8) fun s i =>
    match s.tallyOf (0x0800 + i) with
    | 0 => s
    | b + 1 =>
      let s : State := { s with th := { s.th with bankOff := s.serving b :: s.th.bankOff } }
      (s.wr (TH_REMAP.BANK i) b).wr (TH_REMAP.USED i) 1

/-- The event code of an EVENT record (R488). (log 119: DEDUCED) -/
def Found.event (r : Found) : Nat := if r.kind = 3 then wfield (r.body.headD 0) 0 16 else 0

/-- Counters, spares, head and sequence from the newest complete baseline and the records after it; the factory
baseline where there is none (R492, entry 45). -/
def State.restoreBooks (s : State) : Option Found × State :=
  let rs := s.foundRecords
  match newestBase rs with
  | some b =>
    let chain := chainFrom rs rs.length b.lseq
    let s := s.each chain State.applyFound
    let l := chain.getLast?.getD b
    let s := (s.wr LG_HEAD.LINE (logLine l.line (l.body.length + 1))).wr LG_LSEQ.N (l.lseq + 1)
    let since := (chain.drop 2).foldl (fun n (r : Found) => n + r.body.length + 1) 0
    (some l, { s with mg := { s.mg with written := s.mg.tally, sinceBase := since } })
  | none =>
    let top := rs.foldl (fun n (r : Found) => max n (r.lseq + 1)) 0
    let s := ((s.flag LG_STAT.LOST).wr LG_HEAD.LINE logFirst).wr LG_LSEQ.N top
    let newest := rs.foldl (fun (best : Option Found) r =>
      match best with
      | some b => if b.lseq < r.lseq then some r else best
      | none => some r) none
    (newest, { s with mg := { s.mg with sinceBase := 2046 } })

/-- What the last record says of the end of the previous run (R492). (log 119: DEDUCED) -/
def State.judgeEnd (s : State) (l : Option Found) : State :=
  let clean := match l with
    | some r => r.kind == 1 && r.clean
    | none => false
  let trip := match l with
    | some r => r.event == 0x09
    | none => false
  let s := s.tally 0x0001
  let s := if clean then s
    else
      let n := match l with
        | some r => r.lseq
        | none => 0
      ((s.tally 0x0713).flag RST_CAUSE.UNCLEAN).ledgerEvent 0x0A [n]
  if trip then (s.tally 0x0711).wr RST_CAUSE.KIND 2 else s

/-- The first epoch is taken from the reserve and a new reserve is written (R492, R493). -/
def State.takeReserve (s : State) : State :=
  let g := s.guardIn
  let first := match g with
    | some x => min 0xFFFF (max (s.tallyOf 0x0720) x.2.2 + 1)
    | none => if s.on LG_STAT.LOST then 0x8000 else min 0xFFFF (s.tallyOf 0x0720 + 1)
  let s := if g.isNone && s.on LG_STAT.LOST then s.flag LG_STAT.EPOCH_UNSURE else s
  let (slot, seq) := match g with
    | some x => ((x.1 + 1) % 4, x.2.1)
    | none => (0, 0)
  let prev := if s.on LG_STAT.EPOCH_UNSURE then 0 else match g with
    | some x => max (s.tallyOf 0x0720) x.2.2
    | none => s.tallyOf 0x0720
  let s : State := { s with mg := { s.mg with
    firstEpoch := first, prevEpoch := prev, guardSlot := slot, guardSeq := seq } }
  s.reserve (first + 15)

/-- The ledger is read (R492): counters, spares, the end of the previous run and the first epoch.
(log 11: DEDUCED; 45: PRESUMED) -/
def State.readLedger (s : State) : State :=
  let s : State := { s with mg := { s.mg with
    tally := [], written := [], events := [], waiting := [], writing := none, lapAt := 0, commitAt := 0,
    binnedTo := 0, sinceBase := 0 } }
  let (l, s) := s.restoreBooks
  let s := s.applySpares.judgeEnd l
  let s := s.takeReserve.flag LG_STAT.VALID
  s.wr MG_DUMP_STAT.NO (s.tallyOf 0x0708)

end Sys2Proof.Machine
end

