-- ==== Sys2Proof/Machine/Relay.lean ====
section
/-! DEFINITION. The image relay, the refresh of a core's program, and link retrains (R316, R466 to R469, R548). -/

namespace Sys2Proof.Machine

/-! ## The copies (R443, R466) -/

/-- The copy in force, true for B (R443). -/
def State.activeCopy (s : State) : Bool := s.on BOOT_STAT.ACTIVE

/-- The copy that a relay rewrites: the inactive one, or copy B in RESCUE (R449, R466). -/
def State.relayCopy (s : State) : Bool := if s.rescue then true else !s.activeCopy

/-- The `SEQ` that a relay's must exceed: the active copy's, or in RESCUE that of every valid header (R449, R466). -/
def State.seqInForce (s : State) : Nat :=
  if s.rescue then max (s.rd IMG_A.SEQ) (s.rd IMG_B.SEQ)
  else if s.activeCopy then s.rd IMG_B.SEQ else s.rd IMG_A.SEQ

/-- `SEQ` of a copy as its register shows it (R470). -/
def State.setSeq (s : State) (b : Bool) (n : Nat) : State := s.wr (if b then IMG_B.SEQ else IMG_A.SEQ) n

/-- The bytes of one copy become `m`. -/
def State.setImgMem (s : State) (b : Bool) (m : List Host.Cell) : State :=
  { s with boot := if b then { s.boot with imgB := m } else { s.boot with imgA := m } }

/-- A sector of 4 KiB is erased (R428). (log 4: PRESUMED; 111: DESIGN CHOICE) -/
def State.eraseSector (s : State) (b : Bool) (n : Nat) : State :=
  s.setImgMem b ((s.imgMem b).filter fun x => x.1 / 4096 != n)

/-- Bytes are programmed from byte `a` on (R428). (log 111: DESIGN CHOICE) -/
def State.programBytes (s : State) (b : Bool) (a : Nat) (bs : List Nat) : State :=
  s.setImgMem b (bs.zipIdx.foldl (fun (m : List Host.Cell) x => Tab.set 0xFF m (a + x.2) (BitVec.ofNat 8 x.1)) (s.imgMem b))

/-! ## Relay (R466 to R469) -/

/-- The open relay changes; RELAY_STAT shows it (R470). -/
def State.setRelay (s : State) (r : Option RelaySt) : State :=
  let s : State := { s with boot := { s.boot with relay := r } }
  match r with
  | none => (s.wr RELAY_STAT.OPEN 0).wr RELAY_STAT.BUSY 0
  | some x => ((s.wr RELAY_STAT.OPEN 1).wr RELAY_STAT.BUSY (b2n x.page.isSome)).wr RELAY_STAT.PAGES x.pages

/-- The relay ends, its activity with it; a directive still waiting for the memory is answered (R469, R478, R496).
(log 112: DEDUCED) -/
def State.endRelay (s : State) (result retry : Nat) : State :=
  match s.boot.relay with
  | none => s
  | some r =>
    let s := s.setRelay none
    let s := match r.answer with
      | some (dst, tag) => s.respond dst tag .busy 0 0 retry
      | none => s
    match s.act r.id with
    | some a => s.endAct a 0 Addr.RELAY_STAT RELAY_STAT.VERIFIED.lo [b2n r.copyB, r.seq] result
    | none => s

/-- A relay directive is answered BUSY while the memory works, or while a power-fail warning holds it back (R467,
R499). -/
def State.relayBusy (s : State) : Bool :=
  s.on LG_STAT.PFAIL_HOLD || match s.boot.relay with
    | some r => r.page.isSome
    | none => false

/-- What RELAY_OPEN does (R466): `SEQ`, `LENGTH`, the memory's registration, and the erase of the first sector.
(log 110: DEDUCED) -/
def dirRelayOpen (d : Dir) (s : State) : State :=
  let len := wfield (d.arg 0) 0 32
  s.dirCheck d (wfield (d.arg 0) 32 96 == 0) fun s =>
    if s.on LG_STAT.PFAIL_HOLD then s.respondBusy d.dst d.tag
    else if d.data ≤ s.seqInForce then s.dirRefused d 0x0D d.code 0xE5 (s.seqInForce % 2 ^ 16)
    else if len % 16 ≠ 0 ∨ 0x800000 < len then s.dirBad d
    else
      let b := s.relayCopy
      match s.register 3 [(9, b2n b, b2n b)] deviceWide with
      | (.refused reason detail, s) => s.dirRefused d 0x0D d.code reason detail
      | (.id n, s) =>
        let s := ((s.eraseSector b 0).setSeq b 0).wr RELAY_STAT.VERIFIED 0
        let s := s.wr RELAY_STAT.FAILED 0
        let s := s.setRelay (some { copyB := b, seq := d.data, length := len, id := n, lastAt := s.now, page := some (0, []) })
        s.dirDone d n

/-- RELAY_OPEN (R466). -/
def execRelayOpen (r : DirReq) (s : State) : Out := .next (s.directive 0x15 r (· == 1) dirRelayOpen)

/-- RELAY_ERASE_DONE (R466): the first sector is erased, and pages are taken. -/
def execRelayEraseDone (s : State) : Out :=
  match s.boot.relay with
  | some r =>
    if r.page = some (0, []) then .next (s.setRelay (some { r with page := none })) else .next s
  | none => .next s

/-- What RELAY_WRITE does (R467): page 0 is held; another page is programmed, its sector erased before the first page of
it. (log 110: DEDUCED) -/
def dirRelayWrite (d : Dir) (s : State) : State :=
  let n := d.data
  let bytes := d.args.flatMap wordBytes
  if s.relayBusy then s.respondBusy d.dst d.tag
  else match s.boot.relay with
    | none => s.dirRefused d 0x0D d.code 0xE3 (n % 2 ^ 16)
    | some r =>
      if n < r.next ∨ r.length ≤ 256 * n ∨ r.length < 256 * n + bytes.length then
        (s.setRelay (some { r with lastAt := s.now })).dirRefused d 0x0D d.code 0xE3 (n % 2 ^ 16)
      else if n = 0 then
        (s.setRelay (some { r with page0 := bytes, next := 1, lastAt := s.now, pages := r.pages + 1 })).dirDone d 0
      else
        let s := if n / 16 ≠ 0 ∧ (r.next = 0 ∨ (r.next - 1) / 16 ≠ n / 16) then s.eraseSector r.copyB (n / 16) else s
        s.setRelay (some { r with page := some (n, bytes), answer := some (d.dst, d.tag), lastAt := s.now })

/-- RELAY_WRITE (R467). -/
def execRelayWrite (r : DirReq) (s : State) : Out :=
  .next (s.directive 0x16 r (fun n => decide (1 ≤ n) && decide (n ≤ 16)) dirRelayWrite)

/-- Bytes that a failed program left: free values (entry 5). (log 111: DESIGN CHOICE) -/
def State.freeBytes (s : State) : Nat → List Nat × State
  | 0 => ([], s)
  | n + 1 =>
    let (v, s) := s.draw
    let (bs, s) := State.freeBytes s n
    (v % 256 :: bs, s)

/-- RELAY_PAGE_DONE (R467): the page is programmed and read back. (log 111: DESIGN CHOICE) -/
def execRelayPageDone (readBackOk : Bool) (s : State) : Out :=
  match s.boot.relay with
  | none => .next s
  | some r =>
    match r.page, r.answer with
    | some (n, bytes), some (dst, tag) =>
      if r.closing then .next s
      else if readBackOk then
        let s := s.programBytes r.copyB (256 * n) bytes
        let s := s.setRelay (some { r with page := none, answer := none, next := n + 1, pages := r.pages + 1 })
        .next (s.respond dst tag .done 0 0)
      else
        let (junk, s) := s.freeBytes bytes.length
        let s := s.programBytes r.copyB (256 * n) junk
        let s := s.setRelay (some { r with page := none, answer := none })
        .next (s.dirRefused ⟨0x16, dst, tag, n, []⟩ 0x0D 0x16 0xE3 (n % 2 ^ 16))
    | _, _ => .next s

/-- The copy as it would stand with the held page 0 in place, checked with the `SEQ` and `LENGTH` given at open; the
outcome as R444 codes it (R442, R468). (log 110: DEDUCED) -/
def State.closeCheck (s : State) (r : RelaySt) : Except ImgErr Unit :=
  let t := s.programBytes r.copyB 0 r.page0
  match t.copyHead r.copyB with
  | .error e => .error e
  | .ok h =>
    if h.seq ≠ r.seq then .error (2, 0)
    else if h.length ≠ r.length then .error (4, 0)
    else match readImage h (imgBytes (t.imgMem r.copyB) 0 h.length) with
      | .error e => .error e
      | .ok _ => .ok ()

/-- A close is refused (R468): the copy stays invalid and the relay ends. (log 110: DEDUCED) -/
def State.closeFailed (s : State) (d : Dir) (e : ImgErr) : State :=
  let s := (s.flag RELAY_STAT.FAILED).dirRefused d 0x0D d.code 0xE4 (e.1 % 256 + e.2 % 256 * 256)
  s.endRelay 2 0

/-- What RELAY_CLOSE does (R468): the copy is checked, and page 0 is programmed. (log 110: DEDUCED) -/
def dirRelayClose (d : Dir) (s : State) : State :=
  s.dirCheck d (d.data == 0) fun s =>
    if s.relayBusy then s.respondBusy d.dst d.tag
    else match s.boot.relay with
      | none => s.dirRefused d 0x0D d.code 0xE3 0
      | some r =>
        match s.closeCheck r with
        | .error e => s.closeFailed d e
        | .ok _ =>
          s.setRelay (some { r with
            page := some (0, r.page0), closing := true, answer := some (d.dst, d.tag), lastAt := s.now })

/-- RELAY_CLOSE (R468). -/
def execRelayClose (r : DirReq) (s : State) : Out := .next (s.directive 0x17 r noArgs dirRelayClose)

/-- Page 0 has been programmed: the copy is valid, or the close is refused (R468, R488); whether it passed.
(log 112: DEDUCED) -/
def State.relayVerified (s : State) (programmed : Bool) : Bool × State :=
  match s.boot.relay with
  | none => (false, s)
  | some r =>
    match r.closing, r.answer with
    | true, some (dst, tag) =>
      let s := s.setRelay (some { r with answer := none, pages := r.pages + 1 })
      if programmed then
        let s := (s.programBytes r.copyB 0 r.page0).setSeq r.copyB r.seq
        let s := (s.flag RELAY_STAT.VERIFIED).ledgerEvent 0x0F [b2n r.copyB, r.seq]
        let s := s.respond dst tag .done 0 0
        (true, s.endRelay 0 0)
      else (false, s.closeFailed ⟨0x17, dst, tag, 0, []⟩ (1, 0))
    | _, _ => (false, s)

/-- What RELAY_CANCEL does (R469). (log 112: DEDUCED) -/
def dirRelayCancel (d : Dir) (s : State) : State :=
  s.dirCheck d (d.data == 0) fun s =>
    match s.boot.relay with
    | none => s.dirRefused d 0x0D d.code 0xE3 0
    | some _ => (s.endRelay 1 1000).dirDone d 0

/-- RELAY_CANCEL (R469). -/
def execRelayCancel (r : DirReq) (s : State) : Out := .next (s.directive 0x18 r noArgs dirRelayCancel)

/-- RELAY_IDLE_TIMEOUT (R469): 10 s without a relay directive. (log 112: DEDUCED) -/
def execRelayIdleTimeout (s : State) : Out :=
  match s.boot.relay with
  | none => .next s
  | some r =>
    if r.page.isSome then .next s
    else .next ((s.advance (r.lastAt + 10 * usTf 1000000)).endRelay 1 1000)

/-! ## Core refresh (R316) -/

/-- A program of a copy: its bytes, or the reason of its refusal (R316, R323). -/
def State.progFrom (s : State) (inactive : Bool) (k p : Nat) : Except (Nat × Nat) (List Nat) :=
  let progs : Except (Nat × Nat) (List (Nat × List Nat)) := if !inactive then .ok s.boot.progs
    else match s.copyImage (!s.activeCopy) with
      | .ok im => .ok im.progs
      | .error _ => .error (0x84, p)
  match progs with
  | .error e => .error e
  | .ok ps =>
    match ps.find? fun x => x.1 == p with
    | none => .error (0x80, k)
    | some x => if 65536 < x.2.length then .error (0x81, p) else .ok x.2

/-- A refresh of core `k` with program `p` is asked for (R316, R495). (log 113: DEDUCED) -/
def State.startRefresh (s : State) (k p : Nat) (inactive : Bool) : Grant × State :=
  if !s.on (RC_CTRL.EN k) then (.refused 0x85 k, s)
  else if inactive && !s.on RELAY_STAT.VERIFIED then (.refused 0x83 k, s)
  else match s.progFrom inactive k p with
    | .error e => (.refused e.1 e.2, s)
    | .ok _ =>
      let b := s.activeCopy != inactive
      match s.register 4 [(4, k, k), (9, b2n b, b2n b)] (unitId 4 k) with
      | (.refused reason detail, s) => (.refused reason detail, s)
      | (.id n, s) => (.id n, s.setCore k { s.core k with refresh := some { prog := p, copyB := b, id := n } })

/-- What CORE_REFRESH does (R316, R464). -/
def dirCoreRefresh (d : Dir) (s : State) : State :=
  s.dirCheck d (bits d.data 11 21 == 0) fun s =>
    match s.startRefresh (bits d.data 0 6) (bits d.data 6 4) (bitAt d.data 10) with
    | (.refused 0xE1 detail, s) => s.dirRefused d 0x0D d.code 0xE1 detail
    | (.refused 0xE2 detail, s) => s.dirRefused d 0x0D d.code 0xE2 detail
    | (.refused reason detail, s) => s.dirRefused d 4 (bits d.data 0 6) reason detail
    | (.id n, s) => s.dirDone d n

/-- CORE_REFRESH (R316). -/
def execCoreRefresh (r : DirReq) (s : State) : Out := .next (s.directive 0x08 r noArgs dirCoreRefresh)

/-- A core's instruction memory takes a program, zero beyond it (R315, R316). -/
def State.loadProgram (s : State) (k : Nat) (bs : List Nat) : State :=
  let c := s.core k
  s.setCore k { c with imem := bytesMem bs, memErr := c.memErr.filter fun x => decide (0x4000 ≤ x.1) }

/-- The program that a core ran before is loaded again from the active copy (R316). (log 113: DEDUCED) -/
def State.loadOld (s : State) (k : Nat) : State :=
  s.loadProgram k (((s.boot.progs.find? fun x => x.1 == s.rd (RC_CTRL.PROG k)).map (·.2)).getD [])

/-- A refresh ends: the core restarts at the next course boundary (R312, R316). -/
def State.refreshEnd (s : State) (k : Nat) (f : Refresh) (result : Nat) : State :=
  let s := s.setCore k { s.core k with refresh := none, restartDue := true }
  match s.act f.id with
  | some a => s.endAct a (k / 32) (Addr.RC_EVT k) (RC_EVT.REFRESH_FAIL k).lo [f.prog] result
  | none => s

/-- CORE_PROGRAM_LOADED (R316): the second check; a third failure brings back the program before. (log 113: DEDUCED) -/
def execCoreProgramLoaded (k : Core) (ok : Bool) (s : State) : Out :=
  let k := k.val
  match (s.core k).refresh with
  | none => .next s
  | some f =>
    if s.coreState k ≠ rcLoading then .next s
    else if ok then
      match s.progFrom (f.copyB != s.activeCopy) k f.prog with
      | .ok bs => .next (((s.loadProgram k bs).wr (RC_CTRL.PROG k) f.prog).refreshEnd k f 0)
      | .error _ => .next ((s.loadOld k).refreshEnd k f 2)
    else if f.fails < 2 then
      .next (s.setCore k { s.core k with refresh := some { f with fails := f.fails + 1 } })
    else
      let s := (s.loadOld k).flag (RC_EVT.REFRESH_FAIL k)
      .next ((s.refuse 4 k 0x84 f.prog).refreshEnd k f 2)

/-- A refresh is given up (R498): a core that is loading takes its program back and restarts, any other goes on.
(log 113: DEDUCED) -/
def State.abortRefresh (s : State) (k : Nat) : State :=
  let c := s.core k
  if s.coreState k = rcLoading then (s.loadOld k).setCore k { (s.loadOld k).core k with refresh := none, restartDue := true }
  else
    let stays := s.on (RC_CTRL.EN k) && !s.retirePend 4 k
    let s := s.setCore k { c with refresh := none, leaving := c.leaving && !stays }
    if stays && s.coreState k == rcDraining then s.setCoreState k rcRunning else s

/-! ## Link retrains (R548) -/

/-- A unit that can retrain: its resource, half, and the register that shows its state. (log 114: DEDUCED) -/
def retrainUnit (kind i : Nat) : Option ((Nat × Nat × Nat) × Nat × Nat) :=
  match kind with
  | 1 => if i < 512 then some ((5, i, i), halfOf 512 i, Addr.EV_STAT i) else none
  | 6 => if i < 32 then some ((6, i, i), halfOf 32 i, Addr.RG_LANE_STAT i) else none
  | 8 => if i < 8 then some ((7, i, i), 0, Addr.HIP_STAT i) else none
  | _ => none

/-- Whether a retrain acts on the unit in its present state (R548). -/
def State.canRetrain (s : State) (kind i : Nat) : Bool :=
  match kind with
  | 1 => s.evState i != evDark
  | 6 => s.laneState i != rgDown && s.laneState i != rgParked
  | _ => s.hipState i != 0

/-- What a retrain does to a unit (R548). -/
def State.retrain (s : State) (kind i : Nat) : State :=
  match kind with
  | 1 => if s.evUp i then s.evLose i else s.setEvState i evClocking
  | 6 => s.resetLane i
  | _ => s.loseNeighbour i 1

/-- The state that a unit's register shows. -/
def State.retrainState (s : State) (kind i : Nat) : Nat :=
  match kind with
  | 1 => s.evState i
  | 6 => s.laneState i
  | _ => s.hipState i

/-- What LINK_RETRAIN does (R464, R548). (log 114: DEDUCED) -/
def dirLinkRetrain (d : Dir) (s : State) : State :=
  let kind := d.data / 2 ^ 24
  let i := d.data % 2 ^ 24
  s.dirCheck d (kind == 1 || kind == 6 || kind == 8) fun s =>
    match retrainUnit kind i with
    | none => s.dirRefused d 0x0D d.code 0xE0 (i % 2 ^ 16)
    | some (res, _, addr) =>
      if !s.canRetrain kind i then s.dirWrong d addr
      else s.dirActivity d 5 [res] (unitId kind i) fun _ s => s.retrain kind i

/-- LINK_RETRAIN (R548). -/
def execLinkRetrain (r : DirReq) (s : State) : Out := .next (s.directive 0x0D r noArgs dirLinkRetrain)

/-- A retrain's activity ends where it stands (R548). -/
def State.endRetrain (s : State) (a : Activity) (result : Nat) : State :=
  let kind := a.unit / 2 ^ 24
  let i := a.unit % 2 ^ 24
  match retrainUnit kind i with
  | some (_, h, addr) => s.endAct a h addr 0 [s.retrainState kind i] result
  | none => s.endAct a 0 0 0 [] result

/-- LINK_RETRAIN_TIMEOUT (R548): 100 ms have passed. (log 114: DEDUCED) -/
def execLinkRetrainTimeout (id : BitVec 16) (s : State) : Out :=
  match s.act id.toNat with
  | none => .next s
  | some a =>
    if a.code ≠ 5 then .next s
    else .next ((s.advance (a.startAt + usTf 100000)).endRetrain a 2)

/-! ## Aborts of activities (R498) -/

/-- A full Gauge calibration ends early (R407, R498). -/
def State.abortFullCal (s : State) (a : Activity) : State :=
  let h := a.unit % 2
  let s := s.setUnit h { s.unit h with fullCal := none }
  (s.wr (GA_STAT.MAINT h) 0).endAct a h (Addr.GA_EVT h) (GA_EVT.CAL_DONE h).lo [] 1

/-- A registered activity is aborted (R498); `retry` goes to a directive that waits on it (R478). -/
def State.abortAct (s : State) (a : Activity) (why : AbortWhy) (retry : Nat := 1000) : State :=
  match a.code with
  | 1 =>
    let s := s.abortBooks a why.code
    let s : State := { s with mg := { s.mg with dump := none } }
    ((s.wr MG_DUMP_STAT.BUSY 0).wr MG_DUMP_STAT.HELD 0).endAct a 0 Addr.MG_DUMP_STAT MG_DUMP_STAT.BUSY.lo [] 1
  | 2 => s.abortMigration why
  | 3 => (s.abortBooks a why.code).endRelay 1 retry
  | 4 =>
    let k := a.unit % 64
    ((s.abortBooks a why.code).abortRefresh k).endAct a (k / 32) (Addr.RC_EVT k) (RC_EVT.REFRESH_FAIL k).lo [] 1
  | 5 => (s.abortBooks a why.code).endRetrain a 1
  | 6 => s.abortRecal a why
  | 7 => (s.abortBooks a why.code).abortFullCal a
  | 8 =>
    let s := s.abortBooks a why.code
    let s : State := { s with mg := { s.mg with waiting := s.mg.waiting.filter fun r => r.kind != 2 } }
    s.endAct a 0 Addr.LG_HEAD 0 [] 1
  | _ => s.abortScrub why

/-- Every registered activity that meets a condition is aborted (R498). -/
def State.abortWhere (s : State) (p : Activity → Bool) (why : AbortWhy) (retry : Nat := 1000) : State :=
  s.each ((List.range 16).filterMap s.actIn) fun s a => if p a then s.abortAct a why retry else s

/-- Whether an activity is run by firmware (R495). -/
def Activity.firmware (a : Activity) : Bool := a.code == 3 || a.code == 4 || a.code == 8

/-- What MAINT_ABORT does (R464, R498). -/
def dirMaintAbort (d : Dir) (s : State) : State :=
  match s.act d.data with
  | none => s.dirRefused d 0x0D d.code 0xE0 (d.data % 2 ^ 16)
  | some a => (s.abortAct a .directive).dirDone d d.data

/-- MAINT_ABORT (R498). -/
def execMaintAbort (r : DirReq) (s : State) : Out := .next (s.directive 0x11 r noArgs dirMaintAbort)

end Sys2Proof.Machine
end

