-- ==== Sys2Proof/Machine/Views.lean ====
section
/-! DEFINITION. What a read of a register returns: registers that show the device as it stands, attention, `ALERT_N`,
and the side effects of a consume read (R18, R321, R510, R514, R516 to R522). -/

namespace Sys2Proof.Machine

/-! ## Attention (R519 to R522) -/

/-- Whether any register of a family reads non-zero. -/
def State.anyReg (s : State) (base stride n : Nat) : Bool :=
  s.regs.any fun x => inFamily x.1 base stride n && x.2 != 0

/-- The bits of a family's registers from number `first` on, one bit for each non-zero register (R522). -/
def State.attnBits (s : State) (base stride first n : Nat) : Nat :=
  (List.range n).foldl (fun acc i => acc + if s.reg (base + stride * (first + i)) = 0 then 0 else 2 ^ i) 0

/-- The bits of ATTN_STAT, lowest first (R519). -/
def State.attnList (s : State) : List Bool :=
  [s.on REFUSE.NEW || s.on PROF_STAT.REPLACED,
   s.reg Addr.TIME_EVT != 0,
   s.anyReg (Addr.TCH_EVT 0) 0x100 96,
   s.anyReg (Addr.EV_EVT 0) 0x100 512,
   s.reg Addr.TRG_EVT != 0,
   s.reg Addr.TH_EVT != 0 || s.reg Addr.TH_STARVE_N != 0 || s.reg Addr.TH_STARVE_S != 0,
   s.anyReg (Addr.PD_EVT 0) 0x800 2,
   s.anyReg (Addr.RC_EVT 0) 0x1000 64,
   s.anyReg (Addr.SH_EVT 0) 0x100 32,
   s.anyReg (Addr.RG_LANE_EVT 0) 0x100 32 || s.anyReg (Addr.RG_GRP_EVT 0) 0x40 16,
   s.anyReg (Addr.HIP_EVT 0) 0x100 8 || s.reg Addr.TREE_EVT != 0,
   s.anyReg (Addr.GA_EVT 0) 0x4000 2,
   s.reg Addr.MG_EVT != 0,
   s.reg Addr.MT_EVT != 0,
   s.rescue,
   s.on MG_EVT.FATAL]

/-- A list of bits as a number, lowest first. -/
def bitsOf (bs : List Bool) : Nat := bs.zipIdx.foldl (fun acc b => acc + if b.1 then 2 ^ b.2 else 0) 0

/-- ATTN_STAT (R519). -/
def State.attnStat (s : State) : Nat := bitsOf s.attnList

/-- Whether the device drives `ALERT_N` low (R520). (log 136: DESIGN CHOICE) -/
def State.alert (s : State) : Bool :=
  s.rescue || (s.pins.answered && s.pins.applied &&
    (Nat.land (s.attnStat % 2 ^ 14) (s.rd ATTN_MASK.EN) != 0 || s.on MG_EVT.FATAL))

/-- ATTN_OTHER (R522). -/
def State.attnOther (s : State) : Nat :=
  s.attnBits (Addr.RG_GRP_EVT 0) 0x40 0 16 + s.attnBits (Addr.HIP_EVT 0) 0x100 0 8 * 2 ^ 16 +
    b2n (s.reg Addr.TREE_EVT != 0) * 2 ^ 24 + s.attnBits (Addr.GA_EVT 0) 0x4000 0 2 * 2 ^ 25 +
    s.attnBits (Addr.PD_EVT 0) 0x800 0 2 * 2 ^ 27

/-! ## Registers that show the device as it stands -/

/-- A register with one field replaced. -/
def withField (v : Nat) (f : Field) (x : Nat) : Nat := setBits v f.lo f.w x

/-- TCH_STAT of a channel: ARMED and REFUSING as they are now (R89, R98, R110). -/
def State.tchStat (s : State) (c : Nat) : Nat :=
  let v := (s.reg (Addr.TCH_STAT c)).toNat
  withField (withField v (TCH_STAT.ARMED c) (b2n (s.armed c s.now (s.rd TGATE_LVL.LVL)))) (TCH_STAT.REFUSING c)
    (b2n (s.chanRefuses c))

/-- TH_REGION_STAT of a writer (R202, R239): free bundles ahead of the write pointer, beginning after the bundle that it
stands within, whether the writer waits, and the pointer's bundle. -/
def State.regionStat (s : State) (w : Nat) : Nat :=
  let (base, len) := s.regionOf w
  let at_ := (s.writer w).wp / 256
  let inside := b2n ((s.writer w).wp % 256 != 0)
  let ahead := (List.range (len - inside)).map fun i => base + (at_ + inside + i) % len
  let free := (ahead.takeWhile fun b => s.isFree b).length
  free + b2n (s.waiting w) * 2 ^ 16 + at_ % 2 ^ 15 * 2 ^ 17

/-- The patch RAM of a management core (R471). -/
def State.patchRam (s : State) (h : Nat) : List Host.Cell := if h = 0 then s.mg.patchN else s.mg.patchS

/-- A word that MG_PATCH_D reaches (R482, R507). -/
def State.patchWord (s : State) : Nat :=
  memLoad (s.patchRam (s.rd MG_PATCH_A.CORE)) (s.rd MG_PATCH_A.A / 4 * 4) 4

/-- The number of a unit from an address of its family. -/
def unitOf (a base stride : Nat) : Nat := (a - base) / stride

/-- The counter that LG_CNT_SEL names (R486, R507). -/
def State.selTally (s : State) : Nat := s.countSeconds.tallyOf (s.rd LG_CNT_SEL.ID) % 2 ^ 48

/-- What a register shows to a read on a path, side effects apart (R18, R514). -/
def State.view (s : State) (p : Path) (a : Nat) : Nat :=
  let v := (s.reg a).toNat
  if a = Addr.TIME_LO then stamp s.now % 2 ^ 32
  else if a = Addr.TIME_HI then (s.latchOf p a).toNat
  else if a = Addr.ALIGN_LO then ofSigned 64 s.time.a % 2 ^ 32
  else if a = Addr.ALIGN_HI then ofSigned 64 s.time.a / 2 ^ 32
  else if a = Addr.ATTN_STAT then s.attnStat
  else if a = Addr.STRAP then withField (withField v STRAP.PFAIL (b2n s.pins.pfailLow)) STRAP.ALERT (b2n s.alert)
  else if inFamily a (Addr.ATTN_PORT 0) 4 16 then
    s.attnBits (Addr.EV_EVT 0) 0x100 (32 * unitOf a (Addr.ATTN_PORT 0) 4) 32
  else if inFamily a (Addr.ATTN_TCH 0) 4 3 then
    s.attnBits (Addr.TCH_EVT 0) 0x100 (32 * unitOf a (Addr.ATTN_TCH 0) 4) 32
  else if inFamily a (Addr.ATTN_CORE 0) 4 2 then
    s.attnBits (Addr.RC_EVT 0) 0x1000 (32 * unitOf a (Addr.ATTN_CORE 0) 4) 32
  else if a = Addr.ATTN_SH then s.attnBits (Addr.SH_EVT 0) 0x100 0 32
  else if a = Addr.ATTN_LANE then s.attnBits (Addr.RG_LANE_EVT 0) 0x100 0 32
  else if a = Addr.ATTN_OTHER then s.attnOther
  else if inFamily a (Addr.TCH_STAT 0) 0x100 96 then s.tchStat (unitOf a (Addr.TCH_STAT 0) 0x100)
  else if a = Addr.TRG_STAT then b2n s.isRoot + b2n s.parentLink.isSome * 2
  else if inFamily a (Addr.TH_REGION_STAT 0) 4 1024 then s.regionStat (unitOf a (Addr.TH_REGION_STAT 0) 4)
  else if inFamily a (Addr.EV_PAT_BITS_LO 0) 0x100 512 then
    (s.port (unitOf a (Addr.EV_PAT_BITS_LO 0) 0x100)).patBits % 2 ^ 32
  else if inFamily a (Addr.EV_PAT_BITS_HI 0) 0x100 512 then (s.latchOf p a).toNat
  else if inFamily a (Addr.PD_CORE_BUSY 0) 0x20 64 then
    ((s.countBusy (unitOf a (Addr.PD_CORE_BUSY 0) 0x20)).reg a).toNat
  else if inFamily a (Addr.PD_CORE_WAIT_SUM 0) 0x20 64 then
    if s.latchOf p (a + 1) = 1 then (s.latchOf p a).toNat else v
  else if inFamily a (Addr.RC_MEMD 0) 0x1000 64 then
    (readMemD (unitOf a (Addr.RC_MEMD 0) 0x1000) s).1
  else if a = Addr.MG_PATCH_D then s.patchWord
  else if a = Addr.LG_CNT_LO then s.selTally % 2 ^ 32
  else if a = Addr.LG_CNT_HI then (s.latchOf p a).toNat
  else
    match (List.range 2).find? fun h => inFamily a (Addr.GA_IN_A h 16) 0x20 12 with
    | some h => withField v (GA_IN_A.CURVE 0 0) (s.gaCurve h (16 + unitOf a (Addr.GA_IN_A h 16) 0x20))
    | none => v

/-! ## Reads (R18, R321, R514) -/

/-- A register's fields of one access code, as a mask. -/
def codeMask (rows : List FieldRow) (c : Access) : Nat :=
  rows.foldl (fun m r => if r.access = c then m + (2 ^ r.w - 1) * 2 ^ r.lo else m) 0

/-- Counters marked RC clear on a consume read (R18, R21). (log 12: DESIGN CHOICE) -/
def State.clearRc (s : State) (a : Nat) : State :=
  match regAt a with
  | none => s
  | some r =>
    let m := codeMask r.rows .rc
    if m = 0 then s else s.setReg a (BitVec.ofNat 32 (Nat.land (s.reg a).toNat (Nat.xor m (2 ^ 32 - 1))))

/-- A read of LG_CNT_LO: the tally's low half, and unless it is a peek the upper half into the path's latch (R507,
R514). -/
def readCntLo (path : Path) (consume : Bool) (s : State) : Nat × State :=
  let n := s.selTally
  (n % 2 ^ 32, if consume then s.setLatch path Addr.LG_CNT_HI (BitVec.ofNat 32 (n / 2 ^ 32)) else s)

/-- A consume read of a register (R18, R321). (log 12: DESIGN CHOICE; 133: DEDUCED) -/
def State.consume (s : State) (p : Path) (a : Nat) : Nat × State :=
  let v := s.view p a
  if a = Addr.TIME_LO then readTimeLo p true s
  else if a = Addr.LG_CNT_LO then readCntLo p true s
  else if inFamily a (Addr.EV_PAT_BITS_LO 0) 0x100 512 then
    readPatBits p true (unitOf a (Addr.EV_PAT_BITS_LO 0) 0x100) s
  else if inFamily a (Addr.PD_CORE_TASKS 0) 0x20 64 then
    readCoreTasks p true (unitOf a (Addr.PD_CORE_TASKS 0) 0x20) s
  else if inFamily a (Addr.PD_CORE_BUSY 0) 0x20 64 then
    (v, (s.countBusy (unitOf a (Addr.PD_CORE_BUSY 0) 0x20)).clearRc a)
  else if inFamily a (Addr.PD_CORE_WAIT_SUM 0) 0x20 64 then
    if s.latchOf p (a + 1) = 1 then (v, (s.setLatch p a 0).setLatch p (a + 1) 0) else (v, s.clearRc a)
  else if inFamily a (Addr.RC_MEMD 0) 0x1000 64 then readMemD (unitOf a (Addr.RC_MEMD 0) 0x1000) s
  else (v, s.clearRc a)

/-- A register read on a path (R510, R516, R524): a peek has no side effect and is never recorded. Until the image is
applied, all but three registers read their reset values. -/
def State.readReg (s : State) (p : Path) (consume : Bool) (a : Nat) : (Status × Nat) × State :=
  if !s.pins.answered then ((.ignored, 0), s)
  else if (regAt a).isNone then
    ((.noAddress, 0), if consume then s.accErr p a .noAddress false else s)
  else if !s.pins.applied && a != Addr.IDENT && a != Addr.BOOT_STAT && a != Addr.STRAP then
    ((.done, (regReset a).toNat), s)
  else if consume then
    let (v, s) := s.consume p a
    ((.done, v), s)
  else if inFamily a (Addr.RC_MEMD 0) 0x1000 64 then
    let (v, s) := readMemD (unitOf a (Addr.RC_MEMD 0) 0x1000) s
    ((.done, v), s)
  else ((.done, s.view p a), s)

/-- RC_COUNTER_READ (R18, R21): a consume read. -/
def execRcCounterRead (path : Path) (addr : U32) (s : State) : Out :=
  .next (s.readReg path true addr.toNat).2

/-- LG_CNT_LO_READ (R507, R514). -/
def execLgCntLoRead (path : Path) (consume : Bool) (s : State) : Out :=
  .next (s.readReg path consume Addr.LG_CNT_LO).2

end Sys2Proof.Machine
end

