-- ==== Sys2Proof/Machine/Fatal.lean ====
section
/-! DEFINITION. Fatal errors, the freeze, and the contents of a dump (R22, R210 to R213, R502 to R506, R521). -/

namespace Sys2Proof.Machine

/-! ## The freeze (R503) -/

/-- A channel's buffered entries are taken, and its open courses close partial (R503). `fuel` is the number of entries.
(log 123: DEDUCED) -/
def State.freezeChan (s : State) (c : Nat) : State :=
  let s := s.each (s.chan c).buf fun s _ => s.takeEntry c
  let s := s.setChan c { s.chan c with courses := (s.chan c).courses.map fun r => { r with part := true } }
  s.each (s.chan c).courses fun s _ => s.closeTimes c

/-- A Gauge unit's open courses close partial (R503). -/
def State.freezeGauge (s : State) (h : Nat) : State :=
  let s := s.setUnit h { s.unit h with courses := (s.unit h).courses.map fun c => { c with part := true } }
  s.each (s.unit h).courses fun s _ => s.closeGauge h

/-- The device freezes (R503): every open course closes, partial, and every source refuses from then on. -/
def State.freeze (s : State) : State :=
  let s := s.each ((s.tch.map (·.1)).filter fun c => (s.chan c).admitted) State.freezeChan
  let s := s.each [0, 1] State.freezeGauge
  let s : State := { s with mg := { s.mg with frozen := true } }
  let s := s.each (s.ports.map (·.1)) State.partPort
  s.flag MG_EVT.FATAL

/-- While a freeze holds, through recovery, MG_EVT.FATAL is set again in every cycle (R521). (log 123: DEDUCED) -/
def State.holdFatal (s : State) : State :=
  if s.mg.frozen && !s.mg.resumeDue then s.flag MG_EVT.FATAL else s

/-! ## Dumps (R504, R505) -/

/-- A dump begins (R504, R505): its activity holds the loft. -/
def State.startDump (s : State) (fatal : Bool) : Grant × State :=
  match s.register 1 [(8, 0, 0)] deviceWide with
  | (.refused reason detail, s) => (.refused reason detail, s)
  | (.id n, s) =>
    let d : DumpSt := { fatal := fatal, id := n, at_ := s.now, course := s.course, epoch := s.epoch }
    let s : State := { s with mg := { s.mg with dump := some d } }
    (.id n, s.flag MG_DUMP_STAT.BUSY)

/-- The cores that run, which a fatal dump halts (R504). -/
def State.liveCores (s : State) : List Nat :=
  (List.range 64).filter fun k =>
    s.coreState k == rcRunning || s.coreState k == rcIdle || s.coreState k == rcDraining

/-- The freeze of a fatal error, and the dump's first three steps (R502 to R504). (log 123: DEDUCED) -/
def State.freezeNow (s : State) : State :=
  let s := s.freeze
  let s := s.abortWhere (fun _ => true) .freeze
  let s := (s.startDump true).2
  let ks := s.liveCores
  let s := s.each ks State.forceHalt
  match s.mg.dump with
  | some d => { s with mg := { s.mg with dump := some { d with halted := ks } } }
  | none => s

/-- Two fatal errors dealt with together: the later one is the last cause. (log 123: DEDUCED) -/
def Fatality.merge (a b : Fatality) : Fatality :=
  { b with immediate := a.immediate || b.immediate, units := a.units ++ b.units, warm := a.warm || b.warm }

/-- A fatal error (R502, R507): counted, recorded, and dealt with at once or at the next course boundary. In a warm reset
it is absorbed (R47). (log 123: DEDUCED) -/
def State.fatality (s : State) (f : Fatality) : State :=
  let s := (s.tally 0x0709).flag MG_EVT.FATAL
  let s := (s.wr MG_FATAL.CAUSE f.cause).wr MG_FATAL.IMMEDIATE (b2n f.immediate)
  let s := s.wr MG_FATAL_UNIT.ID f.unit
  if s.inWarm then s
  else
    let g := match s.mg.fatal, s.mg.fatalDue with
      | some x, _ => x.merge f
      | none, some x => x.merge f
      | none, none => f
    if s.mg.frozen then { s with mg := { s.mg with fatal := some g } }
    else if f.immediate || !s.running then
      let s : State := { s with mg := { s.mg with fatal := some g, fatalDue := none } }
      s.freezeNow
    else { s with mg := { s.mg with fatalDue := some g } }

/-! ## FIFO pushes and reads (R210 to R213) -/

/-- Every handshake FIFO, by index (R506, entry 46). -/
def allFifos : List FifoId :=
  (List.range 512).map (fun p => .eaveRx ⟨p % 512, Nat.mod_lt _ (by decide)⟩) ++
  (List.range 64).map (fun o => .octetWriter ⟨o % 64, Nat.mod_lt _ (by decide)⟩) ++
  (List.range 12).map (fun g => .timingWriter ⟨g % 12, Nat.mod_lt _ (by decide)⟩) ++
  (List.range 32).map (fun e => .shingleIn ⟨e % 32, Nat.mod_lt _ (by decide)⟩) ++
  ([false, true].flatMap fun d => (List.range 5).map fun c => .bridge d ⟨c % 5, Nat.mod_lt _ (by decide)⟩) ++
  [.primitive 0, .primitive 1, .control 0, .control 1]

/-- The index of a FIFO (R506, entry 46). -/
def FifoId.index (f : FifoId) : Nat := (allFifos.findIdx? fun x => x == f).getD 0

/-- What an uncorrectable item comes to, whether it is kept, and with poison (R212). (log 46: DEDUCED) -/
def State.badItem (s : State) (f : FifoId) : Bool × State :=
  let s := s.setFifo f { s.fifo f with uncorrSeen := true }
  match fifoClass f with
  | .data => (true, s)
  | .event => (false, s.fifoDiscard f)
  | .control =>
    (false, s.fatality { cause := 1, unit := unitId 0 0, addr := FifoId.index f, immediate := true, warm := true })

/-- FIFO_PUSH (R211, R212): the item enters while the FIFO has room and does not refuse, and is checked as it falls
forward. (log 58: DEDUCED) -/
def execFifoPush (f : FifoId) (item : Word) (errs : Nat) (s : State) : Out :=
  if f.depth ≤ s.fifoOcc f || s.fifoRefuses f then .next s
  else
    let (e, s) := s.secded errs
    let s := s.fifoCount e
    let (keep, s) := if e = .uncorrectable then s.badItem f else (true, s)
    if !keep then .next s
    else
      let (w, s) := s.garble item errs e
      let x := s.fifo f
      .next (s.setFifo f { x with items := x.items ++ [(w, decide (e = .uncorrectable))] })

/-- FIFO_READ (R210, R212): the item at P is checked again, and P + 1. -/
def execFifoRead (f : FifoId) (errs : Nat) (s : State) : Out :=
  let x := s.fifo f
  match x.items[x.p]? with
  | none => .next s
  | some (w, poison) =>
    let (e, s) := s.secded errs
    let s := s.fifoCount e
    let (_, s) := if e = .uncorrectable then s.badItem f else (true, s)
    let (w, s) := s.garble w errs e
    let y := s.fifo f
    .next (s.setFifo f { y with
      items := y.items.set x.p (w, poison || decide (e = .uncorrectable)), p := x.p + 1 })

/-! ## Voted registers (R22, R502) -/

/-- The unit that owns a voted register, by its page: the units a unit reset can name (R46, R502). (log 124: DEDUCED) -/
def ownerOf (a : Nat) : Option (Nat × Nat) :=
  if 0x20000 ≤ a ∧ a < 0x20000 + 96 * 0x100 then some (2, (a - 0x20000) / 0x100)
  else if 0x100000 ≤ a ∧ a < 0x120000 then some (1, (a - 0x100000) / 0x100)
  else if 0x500000 ≤ a ∧ a < 0x540000 then some (4, (a - 0x500000) / 0x1000)
  else if 0x600000 ≤ a ∧ a < 0x602000 then some (5, (a - 0x600000) / 0x100)
  else if 0x700000 ≤ a ∧ a < 0x702000 then some (6, (a - 0x700000) / 0x100)
  else if 0x780000 ≤ a ∧ a < 0x780800 then some (8, (a - 0x780000) / 0x100)
  else if 0x800000 ≤ a ∧ a < 0x808000 then some (9, (a - 0x800000) / 0x4000)
  else none

/-- Whether a register is control state that the Thatch holds: a region, a ring, a chain pool or a spare's mapping
(R227, R502). -/
def controlState (a : Nat) : Bool :=
  inFamily a (Addr.TH_REGION 0) 8 1024 || inFamily a (Addr.TH_REGION_LEN 0) 8 1024 ||
  inFamily a (Addr.TH_REMAP 0) 4 8

/-- Whether a register has voted fields (R18, R22). (log 124: DEDUCED) -/
def voted (a : Nat) : Bool :=
  match regAt a with
  | some r => r.rows.any fun x => decide (x.access = .rwt)
  | none => false

/-- What the voted fields of a register hold after a disagreement that cannot be repaired is open (entry 5).
(log 124: DEDUCED) -/
def State.spoilReg (s : State) (a : Nat) : State :=
  match regAt a with
  | none => s
  | some r =>
    let (v, s) := s.draw
    let old := (s.reg a).toNat
    let new := r.rows.foldl (fun acc x => if x.access = .rwt then setBits acc x.lo x.w (bits v x.lo x.w) else acc) old
    s.setReg a (BitVec.ofNat 32 new)

/-- VOTER_REPAIR (R22, R227, R486, R502): the majority rewrites the copy, which changes no value; a disagreement that
cannot be repaired is fatal, as the register's owner has it. (log 124: DEDUCED) -/
def execVoterRepair (addr : U32) (repairable : Bool) (s : State) : Out :=
  let a := addr.toNat
  if !(voted a || controlState a) then .next s
  else if repairable then .next (s.tally 0x0102)
  else
    let s := (s.tally 0x0122).spoilReg a
    let s : State := { s with mg := { s.mg with voterBad := s.mg.voterBad.filter (· != a) ++ [a] } }
    if controlState a then
      .next (s.fatality { cause := 4, unit := unitId 0 0, addr := a, immediate := true, warm := true })
    else match ownerOf a with
      | some (k, i) =>
        .next (s.fatality
          { cause := 3, unit := unitId k i, addr := a, immediate := false, units := [(k, i)], warm := false })
      | none => .next (s.fatality { cause := 3, unit := unitId 0 0, addr := a, immediate := true, warm := true })

/-- A voted register takes its value from the active copy again (R502). -/
def State.reloadReg (s : State) (a : Nat) : State :=
  if profScoped a then s.setReg a (s.profValue (s.rd PROF_STAT.CUR) a)
  else if inFamily a (Addr.TH_REMAP 0) 4 8 then
    let i := (a - Addr.TH_REMAP 0) / 4
    let b := s.tallyOf (0x0800 + i)
    (s.wr (TH_REMAP.BANK i) (b - 1)).wr (TH_REMAP.USED i) (b2n (b != 0))
  else match s.copyImage s.activeCopy with
    | .error _ => s
    | .ok im =>
      if a = Addr.ATTN_MASK then s.wr ATTN_MASK.EN (leAt im.global 0x24 4)
      else
        let ws := (im.writes ++ arbiterWrites im.arbiter ++ equalWrites im.equal).filter fun w => w.1 == a
        let en := s.reg a
        let s := s.setReg a (regReset a)
        let s := s.each ws fun s w => s.loadReg w.1 w.2
        if enableReg a then s.wr ⟨a, 0, 1⟩ (bits en.toNat 0 1) else s

/-- Every voted register with an unrepaired disagreement is reloaded (R502). (log 124: DEDUCED) -/
def State.reloadVoted (s : State) : State :=
  let s := s.each s.mg.voterBad State.reloadReg
  { s with mg := { s.mg with voterBad := [] } }

/-! ## The contents of a dump (R506) -/

/-- Data words of a record at most: 2,048 words with the header and word 1 (R506). -/
def dumpChunk : Nat := 2046

/-- Words of a dump, each with whether it was stored poisoned. -/
abbrev DumpWords := List (Word × Bool)

/-- A dump record before it is placed: section, part, last of the section, `FIRST`, and its data words. -/
structure DumpRec where
  section_ : Nat
  part : Nat
  last : Bool
  first : Nat
  data : DumpWords
deriving DecidableEq, Repr

/-- A run of data words cut into pieces of at most 2,046, each with the number of words before it; `fuel` bounds the
pieces. -/
def cutWords : Nat → Nat → DumpWords → List (Nat × DumpWords)
  | 0, _, _ => []
  | fuel + 1, at_, ws =>
    if ws.isEmpty then [] else (at_, ws.take dumpChunk) :: cutWords fuel (at_ + dumpChunk) (ws.drop dumpChunk)

/-- The records of a section made of runs: the run's first number, how much each word advances it, and its words. -/
def sectionRecs (sec : Nat) (runs : List (Nat × Nat × DumpWords)) : List DumpRec :=
  let pieces := runs.flatMap fun (r : Nat × Nat × DumpWords) =>
    (cutWords 16 0 r.2.2).map fun (p : Nat × DumpWords) => (r.1 + p.1 * r.2.1, p.2)
  pieces.mapIdx fun i (p : Nat × DumpWords) => ⟨sec, i, i + 1 == pieces.length, p.1, p.2⟩

/-- Words that nothing has poisoned. -/
def clean (ws : List Word) : DumpWords := ws.map fun w => (w, false)

/-- Four 32-bit values to a word, the first in the low bits. -/
def quads (vs : List Nat) : List Word := packWords 32 (vs.map (· % 2 ^ 32))

/-- The register ranges of section 1: base and bytes (R506). -/
def dumpRanges : List (Nat × Nat) :=
  [(0x00000000, 256), (0x00010000, 256), (0x00020000, 24832), (0x00100000, 131072), (0x00180000, 4096),
   (0x00200000, 4096), (0x00300000, 20480), (0x00400000, 9216), (0x00540000, 64), (0x00600000, 8192),
   (0x00602000, 512), (0x00700000, 8192), (0x00704000, 1024), (0x00706000, 64), (0x00780000, 2048),
   (0x00781000, 32), (0x00800000, 4096), (0x00804000, 4096), (0x00900000, 4096)]

/-- A register as the dump engine peeks it (R321, R504). -/
def State.peek (s : State) (a : Nat) : Nat := s.view .mcN a

/-- Section 1, REGS. -/
def State.dumpRegs (s : State) : List DumpRec :=
  sectionRecs 1 (dumpRanges.map fun (r : Nat × Nat) =>
    (r.1, 16, clean (quads ((List.range (r.2 / 4)).map fun i => s.peek (r.1 + 4 * i)))))

/-- Section 2, QUEUES. -/
def State.dumpQueues (s : State) : List DumpRec :=
  sectionRecs 2 [(0, 1, clean ((List.range 16384).flatMap fun q =>
    quads ((List.range 4).map fun i => s.peek (0x440000 + 16 * q + 4 * i))))]

/-- The 64 values of a core (R506). -/
def State.dumpCore (s : State) (arch : Bool) (k : Nat) : List Nat :=
  let c := s.core k
  let a40 := fun (a : BitVec 40) => [a.toNat % 2 ^ 32, a.toNat / 2 ^ 32]
  let csrs := (List.range 7) ++ (List.range 6).map (8 + ·) ++ [0x10, 0x11]
  let vals := (List.range 16).map (fun n => (c.reg n).toNat) ++ a40 c.a0 ++ a40 c.a1 ++ [c.pc.toNat] ++
    csrs.map fun n => (s.csrRead k n).toNat
  (if arch then vals else vals.map fun _ => 0) ++
    (List.range 16).map (fun i => s.peek (0x500000 + 0x1000 * k + 4 * i)) ++ List.replicate 12 0

/-- Section 3, CORES. -/
def State.dumpCores (s : State) (arch : Bool) : List DumpRec :=
  sectionRecs 3 [(0, 0, clean ((List.range 64).flatMap fun k => quads (s.dumpCore arch k)))]

/-- The code of a FIFO class in a dump: the order of R212. -/
def FifoClass.code : FifoClass → Nat
  | .data => 0 | .event => 1 | .control => 2

/-- Section 4, FIFOS. -/
def State.dumpFifos (s : State) : List DumpRec :=
  sectionRecs 4 [(0, 1, clean (allFifos.mapIdx fun i f =>
    let x := s.fifo f
    mkWord [(0, 16, s.fifoOcc f), (16, 16, x.p), (32, 16, x.p - x.m), (48, 16, f.depth),
      (64, 16, (s.fifoHigh f).getD 0), (80, 2, FifoClass.code (fifoClass f)), (82, 1, b2n (s.fifoRefuses f)),
      (83, 1, b2n x.uncorrSeen), (96, 16, i)]))]

/-- The last entries of a half's trace ring, oldest first, at most 2,048; none in STATS (R268, R506). -/
def State.dumpTrace (s : State) (h : Nat) : DumpWords :=
  let n := s.rd (PD_TRACE_RING.LEN h) * 256
  let base := s.rd (PD_TRACE_RING.BASE h) * 256
  if !s.on (PD_CTRL.OBS h) || n == 0 then []
  else
    let m := min 2048 n
    (List.range m).filterMap fun i =>
      (s.tword (base + ((s.purlin h).traceAt + n - m + i) % n)).map fun w => (w.data, w.poison)

/-- Section 5, TRACE: the entries of both halves, numbered on (R506). -/
def State.dumpTraces (s : State) : List DumpRec :=
  sectionRecs 5 [(0, 1, s.dumpTrace 0), ((s.dumpTrace 0).length, 1, s.dumpTrace 1)]

/-- Words that the management cores' firmware fills: free values (entry 5). -/
def State.freeWords (s : State) : Nat → List Word × State
  | 0 => ([], s)
  | n + 1 =>
    let (v, s) := s.draw
    let (ws, s) := State.freeWords s n
    (BitVec.ofNat 128 v :: ws, s)

/-- Word 0 of a management core: its pc and the level that runs are open, its heartbeat's age is known (R506). -/
def State.dumpMcHead (s : State) (h : Nat) (w : Word) : Word :=
  mkWord [(0, 34, w.toNat), (64, 32, min 0xFFFFFFFF (tfUs (s.now - Tab.get 0 s.mg.beatAt h)))]

/-- A work item of a management core: open but for its unused bits (R506). -/
def dumpItem (w : Word) : Word := mkWord [(0, 20, w.toNat), (32, 96, w.toNat / 2 ^ 32)]

/-- Section 6, MC (R506). (log 125, 135: DEDUCED) -/
def State.dumpMc (s : State) : List DumpRec × State :=
  let (ws, t) := s.freeWords 256
  let one := fun (h : Nat) =>
    let xs := (ws.drop (128 * h)).take 128
    s.dumpMcHead h (xs.headD 0) :: xs.tail.map dumpItem
  (sectionRecs 6 [(0, 0, clean (one 0 ++ one 1))], t)

/-- Section 0, SUMMARY, for a dump of `n` records (R506). -/
def State.dumpSummary (s : State) (d : DumpSt) (n : Nat) : DumpRec :=
  let f := s.mg.fatal
  let cause := if d.fatal then (f.map (·.cause)).getD 0 else 0
  let imm := d.fatal && ((f.map (·.immediate)).getD false)
  let unit := if d.fatal then (f.map (·.unit)).getD 0 else 0
  let addr := if d.fatal then (f.map (·.addr)).getD 0 else 0
  ⟨0, 0, true, 0, clean
    [mkWord [(0, 64, stamp d.at_), (64, 32, d.course), (96, 16, d.epoch), (112, 8, cause), (120, 1, b2n imm)],
     mkWord [(0, 32, unit), (32, 32, addr), (80, 2, s.rd MG_STAT.TENURE), (82, 1, s.rd MG_STAT.MCN_ALIVE),
       (83, 1, s.rd MG_STAT.MCS_ALIVE)],
     mkWord [(0, 32, (s.reg Addr.IDENT).toNat), (32, 16, s.rd NODE_ID.ID), (64, 32, s.seqInForce),
       (96, 1, s.rd BOOT_STAT.ACTIVE)],
     mkWord [(0, 16, n), (16, 16, allFifos.length), (32, 16, (s.dumpTrace 0).length),
       (48, 16, (s.dumpTrace 1).length)]]⟩

/-- Every record of a dump, in order (R506). -/
def State.dumpRecs (s : State) (d : DumpSt) : List DumpRec × State :=
  let (mc, t) := s.dumpMc
  let rs := s.dumpRegs ++ s.dumpQueues ++ s.dumpCores d.fatal ++ s.dumpFifos ++ s.dumpTraces ++ mc
  (s.dumpSummary d (rs.length + 1) :: rs, t)

/-- Poisoned words among a record's. -/
def DumpRec.poisoned (r : DumpRec) : Nat := (r.data.filter (·.2)).length

/-- Word 1 of a dump record (R506). -/
def DumpRec.word1 (r : DumpRec) (no : Nat) (fatal : Bool) : Word :=
  mkWord [(0, 16, no), (16, 8, r.section_), (24, 8, r.part), (32, 1, b2n r.last), (33, 1, b2n fatal),
    (34, 1, b2n fatal), (48, 16, r.poisoned), (64, 32, r.first), (96, 16, r.data.length)]

/-- TYPE of DUMP (R205). -/
def typeDump : Nat := 9

/-- A dump record is written at a place of the loft, held, and its descriptor pushed where its queue takes it
(R504, R505). -/
def State.putDump (s : State) (d : DumpSt) (no at_ : Nat) (r : DumpRec) : State :=
  let len := r.data.length + 2
  let x := s.writer 616
  let q := s.rd MG_DUMP.Q
  let fl : HdrFlags := { s.quality with poison := decide (0 < r.poisoned) }
  let h := header typeDump 0x7001 s.epoch d.course len fl (s.rd NODE_ID.ID) x.seq
  let s := s.setWriter 616 { x with seq := (x.seq + 1) % 2 ^ 16 }
  let ws : DumpWords := (h, false) :: (r.word1 no d.fatal, false) :: r.data
  let s := s.each ws.zipIdx fun s (w : (Word × Bool) × Nat) => s.storeWord (at_ + w.2) w.1.1
  let s := s.hold ⟨at_, len⟩
  let desc := s.fillDesc q
    { queue := q, course := d.course, len := len, bundle := at_ / 256, word := at_ % 256 : Desc }
  let s : State := { s with mg := { s.mg with loft := s.mg.loft ++ [desc] } }
  if s.queueRefuses q then s else s.pushQueue q desc s.epoch

/-- The records of a dump are written one after the other from word 0 of the loft (R506). (log 125: DEDUCED) -/
def State.putDumps (s : State) (d : DumpSt) (no : Nat) : Nat → List DumpRec → State
  | _, [] => s
  | at_, r :: rs => (s.putDump d no at_ r).putDumps d no (at_ + r.data.length + 2) rs

/-- The dump stands complete in the loft (R504, R505): counted, and its DUMP event asked for. (log 125: DEDUCED) -/
def State.writeDump (s : State) (d : DumpSt) : State :=
  let s := s.tally 0x0708
  let no := s.tallyOf 0x0708 % 2 ^ 16
  let (rs, s) := s.dumpRecs d
  let s := s.putDumps d no (loftFirst * 256) rs
  let s : State := { s with mg := { s.mg with dump := none } }
  let s := ((s.wr MG_DUMP_STAT.BUSY 0).flag MG_DUMP_STAT.HELD).wr MG_DUMP_STAT.NO no
  let f := s.mg.fatal
  let cause := if d.fatal then (f.map (·.cause)).getD 0 else 0
  let s := if d.fatal then
      s.ledgerEvent 0x05 [cause, (f.map (·.unit)).getD 0, b2n ((f.map (·.immediate)).getD false)]
    else s
  s.ledgerEvent 0x06 [no, cause, rs.length, rs.foldl (fun n r => n + r.poisoned) 0]

/-- What the DUMP directive does (R464, R505). (log 125: DEDUCED) -/
def dirDump (d : Dir) (s : State) : State :=
  s.dirCheck d (d.data == 0) fun s => State.dirGrant d (s.startDump false)

/-- DUMP (R464, R505). -/
def execDump (r : DirReq) (s : State) : Out := .next (s.directive 0x10 r noArgs dirDump)

end Sys2Proof.Machine
end

