-- ==== Sys2Proof/Machine/Resets.lean ====
section
/-! DEFINITION. Resets: cold, warm and unit resets, power events, and the recovery that follows a fatal error
(R46 to R51, R204, R389, R498 to R504, R518, R531, R532). -/

namespace Sys2Proof.Machine

/-! ## Cold reset (R46, R48, R518) -/

/-- What a cold reset leaves (R48): the image memories, the ledger's lines, the supplies and pins; all else as at
power-up. (log 128: DEDUCED) -/
def State.coldReset (s : State) : State :=
  let pins : PinSt := { s.pins with answered := false, applied := false }
  let boot : BootSt := { imgA := s.boot.imgA, imgB := s.boot.imgB }
  let mg : MgmtSt := { ledger := s.mg.ledger }
  let t : State := { State.reset with
    pending := s.pending, boot := boot, mg := mg, pins := pins, soffit := s.soffit, freeCtr := s.freeCtr }
  if pins.pfailLow then t.flag LG_STAT.PFAIL_HOLD else t

/-- Start-up can begin: power is good, RESET_N high, and no trip holds the device (R445, R500). -/
def State.released (s : State) : Bool := s.pins.powerGood && !s.pins.resetLow && !s.pins.thermTrip

/-- POWER_GOOD_RISE (R46, R531): a cold reset, which ends at once while RESET_N is high. (log 131: DEDUCED) -/
def execPowerGoodRise (strap : BitVec 8) (s : State) : Out :=
  if s.pins.powerGood then .next s
  else
    let s : State := { s with pins := { s.pins with powerGood := true, thermTrip := false } }
    let s : State := { s.coldReset with soffit := {} }
    .next (if s.pins.resetLow then s else s.wr STRAP.NODE strap.toNat)

/-- POWER_GOOD_FALL (R46, R531): RUN ends, and everything but the memories is lost. -/
def execPowerGoodFall (s : State) : Out :=
  if !s.pins.powerGood then .next s
  else
    let s : State := { s with pins := { s.pins with powerGood := false } }
    .next { s.coldReset with soffit := {} }

/-- What the boundary cells do under an instruction while RESET_N is low (R543): 0 nothing, 1 they drive, 2 they hold,
3 high impedance. -/
def scanBoundary (ir : BitVec 8) : Nat :=
  if ir = 0x00 ∨ ir = 0x02 ∨ ir = 0x03 then 1 else if ir = 0x04 then 2 else if ir = 0x05 then 3 else 0

/-- RESET_N_ASSERT (R46, R47, R543): a cold reset of the whole device, and out of a warm reset at once.
(log 128: DEDUCED) -/
def execResetNAssert (s : State) : Out :=
  if s.pins.resetLow then .next s
  else
    let s : State := { s with
      pins := { s.pins with resetLow := true }, soffit := { s.soffit with boundary := scanBoundary s.soffit.ir } }
    .next (if s.pins.powerGood then s.coldReset.wr RST_CAUSE.KIND 1 else s)

/-- RESET_N_RELEASE (R445, R500, R518): start-up begins, after a thermal trip too. The boundary scan that RESET_N allowed
ends (R543). -/
def execResetNRelease (strap : BitVec 8) (s : State) : Out :=
  if !s.pins.resetLow then .next s
  else
    let s : State := { s with
      pins := { s.pins with resetLow := false, thermTrip := false }, soffit := { s.soffit with boundary := 0 } }
    .next (if s.pins.powerGood then s.wr STRAP.NODE strap.toNat else s)

/-! ## Thermal trip (R500) -/

/-- The record of a THERM_TRIP event: two lines (R488, R500). -/
def State.tripRecord (s : State) (temps : BitVec 96) : LRec :=
  let l1 := mkWord [(0, 16, 0x09), (16, 16, s.epoch), (32, 32, s.course), (64, 64, stamp s.now)]
  let l2 := mkWord [(0, 32, s.calSec), (32, 96, temps.toNat)]
  ⟨3, false, 0, [l1, l2]⟩

/-- A page that the memory has begun to program when a trip comes runs on in the memory (R500). -/
def State.runOn (s : State) : State :=
  match s.boot.relay with
  | some r => match r.page with
    | some (n, bytes) => s.programBytes r.copyB (256 * n) bytes
    | none => s
  | none => s

/-- THERMAL_TRIP (R500): every island but the NVM island enters cold reset; the NVM island finishes the record in
progress, or begins a THERM_TRIP event. (log 13: DESIGN CHOICE; 128: DEDUCED) -/
def execThermalTrip (temps : BitVec 96) (s : State) : Out :=
  if !s.pins.powerGood || s.pins.thermTrip then .next s
  else
    let s : State := { s with pins := { s.pins with thermTrip := true } }
    if s.pins.resetLow ∨ !s.on LG_STAT.VALID then .next s.coldReset
    else
      let r := match s.mg.writing with
        | some r => r
        | none => s.tripRecord temps
      let t := s.runOn.coldReset
      let t : State := { t with mg := { t.mg with
        writing := some r, grace := true, tally := s.mg.tally, lapAt := s.mg.lapAt, sinceBase := s.mg.sinceBase } }
      .next ((t.wr LG_HEAD.LINE (s.rd LG_HEAD.LINE)).wr LG_LSEQ.N (s.rd LG_LSEQ.N))

/-- NVM_GRACE_END (R500): the NVM island enters reset; a record not finished is abandoned. (log 128: DEDUCED) -/
def execNvmGraceEnd (s : State) : Out := .next (if s.mg.grace then s.coldReset else s)

/-! ## Power-fail warning (R499) -/

/-- PFAIL_ASSERT (R498, R499): the changed tallies are committed clean, the ledger is held, and what uses the image
memories or compacts the ledger is aborted. (log 128: DEDUCED) -/
def execPfailAssert (s : State) : Out :=
  if s.pins.pfailLow then .next s
  else
    let s : State := { s with pins := { s.pins with pfailLow := true } }
    if !s.on LG_STAT.VALID then .next (s.flag LG_STAT.PFAIL_HOLD)
    else
      let s := s.tally 0x0712
      let s := (s.commitNow true).flag LG_STAT.PFAIL_HOLD
      let s := s.wr LG_STAT.WRITING 0
      let s := s.abortWhere (fun a => a.code == 3 || a.code == 8) .pfail
      .next (s.note 0 Addr.LG_STAT LG_STAT.PFAIL_HOLD.lo .event deviceWide [])

/-- PFAIL_RELEASE (R499): the ledger goes on. (log 128: DEDUCED) -/
def execPfailRelease (s : State) : Out :=
  if !s.pins.pfailLow then .next s
  else
    let s : State := { s with pins := { s.pins with pfailLow := false } }
    .next ((s.wr LG_STAT.PFAIL_HOLD 0).ledgerStart)

/-! ## VEXC (R532) -/

/-- The slices of a Gauge unit that run a job with a source. -/
def State.excitedJobs (s : State) (h : Nat) : List (Nat × GJob) :=
  (List.range 5).filterMap fun sl => match s.gjob h sl with
    | some x => if x.excited then some (sl, x) else none
    | none => none

/-- VEXC_LOW (R414, R532): every job that uses a source ends as EXC_FAULT. -/
def execVexcLow (s : State) : Out :=
  let s : State := { s with pins := { s.pins with vexcOk := false } }
  .next (s.each [0, 1] fun s h => s.each (s.excitedJobs h) fun s (x : Nat × GJob) => s.gaFault h x.1 x.2)

/-- VEXC_RETURN (R532). -/
def execVexcReturn (s : State) : Out := .next { s with pins := { s.pins with vexcOk := true } }

/-! ## Unit reset (R46 to R48) -/

/-- What a unit reset leaves of a timing channel (R48, R90, R109): its buffer discarded, its open courses closed
partial; a channel in service returns at the next course boundary. -/
def State.resetChan (s : State) (c : Nat) : State :=
  let x := s.chan c
  let was := x.admitted || x.returning
  let s := s.abortTest c
  let s := s.each x.buf fun s e => s.turnAway c e.ts .outOfService
  let s := s.setChan c { s.chan c with
    buf := [], courses := (s.chan c).courses.map fun r => { r with part := true } }
  let s := s.each (s.chan c).courses fun s _ => s.closeTimes c
  let y := s.chan c
  let s := s.setChan c { y with
    admitted := false, returning := was, oosAt := none, recalDue := false, lastTick := 0, lastTs := 0
    windows := [], openUntil := none, skipped := 0, settleUntil := 0, lastTake := 0 }
  let s := s.setWriter (512 + c) { s.writer (512 + c) with seq := 0 }
  (s.wr (TCH_STAT.ACTIVE c) 0).wr (TCH_STAT.MAINT c) 0

/-- The registry's resource that a unit is (R495, R508). -/
def unitRes (kind i : Nat) : List (Nat × Nat × Nat) :=
  match kind with
  | 1 => [(5, i, i)]
  | 2 => [(2, i / 8, i / 8)]
  | 4 => [(4, i, i)]
  | 6 => [(6, i, i)]
  | 8 => [(7, i, i)]
  | 9 => [(3, i, i)]
  | _ => []

/-- Kinds of unit that a unit reset can name (R46, R450). (log 127: DEDUCED) -/
def resetKind (kind : Nat) : Bool :=
  kind == 1 || kind == 2 || kind == 4 || kind == 5 || kind == 6 || kind == 8 || kind == 9

/-- An admission of the unit that waits for its boundary is cancelled, and the enable bit reads 0 (R47). -/
def State.cancelAdmit (s : State) (kind i : Nat) : State :=
  let hit := fun (c : Change) => c.kind == kind && c.index == i && c.enable
  if s.boot.changes.any hit then
    let s : State := { s with boot := { s.boot with changes := s.boot.changes.filter fun c => !hit c } }
    match enableField kind i with
    | some f => s.wr f 0
    | none => s
  else s

/-- A unit reset (R46 to R48, R498). -/
def State.resetUnit (s : State) (kind i : Nat) : State :=
  let res := unitRes kind i
  let s := s.abortWhere (fun a => a.res.any fun x => res.any fun y => resMeets x y) .unitReset
  let s := s.cancelAdmit kind i
  match kind with
  | 1 => s.resetPort i
  | 2 => s.resetChan i
  | 4 => s.resetCore i
  | 5 => s.resetEngine i
  | 6 => s.resetLane i
  | 8 => s.resetLink i
  | 9 => s.resetGauge i
  | _ => s

/-- What UNIT_RESET does (R46, R464). (log 127: DEDUCED) -/
def dirUnitReset (d : Dir) (s : State) : State :=
  let kind := d.data / 2 ^ 24
  let i := d.data % 2 ^ 24
  s.dirCheck d (resetKind kind && (kindIndices kind).contains i) fun s => (s.resetUnit kind i).dirDone d 0

/-- UNIT_RESET (R46, R464). -/
def execUnitReset (r : DirReq) (s : State) : Out := .next (s.directive 0x13 r noArgs dirUnitReset)

/-- What the management cores do unasked for the cores (R280, R304, R316, R472): a core in FAULT is reset, and one whose
instruction memory has an uncorrectable word is refreshed once its resources are free. (log 79, 135: DEDUCED) -/
def State.mgmtDuties (s : State) : State :=
  let s := s.each ((s.cores.map (·.1)).filter fun k => s.coreState k == rcFault) fun s k => s.resetUnit 4 k
  let bad := (s.cores.map (·.1)).filter fun k =>
    (s.core k).refresh.isNone && s.on (RC_CTRL.EN k) &&
      (s.core k).memErr.any fun (x : Nat × Nat) => decide (x.1 < 0x4000) && decide (2 ≤ x.2)
  s.each bad fun s k =>
    let b := b2n s.activeCopy
    if (s.holder [(4, k, k), (9, b, b)]).isSome || decide (16 ≤ s.mg.acts.length) then s
    else (s.startRefresh k (s.rd (RC_CTRL.PROG k)) false).2

/-! ## Warm reset (R46, R48, R50, R204, R389) -/

/-- Whether a warm reset keeps the words of a bundle (R48, R204): the loft, retained regions, shared areas (R325).
(log 126: DEDUCED) -/
def State.warmKeeps (s : State) (b : Nat) : Bool :=
  let in_ := fun (base len : Nat) => decide (base ≤ b) && decide (b < base + len)
  decide (loftFirst ≤ b) ||
  (s.shareAreas.any fun a => in_ a.base a.len) ||
  ((s.listed 0x302004 8 1024).any fun (x : Nat × Nat) =>
    s.on (TH_REGION.RETAIN x.1) && in_ (s.rd (TH_REGION.BASE x.1)) (s.rd (TH_REGION_LEN.LEN x.1)))

/-- Whether a writer keeps its write pointer across a warm reset (R204): its own region is retained and in use. -/
def State.warmWriter (s : State) (w : Nat) : Bool := s.on (TH_REGION.RETAIN w) && !s.circular w

/-- The store after a warm reset (R48, R204, R207): no hold, nothing in use, FIFOs empty; `old` is what the writers were
when it began. (log 126: DEDUCED) -/
def State.warmStore (s : State) (old : Tab WriterSt) : State :=
  let writers : Tab WriterSt := old.foldl (fun t (x : Nat × WriterSt) =>
    Tab.set {} t x.1 { seq := x.2.seq, wp := if s.warmWriter x.1 then x.2.wp else 0 }) []
  let keep := (((s.th.words.map fun (x : Nat × Option TWord) => x.1 / 256) ++ s.th.dirty).eraseDups).filter s.warmKeeps
  { s with th := { s.th with
      words := s.th.words.filter fun x => keep.contains (x.1 / 256)
      holds := [], dirty := [], writers := writers, fifos := [], locks := [] } }

/-- Queues, ready lists and flag counts after a warm reset (R48, R263): empty. -/
def State.warmQueues (s : State) : State :=
  let queues : Tab QueueSt := s.queues.foldl (fun t (x : Nat × QueueSt) =>
    Tab.set {} t x.1 { admitted := x.2.admitted && !x.2.retired }) []
  let old := s.queues.map (·.1)
  let s : State := { s with queues := queues, purlins := [] }
  let s := s.each [0, 1] fun s h =>
    let s := s.each (s.listed (Addr.PD_FLAG h 0) 4 256) fun s (x : Nat × Nat) => s.wr (PD_FLAG.COUNT h x.1) 0
    ((s.wr (PD_STATUS.IDLE h) 0).wr (PD_STATUS.LENT_OUT h) 0).wr (PD_STATUS.LENT_IN h) 0
  s.each old State.syncQueue

/-- Open clusters, windows, pending triggers and their MARKs end (R187); primitives that wait are lost at their source
(R48). (log 53: DEDUCED) -/
def State.warmAcq (s : State) : State :=
  let s := s.count PRIM_LOST.N (s.acq.primN.length + s.acq.primS.length)
  { s with acq := { s.acq with
      clusters := [], primN := [], primS := [], store := [], acceptQ := [], accepted := [], marksN := [], marksS := []
      windows := [], ring := [], prims := [], primCourses := [], pushedTo := [] } }

/-- A timing channel in a warm reset (R48, R50): its buffer is discarded and its courses are lost. -/
def State.warmChan (s : State) (c : Nat) : State :=
  let s := s.each (s.chan c).buf fun s e => s.turnAway c e.ts .outOfService
  let x := s.chan c
  let s := s.setChan c { x with
    buf := [], courses := [], windows := [], openUntil := none, admitted := false
    returning := x.admitted || x.returning, lastTake := 0, oosAt := none, recalDue := false }
  (s.wr (TCH_STAT.ACTIVE c) 0).wr (TCH_STAT.MAINT c) 0

/-- A core in a warm reset (R48, R311, R314): its task is lost; a core in service starts again at the next course
boundary. -/
def State.warmCore (s : State) (k : Nat) : State :=
  let s := s.countBusy k
  (s.setCore k { s.core k with task := none }).resetCore k

/-- An engine in a warm reset (R346): its block ends and its contexts are cleared. -/
def State.warmEngine (s : State) (e : Nat) : State :=
  let y := s.engine e
  let was := s.on (SH_STAT.ACTIVE e) || y.returning
  let s := (s.wr (SH_STAT.ACTIVE e) 0).wr (SH_STAT.WAITING e) 0
  s.putEngine e { inRem := y.inRem, outRem := y.outRem, returning := was && !y.leaving }

/-- A Gauge unit in a warm reset (R423): sources off, jobs and courses lost, calibration kept. -/
def State.warmGauge (s : State) (h : Nat) : State :=
  let u := s.unit h
  let was := s.on (GA_STAT.ACTIVE h) || u.returning
  let s := s.setUnit h { u with jobs := [], due := [], courses := [], returning := was, held := 0, skipped := 0 }
  (s.wr (GA_STAT.ACTIVE h) 0).syncBusy h

/-- A lane group in a warm reset (R389): frames not acknowledged are lost, `GSEQ` goes on. -/
def State.warmGroup (s : State) (g : Nat) : State :=
  s.setGroup g { s.group g with frames := [], tasks := [], fwd := [] }

/-- Directives that wait are answered BUSY with the hint of a warm reset (R389). (log 126: DEDUCED) -/
def State.warmDirectives (s : State) (retry : Nat) : State :=
  let dirs := s.mg.dirs
  let waits := s.boot.checks.filterMap fun c => c.answer
  let s : State := { s with
    mg := { s.mg with dirs := [] }
    boot := { s.boot with checks := s.boot.checks.filter fun c => c.answer.isNone } }
  let s := s.each dirs fun s (j : DirJob) => s.respond j.dst j.tag .busy 0 0 retry
  s.each waits.eraseDups fun s (a : ReplyTo × Nat) => s.respond a.1 a.2 .busy 0 0 retry

/-- Both management cores run their ROM alone (R481). (log 129: DEDUCED) -/
def State.dropPatches (s : State) : State :=
  let s : State := { s with mg := { s.mg with patchN := [], patchS := [], noPatches := true } }
  s.each [0, 1] fun s h => (s.wr (MG_PATCH.HOOKS h) 0).wr (MG_PATCH.OFF h) 1

/-- A handover in progress completes before a warm reset acts (R479). -/
def State.finishHandover (s : State) : State :=
  match s.mg.request with
  | 0 => s
  | h + 1 =>
    let s : State := { s with mg := { s.mg with request := 0 } }
    let s := (s.wr MG_STAT.TENURE (h + 1)).wr TN_LATCH.COPIES ((h + 1) * 21)
    ((s.flag MG_EVT.HANDOVER).tally 0x0700).ledgerEvent 0x04 [0, h + 1, (h + 1) * 21]

/-- A warm reset begins (R46, R48, R50, R498, R518): `kind` and `cause` as RST_CAUSE has them. (log 126: DEDUCED) -/
def State.beginWarm (s : State) (kind cause : Nat) : State :=
  let s := s.finishHandover
  let s := s.abortWhere (fun _ => true) .warmReset 2000
  let s := (s.tally 0x0710).ledgerEvent 0x07 [if kind = 4 then 1 else 0]
  let s := if s.on LG_STAT.PFAIL_HOLD then s else (s.commitNow false).wr LG_STAT.WRITING 0
  let s := (s.wr RST_CAUSE.KIND kind).wr RST_CAUSE.FATAL (if kind = 4 then cause else 0)
  let s := s.count RST_CAUSE.WARM
  let s := s.warmDirectives 2000
  let old := s.th.writers
  let s := s.each (s.ports.map (·.1)) State.warmPort
  let s := s.each (s.tch.map (·.1)) State.warmChan
  let s := s.warmAcq
  let s := s.each (s.engines.map (·.1)) State.warmEngine
  let s := s.each (s.cores.map (·.1)) State.warmCore
  let s := s.each [0, 1] State.warmGauge
  let s := s.each (s.groups.map (·.1)) State.warmGroup
  let s := (s.warmQueues.warmStore old).syncPool
  let s := if kind = 4 then s.reloadVoted else s
  let s := if cause = 5 ∧ kind = 4 then s.dropPatches else s
  let s : State := { s with mg := { s.mg with warmKind := kind, dump := none, fatalDue := none } }
  s.wr BOOT_STAT.STAGE 11

/-- What WARM_RESET does (R46, R464). -/
def dirWarmReset (d : Dir) (s : State) : State :=
  s.dirCheck d (d.data == 0x57525354) fun s => (s.dirDone d 0).beginWarm 3 0

/-- WARM_RESET (R46, R464). -/
def execWarmReset (r : DirReq) (s : State) : Out := .next (s.directive 0x12 r noArgs dirWarmReset)

/-- The course that follows the present one (R58): course 0 where an epoch is due at the boundary. (log 126: DEDUCED) -/
def State.courseAfter (s : State) : Nat :=
  let jump : Bool := match s.time.switch with
    | some w => decide (w.at_ ≤ s.nextBoundary)
    | none => false
  if s.time.causes ≠ 0 ∨ jump then 0 else (s.course + 1) % 2 ^ 32

/-- The loft's records that no lane group has released are pushed again under a new DUMP activity (R505).
(log 125: DEDUCED) -/
def State.pushLoft (s : State) : State :=
  if s.mg.loft.isEmpty then s.wr MG_DUMP_STAT.HELD 0
  else
    let s := (s.register 1 [(8, 0, 0)] deviceWide).2
    let s := s.flag MG_DUMP_STAT.HELD
    s.each s.mg.loft fun s d =>
      let s := s.hold d.place
      if s.queueRefuses d.queue then s else s.pushQueue d.queue d s.epoch

/-- WARM_RESET_END (R50, R503, R505): the device returns to RUN, and says so; its units resume at the next course
boundary. (log 126: DEDUCED) -/
def execWarmResetEnd (s : State) : Out :=
  if !s.inWarm then .next s
  else
    let s := s.wr BOOT_STAT.STAGE (if s.running then 9 else 8)
    let kind := s.mg.warmKind
    let s : State := { s with
      mg := { s.mg with
        warmKind := 0, frozen := false, resumeDue := false, fatal := none }
      acq := { s.acq with clusters := [], acceptQ := [], accepted := [], marksN := [], marksS := [], windows := [] } }
    if !s.running then .next s.pushLoft
    else
      let s := s.note 0 Addr.RST_CAUSE 0 .reset deviceWide [kind, s.rd RST_CAUSE.FATAL, s.courseAfter]
      .next (s.pushLoft.ledgerStart)

/-! ## The end of a dump, and recovery (R502, R504) -/

/-- The cores that a dump halted, and that no reset has taken, run on (R504). -/
def State.resumeHalted (s : State) (ks : List Nat) : State :=
  s.each (ks.filter fun k => s.coreState k == rcHalted) State.resumeCore

/-- Recovery from a fatal error (R502, R504): a warm reset, or unit resets after the voted registers are reloaded; intake
resumes at the next course boundary. -/
def State.recover (s : State) (f : Fatality) (halted : List Nat) : State :=
  if f.warm then s.beginWarm 4 f.cause
  else
    let s := s.reloadVoted
    let s := s.each f.units.eraseDups fun s (u : Nat × Nat) => s.resetUnit u.1 u.2
    let s := s.resumeHalted halted
    { s with mg := { s.mg with fatal := none, resumeDue := true } }

/-- DUMP_DONE (R504, R505): the dump stands in the loft and is pushed; a fatal one is followed by recovery.
(log 125: DEDUCED) -/
def execDumpDone (s : State) : Out :=
  match s.mg.dump with
  | none => .next s
  | some d =>
    let s := s.writeDump d
    if !d.fatal then .next s.settle
    else match s.mg.fatal with
      | some f => .next (s.recover f d.halted)
      | none => .next (s.resumeHalted d.halted)

end Sys2Proof.Machine
end

