-- ==== Sys2Proof/Machine/Boundary.lean ====
section
/-! DEFINITION. Course boundaries: epochs, the changes that act at a boundary, and the courses that open
(R12, R31, R44, R45, R54 to R61, R76 to R84, R453, R465). -/

namespace Sys2Proof.Machine

/-! ## Epochs (R56 to R61, R83) -/

/-- The three words of a BREAK record's body (R83). Tc from a calendar second that is not known are not stated.
(log 11, 120: DEDUCED) -/
def State.breakBody (s : State) (prev causes last : Nat) (jump : Int) : List Word × State :=
  let e := s.time.epoch
  let (tc, s) := if s.on LG_CAL.VALID then (min 0xFFFFFFFF ((e.startAt - s.time.calAt) / tcTf), s) else s.draw
  let m := ((e.startAt : Int) + e.a) % (2 ^ 64 : Nat)
  ([mkWord [(0, 64, stamp e.startAt), (64, 64, m.toNat)],
    mkWord [(0, 32, s.rd CAL_SEC.SEC), (32, 32, tc), (64, 16, prev), (80, 8, causes), (88, 5, e.n),
      (93, 1, b2n (decide (e.grid0 ≠ e.startAt))), (94, 1, b2n s.holdover), (95, 1, b2n s.unalignedNow),
      (96, 32, last)],
    mkWord [(0, 64, ofSigned 64 jump)]], s)

/-- An epoch starts (R58 to R61, R493): it is counted, noted and entered in the ledger. The body of the BREAK records
that open its streams is answered too. The last course of a power-up before this one is not stated. -/
def State.startEpoch (s : State) (e : EpochRec) (prev causes : Nat) (jump : Int) : List Word × State :=
  let (last, s) := if s.time.epoch.num = 0 then s.draw else (s.course, s)
  let past := if s.time.epoch.num = 0 then s.time.past else s.time.epoch :: s.time.past
  let s : State := { s with
    time := { s.time with
      epoch := e, past := past, a := e.a, nextA := none, causes := 0, courseAt := e.startAt }
    acq := { s.acq with seq := [] } }
  let s := ((s.wr EPOCH.CUR e.num).wr COURSE.CUR 0).setSwitch none
  let s := s.countEpoch e.num
  let (body, s) := s.breakBody prev causes last jump
  let m := ((e.startAt : Int) + e.a) % (2 ^ 64 : Nat)
  let s := s.ledgerEvent 0x01 ([e.num, causes] ++ pair64 (stamp e.startAt : Nat) ++ pair64 m)
  (body, s)

/-- The NOTE of an epoch that has started (R61). -/
def State.epochNote (s : State) : State := s.note 0 Addr.EPOCH 0 .event deviceWide []

/-- In epoch 0xFFFF no further epoch starts (R60): the causes are entered in the ledger and noted, and every record is
flagged from then on. -/
def State.noEpoch (s : State) (causes : Nat) : State :=
  let s := s.ledgerEvent 0x0B [causes]
  let s := s.note 0 Addr.EPOCH 0 .event deviceWide [causes]
  ({ s with time := { s.time with exhausted := true, causes := 0, nextA := none } }).setSwitch none

/-- The causes that may still start an epoch: from epoch 0xFF00 on a course-length change, a realignment and a
compensation change start none (R60). (log 16: DEDUCED) -/
def State.epochCauses (s : State) (causes : Nat) : Nat :=
  if 0xFF00 ≤ s.epoch then Nat.land causes 0x57 else causes

/-- Whether the coarse count reaches 2^54 − 2^24 in the course from `a` to `b` (R54). -/
def coarseWrap (a b : Nat) : Bool := (a / tcTf + 2 ^ 24) / 2 ^ 54 != (b / tcTf + 2 ^ 24) / 2 ^ 54

/-! ## Profile switches (R45, R60, R79, R460, R461) -/

/-- Whether the boundary at `at_` is also one of courses of 2^n Tc (R45). -/
def State.commonBoundary (s : State) (at_ n : Nat) : Bool :=
  ((at_ : Int) + s.time.epoch.coarse) % ((2 ^ n * tcTf : Nat) : Int) == 0

/-- The pending profile switch is over (R460, R461). -/
def State.endSwitch (s : State) : State :=
  let s : State := { s with boot := { s.boot with pendProf := none } }
  (s.wr PROF_STAT.SWITCH_PEND 0).wr PROF_STAT.PEND 0

/-- A profile's course length cannot change from epoch 0xFF00 on (R60, R456). -/
def State.lengthRule (s : State) (p : Nat) : Option Bad :=
  if (s.prof p).expN ≠ s.time.epoch.n ∧ 0xFF00 ≤ s.epoch then some ⟨12, p, 0xA2, s.epoch⟩ else none

/-- The pending profile switch at the boundary `at_`: whether it acts there, and the state with it checked again and made
(R453, R460). One that changes the course length waits for a common boundary, and makes a time switch that is still to
come wait for one too (R45, R79). (log 108: DEDUCED) -/
def State.profileAt (s : State) (at_ : Nat) : Bool × State :=
  match s.boot.pendProf with
  | none => (false, s)
  | some (p, earliest) =>
    let n := (s.prof p).expN
    if p = s.rd PROF_STAT.CUR then (false, if at_ < earliest then s else s.endSwitch)
    else if at_ < earliest ∨ (n ≠ s.time.epoch.n ∧ !s.commonBoundary at_ n) then (false, s)
    else
      let later : Option Switch := s.time.switch.filter fun w => decide (at_ < w.at_)
      match later with
      | some w =>
        if n ≠ s.time.epoch.n then
          let both : EpochRec := { s.time.epoch with n := max n s.time.epoch.n }
          let len : Int := both.len
          let t := ((((w.at_ : Int) + both.coarse + len - 1) / len) * len - both.coarse).toNat
          (false, s.setSwitch (some { w with at_ := t }))
        else
          match s.profileFits p true with
          | some b => (false, s.endSwitch.refuseBad b)
          | none => (true, s.endSwitch.switchProfile p)
      | none =>
        match s.lengthRule p <|> s.profileFits p true with
        | some b => (false, s.endSwitch.refuseBad b)
        | none => (true, s.endSwitch.switchProfile p)

/-! ## Register changes that wait for the boundary (R12, R109, R186, R199, R421) -/

/-- The writers of an acquisition group's sources. -/
def State.groupWriters (s : State) (g : Nat) : List Nat :=
  (s.groupSources 0 g ++ s.groupSources 1 g).map (·.1)

/-- Every register written since the last boundary takes effect at `at_`. -/
def State.takeStaged (s : State) (at_ : Nat) : State :=
  let old := s.staged.map (·.1)
  let was := (List.range 16).filter fun g => s.effOn (ACQ_CTRL.MODE g)
  let t : State := { s with staged := [] }
  let turned := (List.range 16).filter fun g => was.contains g != t.effOn (ACQ_CTRL.MODE g)
  let t := t.each turned fun t g =>
    let t := if was.contains g then (t.ringLeave 0 g).ringLeave 1 g else t
    t.each (s.groupWriters g) fun t w => t.setWriter w { t.writer w with wp := 0 }
  let t := t.each ((List.range 96).filter fun c => old.contains (Addr.TCH_THR c)) fun t c =>
    t.setChan c { t.chan c with settleUntil := at_ + 512 * tcTf }
  t.each [0, 1] fun t h => t.each ((List.range 16).filter fun j => old.contains (Addr.GA_IN_B h j)) fun t j =>
    t.syncIexc h j

/-! ## Admissions and retirements (R453, R465) -/

/-- Queues of a queue group (R242). -/
def groupQueues (j : Nat) : List Nat := (List.range 64).map fun i => 64 * j + i

/-- A channel is retired at a boundary (R109): the course that ends there is its last. -/
def State.chanOut (s : State) (c : Nat) : State :=
  let x := s.chan c
  let courses := match x.courses.reverse with
    | r :: rs => rs.reverse ++ [({ r with final := x.admitted } : TchCourse)]
    | [] => []
  (s.setChan c { x with courses := courses, admitted := false, returning := false }).wr (TCH_STAT.ACTIVE c) 0

/-- A core is retired at a boundary, or meets the boundary of its refresh (R312, R313, R316). -/
def State.coreLeave (s : State) (k : Nat) : State :=
  let st := s.coreState k
  let c := s.core k
  if st = rcIdle then s.coreOut k
  else if st = rcRunning ∧ c.task.isSome then (s.setCore k { c with leaving := true }).setCoreState k rcDraining
  else if st = rcRunning ∨ st = rcHalted then s.setCore k { c with leaving := true }
  else if st = rcStopped ∧ c.refresh.isSome then s.setCoreState k rcLoading
  else s.setCore k { c with restartDue := false }

/-- A core is admitted at a boundary (R312, R313). -/
def State.coreIn (s : State) (k : Nat) : State :=
  let st := s.coreState k
  if st = rcStopped ∨ st = rcPoweredDown then s.coreStart k
  else s.setCore k { s.core k with leaving := false }

/-- One checked change acts (R45, R146, R260, R313, R345, R364, R394, R421, R453). -/
def State.applyChange (s : State) (c : Change) : State :=
  let i := c.index
  match c.kind with
  | 1 => if c.enable then s else s.portRetire i
  | 2 => if c.enable then s.setChan i { s.chan i with returning := true } else s.chanOut i
  | 3 =>
    s.each (groupQueues i) fun s q =>
      let x := s.queue q
      let y : QueueSt := if c.enable then { x with admitted := true, retired := false, last := none }
        else { x with retired := true, retireAt := s.time.courseAt }
      (s.setQueue q y).syncQueue q
  | 4 => if c.enable then s.coreIn i else s.coreLeave i
  | 5 => if c.enable then s.engineIn i else s.engineOut i
  | 6 => s.laneWake i
  | 7 => s.setGroup i { s.group i with admitted := c.enable }
  | 8 => s.hipWake i
  | 9 => if c.enable then s.setUnit i { s.unit i with returning := true } else s.gaugeOut i
  | 10 =>
    if !c.enable then s.retireInput (i / 32) (i % 32)
    else if s.on (GA_STAT.ACTIVE (i / 32)) then s.admitInput (i / 32) (i % 32)
    else s
  | _ => s

/-- A change that a profile switch of the same boundary rules out is refused, and its bit goes back (R453).
(log 108: DEDUCED) -/
def State.recheck (s : State) (c : Change) : Bool × State :=
  match s.decideUnit c.kind c.index c.enable with
  | none => (true, s)
  | some b =>
    let s := match enableField c.kind c.index with
      | some f => s.wr f (b2n (!c.enable))
      | none => s
    (false, s.refuseBad b)

/-- An admission of a port that waits for its link is judged like a change (R145, R453). -/
def State.recheckPort (s : State) (p : Nat) : State :=
  match s.decideUnit 1 p true with
  | none => s
  | some b => ((s.wr (EV_STAT.ADMIT_PEND p) 0).wr (EV_CTRL.EN p) 0).refuseBad b

/-- The changes that wait act, in the order of R465: retirements, admissions, lane changes. (log 14: DESIGN CHOICE) -/
def State.takeChanges (s : State) (switched : Bool) : State :=
  let cs := s.boot.changes
  let s : State := { s with boot := { s.boot with changes := [] } }
  let lane := fun (c : Change) => c.kind == 6 || c.kind == 7
  let order := cs.filter (fun c => !lane c && !c.enable) ++ cs.filter (fun c => !lane c && c.enable) ++ cs.filter lane
  let s := if switched then
      s.each (s.enabledPorts.filter fun p => s.on (EV_STAT.ADMIT_PEND p)) State.recheckPort
    else s
  s.each order fun s c =>
    if switched then
      match s.recheck c with
      | (true, s) => s.applyChange c
      | (false, s) => s
    else s.applyChange c

/-! ## Courses open -/

/-- The ports that a boundary concerns. -/
def State.portList (s : State) : List Nat := (s.ports.map (·.1) ++ s.enabledPorts).eraseDups

/-- A channel at a boundary (R99, R100, R106, R109): outages are booked, service begins where it is due, and the course
opens. -/
def State.chanBoundary (s : State) (c : Nat) (fresh : Bool) (brk : List Word) : State :=
  let s := (s.bookOutage c).recalLeave c
  let x := s.chan c
  let start := x.returning || fresh
  let s := if x.returning then
      (s.setChan c { x with returning := false, admitted := true }).wr (TCH_STAT.ACTIVE c) (b2n x.oosAt.isNone)
    else s
  if !(s.chan c).admitted then s
  else
    let k := s.keyNow
    let open_ := (s.chan c).courses.any fun r => r.epoch == keyEpoch k && r.course == keyCourse k
    if open_ then
      let mark := fun (r : TchCourse) =>
        if r.epoch = keyEpoch k ∧ r.course = keyCourse k then { r with start := r.start || start } else r
      s.setChan c { s.chan c with courses := (s.chan c).courses.map mark }
    else s.openTimes c k start brk

/-- A Gauge unit at a boundary (R419, R421, R423). A unit that is being calibrated returns after it. -/
def State.gaugeBoundary (s : State) (h : Nat) (fresh : Bool) (brk : List Word) : State :=
  let start := ((s.unit h).returning && !s.fullCal h) || fresh
  let s := if (s.unit h).returning && !s.fullCal h then
      (s.setUnit h { s.unit h with returning := false }).gaugeIn h
    else s
  if s.on (GA_STAT.ACTIVE h) then s.openGauge h s.keyNow start brk else s

/-- A core at a boundary (R312, R316): one that was reset or loaded starts, one to be refreshed leaves. -/
def State.coreBoundary (s : State) (k : Nat) : State :=
  let c := s.core k
  if c.restartDue && s.on (RC_CTRL.EN k) then
    (s.setCore k { c with restartDue := false }).coreStart k
  else if c.refresh.isSome && !c.leaving && s.coreState k != rcLoading then s.coreLeave k
  else s

/-- Every unit meets the boundary: service begins and courses open (R31). `fresh` flags every course as a start. -/
def State.openCourses (s : State) (fresh : Bool) (brk : List Word) : State :=
  let s := s.each ((List.range 16).filter fun g => s.effOn (ACQ_CTRL.MODE g)) fun s g =>
    s.ringsOpen g (s.acq.ring.length + 1)
  let s := s.each (s.tch.map (·.1)) fun s c => s.chanBoundary c fresh brk
  let s := s.each s.portList fun s p =>
    let s := s.portBoundary p brk
    if fresh && s.evState p == evActive then
      let x := s.port p
      let courses := match x.courses.reverse with
        | c :: cs => cs.reverse ++ [({ c with start := true } : PortCourse)]
        | [] => []
      s.setPort p { x with courses := courses }
    else s
  let s := s.each [0, 1] fun s h => s.gaugeBoundary h fresh brk
  if s.effOn TRG_CTRL.PRIMS_COPY then
    { s with acq := { s.acq with primCourses := s.acq.primCourses ++ [(0, s.keyNow), (1, s.keyNow)] } }
  else s

/-- The boundary itself at the units that keep no courses: cores, engines, lane groups and the tree (R312, R346, R364,
R385). -/
def State.unitsBoundary (s : State) : State :=
  let s := s.each (s.cores.map (·.1)) State.coreBoundary
  let s := s.each ((s.engines.map (·.1)).filter fun e => (s.engine e).returning) State.engineIn
  let s := s.each (List.range 16) State.laneBoundary
  s.treeDue

/-- While the device is frozen only COURSE commands go out (R128, R503). -/
def State.frozenBoundary (s : State) : State :=
  s.each (s.portList.filter s.evUp) fun s p => s.dlCourse p s.course

/-! ## The boundary (R57) -/

/-- The number of the course that begins, and its start. -/
def State.nextCourse (s : State) (at_ : Nat) : State :=
  let s : State := { s with time := { s.time with courseAt := at_ } }
  (s.wr COURSE.CUR ((s.course + 1) % 2 ^ 32)).renewNotes

/-- What a boundary at `at_` makes of the epoch: the BREAK records' body, empty where no epoch starts (R54 to R61, R76,
R84). `comp` is the change of `FL_COMP` that takes effect. (log 16: DEDUCED) -/
def State.epochAtBoundary (s : State) (at_ : Nat) (comp : Int) : List Word × State :=
  let s := if coarseWrap s.time.courseAt at_ then s.cause 6 else s
  let sw : Option Switch := s.time.switch.filter fun w => decide (w.at_ ≤ at_)
  let jumps := (sw.map (·.cause)).getD 0
  let due := Nat.lor s.time.causes jumps
  -- R77: a switch made late carries its bit 5 in every epoch it starts
  let causes := Nat.lor (s.epochCauses s.time.causes) jumps
  if due = 0 then ([], s.nextCourse at_)
  else if s.epoch = 0xFFFF then ([], (s.nextCourse at_).noEpoch due)
  else if causes = 0 then
    let s : State := { s with time := { s.time with exhausted := true, causes := 0, nextA := none } }
    ([], s.nextCourse at_)
  else
    let base := match sw with
      | some w => w.newA
      | none => s.time.nextA.getD s.time.a
    let comp := if bitAt causes 7 then comp else 0
    let newA := toSigned 64 (ofSigned 64 (base + comp))
    let jump : Int := match sw with
      | some w => w.jump
      | none => 0
    -- R60: a cause left out of the epoch keeps A, and its records are flagged
    let s : State := if causes = due then s else { s with time := { s.time with exhausted := true } }
    let prev := s.epoch
    let e : EpochRec :=
      { num := prev + 1, startAt := at_, a := newA, n := s.rd PROF_STAT.N, back := decide (jump < 0) }
    let (body, s) := s.renewNotes.startEpoch e prev causes jump
    (body, s.epochNote)

/-- What follows the course count at a boundary (R31, R453, R465, R503): changes act, units meet the boundary, courses
open, and waiting work goes on. -/
def State.finishBoundary (s : State) (switched : Bool) (brk : List Word) : State :=
  let s := (s.takeChanges switched).unitsBoundary
  let fresh := s.mg.resumeDue
  let s : State := if fresh then { s with mg := { s.mg with frozen := false, resumeDue := false } } else s
  let s := if s.mg.frozen then s.frozenBoundary else s.openCourses fresh brk
  s.mgmtDuties.ledgerStart.settle.holdAll

/-- COURSE_BOUNDARY (R12, R31, R45, R57 to R61, R79, R453, R465): device time plus A reaches the next grid point. In a
warm reset only the course is counted (R50). (log 21: DESIGN CHOICE) -/
def execCourseBoundary (s : State) : Out :=
  if !s.running then .next s
  else
    let at_ := s.boundaryFrom (s.time.courseAt + 1)
    let s := s.advance at_
    if s.inWarm then .next ((s.nextCourse at_).treeDue)
    else
      let s := match s.mg.fatalDue with
        | some f => ({ s with mg := { s.mg with fatal := some f, fatalDue := none } } : State).freezeNow
        | none => s
      let comp := (s.flComp : Int)
      let s := s.takeStaged at_
      let comp := (s.flComp : Int) - comp
      let s : State := { s with time := { s.time with
        synA := if s.rd TIME_CFG.SOURCE = 0 then s.time.synA.map (· + comp) else s.time.synA } }
      let (switched, s) := s.profileAt at_
      let (brk, s) := s.epochAtBoundary at_ comp
      .next (s.finishBoundary switched brk)

end Sys2Proof.Machine
end

