-- ==== Sys2Proof/Machine/Startup.lean ====
section
/-! DEFINITION. Start-up: the PLL's lock, the image, RESCUE, CONFIG and RUN; enable checks at run time, admissions by
directive, and requests for a profile (R66, R69, R74, R443 to R449, R451 to R453, R459 to R465, R468). -/

namespace Sys2Proof.Machine

/-! ## The PLL and the headers (R443 to R445) -/

/-- What the header of a copy tells: its SEQ, 0 where it is invalid, and its error (R443, R444, R470). -/
def State.takeHead (s : State) (b : Bool) : State :=
  let put := fun (s : State) (seq err sect : Nat) =>
    if b then ((s.wr IMG_B.SEQ seq).wr IMG_B_ERR.ERR err).wr IMG_B_ERR.SECTION sect
    else ((s.wr IMG_A.SEQ seq).wr IMG_A_ERR.ERR err).wr IMG_A_ERR.SECTION sect
  match s.copyHead b with
  | .ok h => put s h.seq 0 0
  | .error e => put s 0 e.1 e.2

/-- Both headers are read; what they name is read in full next (R443, R445). -/
def State.readHeads (s : State) : State := ((s.takeHead false).takeHead true).wr BOOT_STAT.STAGE 3

/-- PLL_LOCK (R49, R445): device time starts at 0, the ledger is read, and then the headers. (log 6, 10, 11: DEDUCED) -/
def execPllLock (s : State) : Out :=
  if !s.released || !s.pins.refOk || s.time.runs || s.rd BOOT_STAT.STAGE != 0 then .next s
  else
    let s : State := { s with
      time := { s.time with runs := true, d := 0 }
      th := { s.th with words := [] }
      pins := { s.pins with answered := true } }
    let s := (s.flag TIME_STAT.PLL_LOCK).readLedger
    .next ((s.wr EPOCH.CUR s.mg.firstEpoch).readHeads)

/-! ## Management cores start (R48, R445) -/

/-- The management cores start, and MC-N takes tenure (R445, R475). -/
def State.startMgmt (s : State) : State :=
  let s : State := { s with mg := { s.mg with beatAt := Tab.set 0 (Tab.set 0 [] 0 s.now) 1 s.now } }
  let s := (s.wr MG_STAT.MCN_ALIVE 1).wr MG_STAT.MCS_ALIVE 1
  (s.wr MG_STAT.TENURE 1).wr TN_LATCH.COPIES 21

/-- A node that starts has no neighbour: it stands alone in its tree (R385). (log 97: DEDUCED) -/
def State.startTree (s : State) : State :=
  let s : State := { s with tree := {} }
  let c := s.treeChoice
  let s := (s.wr TREE_STAT.ROOT c.root).wr TREE_STAT.DIST c.dist
  ((s.wr TREE_STAT.PARENT c.parent).wr TREE_STAT.IS_ROOT (b2n c.isRoot)).syncRoles

/-- The registers of a copy's outcome (R444). -/
def State.setImgErr (s : State) (b : Bool) (err sect : Nat) : State :=
  if b then (s.wr IMG_B_ERR.ERR err).wr IMG_B_ERR.SECTION sect
  else (s.wr IMG_A_ERR.ERR err).wr IMG_A_ERR.SECTION sect

/-! ## RESCUE (R449) -/

/-- Registers that RESCUE sets, and what they take: lanes 0 and 16 as Ridge-10 of groups 0 and 8, the eight Hip links and
the tree (R449). (log 106: DEDUCED) -/
def State.rescueFields (s : State) : List (Field × Nat) :=
  [(NODE_ID.ID, 0xFE00 + s.rd STRAP.NODE), (HIP_CFG.ROOT_PRIO, 15), (HIP_CFG.MAXDEPTH, 255),
    (HIP_PREF.L, 0x76543210)] ++
  ([(0, 0), (16, 8)].flatMap fun (x : Nat × Nat) =>
    [(RG_LANE_CTRL.EN x.1, 1), (RG_LANE_CTRL.GEN x.1, 0), (RG_EQ.E x.1, 0), (RG_GRP_CTRL.EN x.2, 1),
      (RG_GRP_CTRL.LANES x.2, 1), (RG_GRP_CFG.FRAG x.2, 64), (RG_GRP_CFG.FILL x.2, 128), (RG_GRP_WIN.WINDOW x.2, 16)]) ++
  (List.range 8).map fun l => (HIP_CTRL.EN l, 1)

/-- The lanes, groups and links that are enabled start (R360, R364, R383, R445). -/
def State.wakeLinks (s : State) : State :=
  let s := s.each (List.range 16) fun s g => s.setGroup g { s.group g with admitted := s.on (RG_GRP_CTRL.EN g) }
  let s := s.each (List.range 32) State.laneWake
  s.each (List.range 8) State.hipWake

/-- The device enters RESCUE (R443, R449). (log 10, 106: DEDUCED) -/
def State.enterRescue (s : State) : State :=
  let s := s.each s.rescueFields fun s x => s.wr x.1 x.2
  let s : State := { s with pins := { s.pins with applied := true } }
  (s.startMgmt.startTree.wakeLinks).wr BOOT_STAT.STAGE 10

/-- RESCUE is left: its fixed configuration ends, and start-up is repeated from the header read (R449).
(log 106: DEDUCED) -/
def State.leaveRescue (s : State) : State :=
  let s := s.each s.rescueFields fun s x => s.setReg x.1.addr (regReset x.1.addr)
  let s : State := { s with pins := { s.pins with applied := false } }
  s.wakeLinks.readHeads

/-! ## The copies (R443, R444, R451) -/

/-- What is done with a copy that the check passes: its links train and its ports listen (R445, R134). -/
def State.startUnits (s : State) : State :=
  let s := s.wakeLinks
  s.each ((List.range 512).filter fun p => s.on (EV_CTRL.PRESENT p)) State.evWake

/-- The candidates are tried in their order: a copy is applied and checked, and where RUN is refused cleared again
(R443, R444). Answers whether one is in force. -/
def applyFirst : List (Bool × Image) → State → Bool × State
  | [], s => (false, s)
  | (b, im) :: rest, s =>
    let t := ((s.applyImage b im).startMgmt).startTree
    match t.checkAll with
    | (t, true) =>
      let t := t.setImgErr b 0 0
      (true, t.each rest fun t x => t.setImgErr x.1 0x0A 0)
    | (t, false) => applyFirst rest ((t.clearImage im).setImgErr b 9 0)

/-- IMAGE_READ_DONE (R443 to R445, R449, R451): the copies are judged, the first candidate that passes the check is in
force, and RESCUE is entered where none does. (log 6, 10: DEDUCED) -/
def execImageReadDone (s : State) : Out :=
  if s.rd BOOT_STAT.STAGE ≠ 3 then .next s
  else
    let read := fun (b : Bool) => s.copyImage b
    let errs := [false, true].filterMap fun b => match read b with
      | .error e => some (b, e)
      | .ok _ => none
    let good := [false, true].filterMap fun b => match read b with
      | .ok im => some (b, im)
      | .error _ => none
    let ranked := match good with
      | [x, y] => if x.2.head.seq < y.2.head.seq then [y, x] else [x, y]
      | xs => xs
    let s := s.each errs fun s (x : Bool × ImgErr) => s.setImgErr x.1 x.2.1 x.2.2
    match applyFirst ranked s with
    | (true, s) => .next (((s.tally 0x0107 errs.length).startUnits).wr BOOT_STAT.STAGE 6)
    | (false, s) => .next ((s.tally 0x0127 errs.length).enterRescue)

/-! ## RUN (R446, R448) -/

/-- A as the node's source gives it when the device enters RUN, and whether it is provisional (R66, R74, R446). -/
def State.firstA (s : State) : Int × Bool :=
  match s.rd TIME_CFG.SOURCE with
  | 0 => (s.time.synA.getD 0, false)
  | 1 => if s.time.everAligned && decide (256 ≤ s.time.exch.length) then (s.meanA, false) else (0, true)
  | _ => (0, false)

/-- A FLASHING-timed node waits for its time code before RUN (R445). (log 25: DEDUCED) -/
def State.timeReady (s : State) : Bool :=
  s.rd TIME_CFG.SOURCE != 0 || (s.on TIME_STAT.SYN_LOCK && s.time.synA.isSome)

/-- The first epoch of the power-up begins, on a coarse tick (R58, R60, R446, R493).
(log 11: DEDUCED; 15: DESIGN CHOICE) -/
def State.firstBreak (s : State) : List Word × State :=
  let (a, provisional) := s.firstA
  let t := ceilTick s.now
  let s := s.advance t
  let s := if provisional then s else s.flag TIME_STAT.ALIGNED
  let s : State := { s with time := { s.time with
    unaligned := provisional, exhausted := s.mg.prevEpoch == 0xFFFF } }
  let e : EpochRec := { num := s.mg.firstEpoch, startAt := t, a := a, n := s.rd PROF_STAT.N }
  s.startEpoch e s.mg.prevEpoch 1 0

/-- A unit admitted at start-up enters service at RUN (R446). -/
def State.enterUnit (s : State) (kind i : Nat) : State :=
  if kind = 1 then s.portPassed i else s.applyChange ⟨kind, i, true⟩

/-- What the ledger's read has to say, once a NOTE can be written (R492). (log 15: DESIGN CHOICE; 119: DEDUCED) -/
def State.startNotes (s : State) : State :=
  let s := if s.on LG_STAT.LOST then s.noteBit 0 LG_STAT.LOST deviceWide else s
  if s.on LG_STAT.EPOCH_UNSURE then s.noteBit 0 LG_STAT.EPOCH_UNSURE deviceWide else s

/-- RUN begins (R446): every admitted unit enters service, and course 0 of the first epoch opens, its streams with the
BREAK body `brk`. (log 15: DESIGN CHOICE; 24: DEDUCED) -/
def State.beginRun (s : State) (brk : List Word) : State :=
  let s : State := { s with boot := { s.boot with runAt := s.now }, mg := { s.mg with commitAt := s.now } }
  let us := [3, 5, 4, 9, 2, 1].flatMap fun kind => (s.unitsOn kind).map fun i => (kind, i)
  let s := s.each us fun s (u : Nat × Nat) => s.enterUnit u.1 u.2
  let s := s.each (List.range 16) State.laneBoundary
  let s := (s.openCourses true brk).startNotes.epochNote
  (s.mgmtDuties.ledgerStart).settle

/-- The device enters RUN (R446): the first epoch starts, and RUN begins. (log 25: DEDUCED) -/
def State.enterRun (s : State) : State :=
  let (brk, s) := ((s.wr GLOBAL_CTRL.RUN 1).wr BOOT_STAT.STAGE 9).firstBreak
  s.beginRun brk

/-- STARTUP_CALIBRATION_DONE (R106, R407, R445): what the calibrations measured is in force, and the device goes on to
RUN, or to CONFIG where GLOBAL `RUN` is 0 (R448). (log 6: DEDUCED; 13: DESIGN CHOICE) -/
def execStartupCalibrationDone (chans : List ChanCal) (units : List UnitCal) (s : State) : Out :=
  if s.rd BOOT_STAT.STAGE ≠ 6 then .next s
  else
    let s := s.each chans State.applyChanCal
    let s := s.each units State.applyUnitCal
    let s : State := { s with boot := { s.boot with calibrated := true } }
    .next (s.wr BOOT_STAT.STAGE (if s.boot.runFlag then 7 else 8))

/-- RUN_ENTRY (R446). (log 6: DEDUCED) -/
def execRunEntry (s : State) : Out :=
  .next (if s.rd BOOT_STAT.STAGE = 7 ∧ s.timeReady then s.enterRun else s)

/-- A write of GLOBAL_CTRL (R448): 1 in CONFIG checks every enable bit again and enters RUN; anything else is ignored.
(log 25: DEDUCED) -/
def writeRun (data : Nat) (s : State) : Status × State :=
  if data % 2 = 0 ∨ s.rd BOOT_STAT.STAGE ≠ 8 then (.ignored, s)
  else match s.checkAll with
    | (t, false) => (.done, t.wakeLinks)
    | (t, true) =>
      let t := t.wakeLinks
      (.done, if t.timeReady then t.enterRun else t.wr BOOT_STAT.STAGE 7)

/-- RUN_WRITE (R448). -/
def execRunWrite (path : Path) (data : U32) (s : State) : Out := s.writeRow path Addr.GLOBAL_CTRL (writeRun data.toNat)

/-! ## The end of a relay (R468) -/

/-- RELAY_VERIFIED (R449, R468): page 0 is programmed and read back; in RESCUE a relay that passes repeats start-up.
(log 112: DEDUCED) -/
def execRelayVerified (programmed : Bool) (s : State) : Out :=
  let was := s.rescue
  let (ok, s) := s.relayVerified programmed
  .next (if ok && was then s.leaveRescue else s)

/-! ## Checks at run time (R451 to R453) -/

/-- A change of a unit waits for its boundary; one that undoes a change still waiting takes it away (R453). -/
def State.addChange (s : State) (kind i : Nat) (on : Bool) : State :=
  let undo := fun (c : Change) => c.kind == kind && c.index == i && c.enable != on
  let cs := s.boot.changes
  let cs := if cs.any undo then cs.filter fun c => !undo c else cs ++ [⟨kind, i, on⟩]
  { s with boot := { s.boot with changes := cs } }

/-- What follows at once where the device has no courses: links, lanes and ports (R364, R383, R448). -/
def State.wakeUnit (s : State) (kind i : Nat) (on : Bool) : State :=
  match kind with
  | 1 => s.evWake i
  | 6 => s.laneWake i
  | 7 => s.setGroup i { s.group i with admitted := on }
  | 8 => s.hipWake i
  | _ => s

/-- A check has passed: the enable bit takes its value, and the change waits for the boundary that the unit's chapter
names (R145, R175, R453). (log 54: DEDUCED) -/
def State.passUnit (s : State) (kind i : Nat) (on : Bool) : State :=
  match enableField kind i with
  | none => s
  | some f =>
    if kind = 11 ∧ s.running then
      s.stage f.addr (BitVec.ofNat 32 (setBits (s.reg f.addr).toNat f.lo f.w (b2n on)))
    else
      let s := s.wr f (b2n on)
      if !s.running then s.wakeUnit kind i on
      else if kind = 12 ∨ kind = 11 then s
      else if kind = 1 ∧ on then (s.portPassed i).evWake i
      else s.addChange kind i on

/-- Units of a group, in order, each judged against the ones before: the first refusal, or none (R464). -/
def groupBad (kind : Nat) (on : Bool) : List Nat → State → Option Bad
  | [], _ => none
  | i :: is, s =>
    match enableField kind i with
    | none => groupBad kind on is s
    | some f =>
      if s.rd f = b2n on then groupBad kind on is s
      else match s.decideUnit kind i on with
        | some b => some b
        | none => groupBad kind on is (s.wr f (b2n on))

/-- The check of an enable write is done: it passes, or it is refused and the bit keeps its value (R452, R453).
(log 14: DESIGN CHOICE; 70: DEDUCED) -/
def State.checkOne (s : State) (c : Check) : State :=
  match s.decideUnit c.kind c.index c.enable with
  | some b => s.refuseBad b
  | none => s.passUnit c.kind c.index c.enable

/-- The check of an ADMIT or RETIRE directive is done (R463, R464). -/
def State.checkGroup (s : State) (c : Check) (dst : ReplyTo) (tag : Nat) : State :=
  let is := (List.range c.count).map (c.index + ·)
  match groupBad c.kind c.enable is s with
  | some b =>
    (s.refuseBad b).respond dst tag .refused (unitId b.kind b.index) (b.reason % 256 + b.detail % 2 ^ 16 * 256)
  | none =>
    let t := s.each (is.filter fun i => (enableField c.kind i).any fun f => s.rd f != b2n c.enable) fun s i =>
      s.passUnit c.kind i c.enable
    t.respond dst tag .done (if s.running then s.courseAfter else 0) 0

/-- CONSISTENCY_CHECK_DONE (R453): the check that waits longest is done. (log 14: DESIGN CHOICE; 70: DEDUCED) -/
def execConsistencyCheckDone (s : State) : Out :=
  match s.boot.checks with
  | [] => .next s
  | c :: rest =>
    if s.inWarm then .next s
    else
      let s : State := { s with boot := { s.boot with checks := rest } }
      match c.answer with
      | none => .next (s.checkOne c)
      | some (dst, tag) => .next (s.checkGroup c dst tag)

/-- What ADMIT and RETIRE do (R464): the run of units is checked as one group. -/
def dirAdmit (on : Bool) (d : Dir) (s : State) : State :=
  let kind := d.data / 2 ^ 24
  let first := d.data % 2 ^ 24
  let n := wfield (d.arg 0) 0 16
  let ok := decide (1 ≤ n) && decide (n ≤ 512) && decide (wfield (d.arg 0) 16 112 = 0) && kind != 0 &&
    (List.range n).all fun i => (enableField kind (first + i)).isSome
  s.dirCheck d ok fun s =>
    let c : Check := { kind := kind, index := first, enable := on, answer := some (d.dst, d.tag), count := n }
    { s with boot := { s.boot with checks := s.boot.checks ++ [c] } }

/-- ADMIT (R464). -/
def execAdmitUnit (r : DirReq) (s : State) : Out := .next (s.directive 0x04 r (· == 1) (dirAdmit true))

/-- RETIRE (R464). -/
def execRetire (r : DirReq) (s : State) : Out := .next (s.directive 0x05 r (· == 1) (dirAdmit false))

/-- Each bit of an enable field that a write changes, or that a check still waits on, has its check queued (R453). -/
def State.reqBits (s : State) (kind n old data : Nat) : State :=
  let waits := fun (i : Nat) => s.boot.checks.any fun c => c.kind == kind && c.index == i
  let cs := ((List.range n).filter fun i => bitAt data i != bitAt old i || waits i).map fun i =>
    ({ kind := kind, index := i, enable := bitAt data i } : Check)
  { s with boot := { s.boot with checks := s.boot.checks ++ cs } }

/-- A write of PROF_CTRL (R459): each bit that changes is checked. (log 54, 70: DEDUCED) -/
def writeProfCtrl (data : Nat) (s : State) : Status × State :=
  (.done, s.reqBits 12 4 (s.rd PROF_CTRL.EN) data)

/-- PROF_EN_WRITE (R459). -/
def execProfEnWrite (path : Path) (data : U32) (s : State) : Out :=
  s.writeRow path Addr.PROF_CTRL (writeProfCtrl data.toNat)

/-- A write of TRG_CTRL (R175, R192, R451): each source bit that changes is checked, the other fields are written.
(log 54, 70: DEDUCED) -/
def writeTrgCtrl (data : Nat) (s : State) : Status × State :=
  let old := s.rd TRG_CTRL.SRC_EN
  let (_, s) := s.codeWrite Addr.TRG_CTRL (setBits data 0 5 old)
  (.done, s.reqBits 11 5 old data)

/-- TRG_SRC_EN_WRITE (R451). -/
def execTrgSrcEnWrite (path : Path) (data : U32) (s : State) : Out :=
  s.writeRow path Addr.TRG_CTRL (writeTrgCtrl data.toNat)

/-! ## Requests for a profile (R69, R460 to R462) -/

/-- Why a switch to profile `p` is refused when it is asked for, if it is (R45, R60, R69, R460). -/
def State.profileBad (s : State) (p : Nat) : Option Bad :=
  if !s.unitOn 12 p || !(s.prof p).present then some ⟨12, p, 0xA3, p⟩
  else s.lengthRule p <|> s.profileFits p true

/-- A switch to profile `p` not before `earliest` is pending; it replaces one that was (R460, R461).
(log 107: DEDUCED) -/
def State.pendProfile (s : State) (p earliest : Nat) : State :=
  match s.boot.pendProf with
  | none =>
    if p = s.rd PROF_STAT.CUR then s
    else
      let s : State := { s with boot := { s.boot with pendProf := some (p, earliest) } }
      (s.wr PROF_STAT.SWITCH_PEND 1).wr PROF_STAT.PEND p
  | some _ =>
    let s : State := { s with boot := { s.boot with pendProf := some (p, earliest) } }
    ((s.wr PROF_STAT.SWITCH_PEND 1).wr PROF_STAT.PEND p).event 0 PROF_STAT.REPLACED (unitId 12 p)

/-- A request for a profile, acting not before `at_` (R460): its refusal, or the state in which it is pending.
(log 107: DEDUCED) -/
def State.requestProfile (s : State) (p at_ : Nat) : Option Bad × State :=
  match s.profileBad p with
  | some b => (some b, s)
  | none => (none, s.pendProfile p (max at_ (s.now + usTf 1)))

/-- The course at whose start the pending switch acts, counted in the epoch in force: on a boundary common to both
lengths where the switch changes `N` (R45, R460, R463). -/
def State.switchCourse (s : State) : Nat :=
  match s.boot.pendProf with
  | none => 0
  | some (p, earliest) =>
    let e := s.time.epoch
    let n := if p = s.rd PROF_STAT.CUR then e.n else max e.n (s.prof p).expN
    let len : Int := 2 ^ n * tcTf
    let at_ := ((((earliest : Int) + e.coarse + len - 1) / len) * len - e.coarse).toNat
    keyCourse (s.keyAt (at_ - 1) + 1)

/-- Start of the course that a directive names: the one of that number nearest to now (R58, R460). (log 20: DEDUCED) -/
def State.namedStart (s : State) (c : Nat) : Nat :=
  let ahead := (c + 2 ^ 32 - s.course) % 2 ^ 32
  if ahead = 0 ∨ 2 ^ 31 ≤ ahead then 0 else s.keyStart (s.keyNow + ahead)

/-- What PROFILE does (R460, R463, R464). (log 20, 107: DEDUCED) -/
def dirProfile (d : Dir) (s : State) : State :=
  let p := bits d.data 0 2
  let given := bitAt d.data 31
  s.dirCheck d (bits d.data 2 29 == 0 && given == (d.args.length == 1) && decide (wfield (d.arg 0) 32 96 = 0)) fun s =>
    if !s.running then s.dirWrong d Addr.GLOBAL_CTRL
    else
      match s.requestProfile p (if given then s.namedStart (wfield (d.arg 0) 0 32) else 0) with
      | (some b, s) => s.dirRefused d b.kind b.index b.reason b.detail
      | (none, s) => s.dirDone d s.switchCourse

/-- PROFILE (R460). -/
def execProfile (r : DirReq) (s : State) : Out :=
  .next (s.directive 0x01 r (fun n => decide (n ≤ 1)) dirProfile)

/-- PROFILE_WORD (R69): a switch not before the word's action time, where FL_PROFILE honours it. (log 107: DEDUCED) -/
def execProfileWord (w : U32) (dRx : U64) (s : State) : Out :=
  if trgKind w.toNat ≠ .profile ∨ !s.on TIME_CFG.FL_PROFILE then .next s.badTrg
  else if !s.running then .next s
  else
    match s.requestProfile (bits w.toNat 24 2) (ceilTick (s.trgAct dRx)) with
    | (some b, s) => .next (s.refuseBad b)
    | (none, s) => .next s

/-- PROFILE_SCHEDULE (R462): entry `i` falls due: each day at its second, or once after its seconds from RUN.
(log 107: DEDUCED) -/
def execProfileSchedule (i : Fin 8) (s : State) : Out :=
  let v := s.boot.sched.getD i.val 0
  let secs := bits v.toNat 4 28
  let last := Tab.get 0 s.boot.schedDone i.val
  let ask := fun (s : State) (mark : Nat) =>
    let s : State := { s with boot := { s.boot with schedDone := Tab.set 0 s.boot.schedDone i.val mark } }
    match s.requestProfile (bits v.toNat 0 2) 0 with
    | (some b, s) => s.refuseBad b
    | (none, s) => s
  if !s.running || s.inWarm then .next s
  else if schedKind v = 1 then
    let sec := s.rd CAL_SEC.SEC
    .next (if s.on LG_CAL.VALID ∧ sec % 86400 = secs ∧ last ≠ sec + 1 then ask s (sec + 1) else s)
  else if schedKind v = 2 ∧ last = 0 then
    .next (ask (s.advance (s.boot.runAt + secs * usTf 1000000)) 1)
  else .next s

end Sys2Proof.Machine
end

