-- ==== Sys2Proof/Machine/Stewardship.lean ====
section
/-! DEFINITION. Management cores: heartbeats, tenure, deferrals, patches and the maintenance schedule
(R51, R473 to R482, R497, R502). -/

namespace Sys2Proof.Machine

/-! ## Heartbeats (R474, R478) -/

/-- The bit that shows a core's heartbeat running (R507). -/
def aliveBit (h : Nat) : Field := if h = 0 then MG_STAT.MCN_ALIVE else MG_STAT.MCS_ALIVE

/-- The management cores have been started (R445). -/
def State.mgmtUp (s : State) : Bool := s.time.runs && s.pins.applied

/-- The latch's three copies and its majority name half `h`'s core (R475). -/
def State.setTenure (s : State) (h : Nat) : State := (s.wr MG_STAT.TENURE (h + 1)).wr TN_LATCH.COPIES ((h + 1) * 21)

/-- Whether half `h`'s core holds tenure. -/
def State.hasTenure (s : State) (h : Nat) : Bool := s.rd MG_STAT.TENURE == h + 1

/-- MC_HEARTBEAT (R474): the latch sees it; a running heartbeat comes every 1 ms. (log 115: DEDUCED) -/
def execMcHeartbeat (h : Half) (s : State) : Out :=
  if !s.mgmtUp then .next s
  else
    let s := if s.on (aliveBit h.val) then s.advance (Tab.get 0 s.mg.beatAt h.val + usTf 1000) else s
    let s : State := { s with mg := { s.mg with beatAt := Tab.set 0 s.mg.beatAt h.val s.now } }
    .next (s.flag (aliveBit h.val))

/-- The watchdog resets a management core; the second time within 1 s it restarts without patches (R474, R481).
(log 115, 127: DEDUCED) -/
def State.watchdog (s : State) (h : Nat) : State :=
  let last := Tab.get 0 s.mg.wdogAt h
  let twice := last != 0 && decide (s.now < last - 1 + usTf 1000000)
  let s : State := { s with mg := { s.mg with wdogAt := Tab.set 0 s.mg.wdogAt h (s.now + 1) } }
  let s := s.flag MG_EVT.WATCHDOG
  if !twice then s
  else
    let s : State := { s with mg := if h = 0 then { s.mg with patchN := [] } else { s.mg with patchS := [] } }
    (s.wr (MG_PATCH.HOOKS h) 0).wr (MG_PATCH.OFF h) 1

/-- Tenure passes without a grant to half `h`'s core; the old holder's shared work ends (R478, R498).
(log 115: DEDUCED) -/
def State.takeover (s : State) (h : Nat) : State :=
  let s : State := { s with mg := { s.mg with request := 0 } }
  let s := (((s.setTenure h).flag MG_EVT.TAKEOVER).tally 0x0701).ledgerEvent 0x04 [1, h + 1, (h + 1) * 21]
  (s.warmDirectives 1000).abortWhere Activity.firmware .takeover 1000

/-- HEARTBEAT_SILENCE (R51, R474, R478, R479, R502): 3 ms after the last heartbeat the core is stopped. The other core
takes its tenure and the watchdog resets it; where both are stopped the error is fatal, and no reset acts.
(log 115: DEDUCED) -/
def execHeartbeatSilence (h : Half) (s : State) : Out :=
  let h := h.val
  if !s.mgmtUp || !s.on (aliveBit h) then .next s
  else
    let s := s.advance (Tab.get 0 s.mg.beatAt h + usTf 3000)
    let s := s.wr (aliveBit h) 0
    if s.on (aliveBit (1 - h)) then
      let s := if s.hasTenure h then s.takeover (1 - h) else s
      .next (s.watchdog h)
    else
      .next (s.fatality { cause := 5, unit := 0, addr := Addr.MG_STAT, immediate := true })

/-! ## Tenure (R475 to R479) -/

/-- Half `h`'s core asks for tenure (R477); a request by the holder is ignored (R479). -/
def State.askTenure (s : State) (h : Nat) : State :=
  if s.hasTenure h || s.mg.request != 0 then s
  else { s with mg := { s.mg with request := h + 1, requestAt := s.now } }

/-- The half of a management core's access path. -/
def pathHalf : Path → Option Nat
  | .mcN => some 0
  | .mcS => some 1
  | _ => none

/-- A write of TN_CTRL (R477, R512): both fields are the management cores'. A grant acts before a request of the same
write. (log 116: DEDUCED) -/
def writeTnCtrl (path : Path) (data : Nat) (s : State) : Status × State :=
  s.mgmtOnly path (bits data 0 2 != 0) fun s =>
    match pathHalf path with
    | none => (.done, s)
    | some h =>
      let s := if bitAt data 1 ∧ s.hasTenure h then s.finishHandover else s
      (.done, if bitAt data 0 then s.askTenure h else s)

/-- TN_REQ (R477). -/
def execTnReq (path : Path) (data : U32) (s : State) : Out := s.writeRow path Addr.TN_CTRL (writeTnCtrl path data.toNat)

/-- TN_GRANT (R477). -/
def execTnGrant (path : Path) (data : U32) (s : State) : Out := s.writeRow path Addr.TN_CTRL (writeTnCtrl path data.toNat)

/-- TENURE_REQ_TIMEOUT (R477): 2 ms without a grant. -/
def execTenureReqTimeout (s : State) : Out :=
  if s.mg.request = 0 then .next s
  else
    let s := s.advance (s.mg.requestAt + usTf 2000)
    let s : State := { s with mg := { s.mg with request := 0 } }
    .next (s.event 0 MG_EVT.REQ_WITHDRAWN deviceWide)

/-- The owner that two of three copies agree on (R475). (log 116: DEDUCED) -/
def latchMajority (copies : Nat) : Option Nat :=
  let a := bits copies 0 2
  let b := bits copies 2 2
  let c := bits copies 4 2
  if a = b ∨ a = c then some a else if b = c then some b else none

/-- No valid majority: the latch is set by rule, and the dispute reported (R475). (log 116: DEDUCED) -/
def State.dispute (s : State) : State :=
  let h := if s.on MG_STAT.MCN_ALIVE then 0 else 1
  let s := s.setTenure h
  let s : State := if s.mg.request = h + 1 then { s with mg := { s.mg with request := 0 } } else s
  ((s.event 0 MG_EVT.DISPUTE deviceWide).tally 0x0702).ledgerEvent 0x04 [2, h + 1, (h + 1) * 21]

/-- TENURE_DISPUTE (R475): the copies as upset. A valid majority repairs the third copy; else the latch is set by rule. -/
def execTenureDispute (copies : BitVec 6) (s : State) : Out :=
  if !s.mgmtUp then .next s
  else
    match latchMajority copies.toNat with
    | some v =>
      if v = 3 then .next s.dispute
      else if copies.toNat = v * 21 then .next s
      else .next (((s.wr MG_STAT.TENURE v).wr TN_LATCH.COPIES (v * 21)).tally 0x0102)
    | none => .next s.dispute

/-- What TENURE_MOVE does (R464, R477). (log 116: DEDUCED) -/
def dirTenureMove (d : Dir) (s : State) : State :=
  s.dirCheck d (decide (d.data ≤ 1)) fun s =>
    if s.hasTenure d.data then s.dirDone d 0
    else if !s.on (aliveBit d.data) then s.dirWrong d Addr.MG_STAT
    else (s.askTenure d.data).dirDone d 0

/-- TENURE_MOVE (R477). -/
def execTenureMove (r : DirReq) (s : State) : Out := .next (s.directive 0x14 r noArgs dirTenureMove)

/-! ## Deferrals (R473) -/

/-- MC_DEFERRAL (R473): an item of levels 1 to 4 waits beyond its limit; it is noted once per level in 100 ms.
(log 117: DEDUCED) -/
def execMcDeferral (h : Half) (level : Fin 5) (s : State) : Out :=
  let l := level.val
  if !s.mgmtUp || l == 0 then .next s
  else
    let s := (s.count (MG_DEFER.N l)).flag MG_EVT.SATURATED
    let last := Tab.get 0 s.mg.satAt l
    if last ≠ 0 ∧ s.now < last - 1 + usTf 100000 then .next s
    else
      let s : State := { s with mg := { s.mg with satAt := Tab.set 0 s.mg.satAt l (s.now + 1) } }
      .next (s.note h.val (Addr.MG_DEFER l) 0 .saturation deviceWide [])

/-! ## Patches (R480 to R482) -/

/-- The patch RAM of half `h`'s core becomes `m`. -/
def State.setPatchRam (s : State) (h : Nat) (m : List Host.Cell) : State :=
  { s with mg := if h = 0 then { s.mg with patchN := m } else { s.mg with patchS := m } }

/-- A write of MG_PATCH_D (R482): ignored while MG_PATCH_A names the tenure holder. -/
def writePatchD (data : Nat) (s : State) : Status × State :=
  let h := s.rd MG_PATCH_A.CORE
  if s.hasTenure h then (.ignored, s)
  else (.done, s.setPatchRam h (memStore (s.patchRam h) (s.rd MG_PATCH_A.A / 4 * 4) 4 data))

/-- MG_PATCH_D_WRITE (R482). -/
def execMgPatchDWrite (path : Path) (data : U32) (s : State) : Out :=
  s.writeRow path Addr.MG_PATCH_D (writePatchD data.toNat)

/-- The patch that stands in a patch RAM from its first byte: head, hooks and code (R480, R482).
(log 4: PRESUMED; 104: DEDUCED) -/
def State.patchBytes (s : State) (h : Nat) : List Nat :=
  let byte := fun (i : Nat) => memLoad (s.patchRam h) i 1
  let head := (List.range 16).map byte
  (List.range (min 32768 (16 + 8 * leAt head 6 2 + leAt head 8 4))).map byte

/-- A write of MG_PATCH_CTRL (R480, R482): ignored where it names the tenure holder. (log 104: DEDUCED) -/
def writePatchCtrl (data : Nat) (s : State) : Status × State :=
  let h := bits data 1 1
  if !bitAt data 0 then (.done, s)
  else if s.hasTenure h then (.ignored, s)
  else
    let b := s.patchBytes h
    if patchOk b then (.done, s.patchCore h b)
    else (.done, (s.flag MG_EVT.PATCH_FAIL).wr (MG_PATCH.HOOKS h) 0)

/-- MG_PATCH_APPLY (R482). (log 127: DEDUCED) -/
def execMgPatchApply (path : Path) (data : U32) (s : State) : Out :=
  s.writeRow path Addr.MG_PATCH_CTRL (writePatchCtrl data.toNat)

/-! ## The maintenance schedule (R497) -/

/-- A retrain is asked for by the schedule (R548). -/
def State.startRetrain (s : State) (unit : Nat) : Grant × State :=
  let kind := unit / 2 ^ 24
  let i := unit % 2 ^ 24
  match retrainUnit kind i with
  | none => s.regRefused 0xE0 (i % 2 ^ 16)
  | some (res, _, _) =>
    if !s.canRetrain kind i then s.regRefused 0xE0 (i % 2 ^ 16)
    else match s.register 5 [res] unit with
      | (.id n, s) => (.id n, s.retrain kind i)
      | g => g

/-- A compaction is asked for by the schedule (R489, R495). (log 122: DEDUCED) -/
def State.startCompact (s : State) : Grant × State :=
  match s.register 8 [(10, 0, 0)] deviceWide with
  | (.id n, s) => (.id n, s.askBase.ledgerStart)
  | g => g

/-- The activity of a schedule entry is asked for, with the entry's `ARG` as its directive's `DATA` (R464, R497, R508).
A relay takes arguments that an entry does not have. (log 121: DEDUCED) -/
def State.startSched (s : State) (code arg : Nat) : Grant × State :=
  match code with
  | 1 => s.startDump false
  | 2 => match s.startMigration arg with
    | some g => g
    | none => ((s.sparesOut arg).regRefused 0xE0 (arg % 2 ^ 16))
  | 4 => s.startRefresh (bits arg 0 6) (bits arg 6 4) (bitAt arg 10)
  | 5 => s.startRetrain arg
  | 6 => s.startRecal arg
  | 7 => if arg < 2 then s.startFullCal arg else s.regRefused 0xE0 (arg % 2 ^ 16)
  | 8 => s.startCompact
  | 9 => if arg = 0 then s.startScrub 0 (storeWords - 1) else s.regRefused 0xE0 (arg % 2 ^ 16)
  | _ => s.regRefused 0xE0 (arg % 2 ^ 16)

/-- MAINT_SCHEDULE (R497): entry `i` falls due, or is tried again 1 s after a refusal; at its next due time it is skipped.
Periods are counted from RUN. (log 121: DEDUCED) -/
def execMaintSchedule (i : Fin 16) (s : State) : Out :=
  let i := i.val
  if !s.running || s.inWarm || !s.on (MT_SCHED_A.EN i) then .next s
  else
    let second := usTf 1000000
    let period := max 1 (s.rd (MT_SCHED_A.PERIOD i)) * second
    let kept := Tab.get 0 s.mg.schedAt i
    let due := if kept = 0 then s.boot.runAt + period else kept - 1
    let s := s.advance due
    let next := s.boot.runAt + ((due - s.boot.runAt) / period + 1) * period
    let plan := fun (s : State) (t : Nat) =>
      ({ s with mg := { s.mg with schedAt := Tab.set 0 s.mg.schedAt i (t + 1) } } : State)
    let code := s.rd (MT_SCHED_A.CODE i)
    match s.startSched code (s.rd (MT_SCHED_B.ARG i)) with
    | (.id _, s) => .next (plan s next)
    | (.refused reason detail, s) =>
      let s := s.refuse 0x0E (code * 4096) reason detail
      if due + second < next then .next (plan s (due + second))
      else .next (plan ((s.count MT_SKIPPED.N).flag MT_EVT.SKIPPED) next)

end Sys2Proof.Machine
end

