-- ==== Sys2Proof/Machine/Access.lean ====
section
/-! DEFINITION. Register accesses on every path: each address's own meaning, control transactions, and requests that come
over the Hip tree (R12, R18, R109, R158, R186, R237, R368 to R375, R386, R421, R463, R464, R509 to R516). -/

namespace Sys2Proof.Machine

/-! ## Writes (R12, R18, R509 to R512) -/

/-- Families of registers whose run-time writes wait for the next course boundary: first address, stride, count
(R12, R109, R158, R186, R421, and what R12 lays down of all else that is taken in, kept, processed or sent).
(log 109: DEDUCED) -/
def courseFamilies : List (Nat × Nat × Nat) :=
  [(Addr.TCH_WIN 0, 0x100, 96), (Addr.TCH_WINCLS 0, 0x100, 96), (Addr.TCH_NOTE 0, 0x100, 96),
    (Addr.EV_TIME 0, 0x100, 512), (Addr.EV_TRG 0, 0x100, 512), (Addr.EV_FIFO 0, 0x100, 512),
    (Addr.EV_QUEUE 0, 0x100, 512), (Addr.EV_CLOSE 0, 0x100, 512), (Addr.RD_DB 0, 0x100, 512),
    (Addr.RD_PR 0, 0x100, 512), (Addr.PR_TIMING, 4, 1), (Addr.TRG_PQ, 4, 1), (Addr.PR_GRP 0, 4, 128),
    (Addr.DEC_COND 0, 0x20, 16), (Addr.DEC_SUM 0, 0x20, 16), (Addr.DEC_WIN 0, 0x20, 16), (Addr.DEC_DELAY 0, 0x20, 16),
    (Addr.DEC_PRESC 0, 0x20, 16), (Addr.DEC_HOLD 0, 0x20, 16), (Addr.TRG_AUTO 0, 0x20, 16),
    (Addr.ACQ_CTRL 0, 0x40, 16), (Addr.ACQ_PRE 0, 0x40, 16), (Addr.ACQ_POST 0, 0x40, 16), (Addr.ACQ_MQ 0, 0x40, 16),
    (Addr.PQ_CFG 0, 16, 16384), (Addr.PQ_LIM 0, 16, 16384), (Addr.PD_LEND 0, 0x800, 2), (Addr.PD_DRAIN 0, 0x800, 2),
    (Addr.PD_CLASS_MAP 0 0, 4, 16), (Addr.PD_CLASS_MAP 1 0, 4, 16), (Addr.SH_EFFORT, 4, 1),
    (Addr.SH_KEYED 0, 4, 64), (Addr.SH_QCFG 0, 8, 16384), (Addr.SH_QCFG_OUTQ 0, 8, 16384),
    (Addr.RG_GRP_CFG 0, 0x40, 16), (Addr.RG_GRP_WIN 0, 0x40, 16), (Addr.RG_GRP_FWD 0, 0x40, 16), (Addr.NT_CFG, 4, 1),
    (Addr.GA_Q 0, 0x4000, 2), (Addr.GA_IN_P 0 0, 0x20, 28), (Addr.GA_IN_P 1 0, 0x20, 28),
    (Addr.GA_COEF 0 0, 4, 128), (Addr.GA_COEF 1 0, 4, 128)]

/-- Whether a run-time write of the register waits for the next course boundary (R12). (log 109: DEDUCED) -/
def courseScoped (a : Nat) : Bool := courseFamilies.any fun f => inFamily a f.1 f.2.1 f.2.2

/-- A write of TCH_ACQ (R186): `GROUP` only while the channel is disabled, `PGRP` at the next boundary.
(log 134: DEDUCED) -/
def writeTchAcq (c data : Nat) (s : State) : Status × State :=
  let a := Addr.TCH_ACQ c
  let v := if s.on (TCH_CTRL.EN c) then setBits data 0 4 (s.rd (TCH_ACQ.GROUP c)) else data
  s.codeStage a v

/-- A write of MG_EVT (R20, R521): the freeze sets `FATAL` again. -/
def writeMgEvt (data : Nat) (s : State) : Status × State :=
  let (st, s) := s.codeWrite Addr.MG_EVT data
  (st, s.holdFatal)

/-- A write of HIP_CFG (R384): the tree is judged again. -/
def writeHipCfg (data : Nat) (s : State) : Status × State :=
  let (st, s) := s.codeWrite Addr.HIP_CFG data
  (st, s.treeChanged)

/-- A write by the access codes, which waits for the next boundary where the register is course-scoped (R12, R18). -/
def writePlain (a data : Nat) (s : State) : Status × State :=
  if courseScoped a then s.codeStage a data else s.codeWrite a data

/-- The single registers with a meaning of their own. -/
def oneWriter (p : Path) (a data : Nat) : Option (State → Status × State) :=
  if a = Addr.GLOBAL_CTRL then some (writeRun data)
  else if a = Addr.PROF_CTRL then some (writeProfCtrl data)
  else if a = Addr.TRG_CTRL then some (writeTrgCtrl data)
  else if a = Addr.FL_COMP then some (writeFlComp data)
  else if a = Addr.SH_FLUSH then some (writeShFlush data)
  else if a = Addr.TH_SCRUB_CTRL then some (writeScrubCtrl p data)
  else if a = Addr.TH_MIG_CTRL then some (writeMigCtrl p data)
  else if a = Addr.TN_CTRL then some (writeTnCtrl p data)
  else if a = Addr.MG_PATCH_D then some (writePatchD data)
  else if a = Addr.MG_PATCH_CTRL then some (writePatchCtrl data)
  else if a = Addr.MG_EVT then some (writeMgEvt data)
  else if a = Addr.HIP_CFG then some (writeHipCfg data)
  else none

/-- A family of registers with a meaning of its own: first address, stride, count, and the meaning by index. -/
abbrev FamilyWriter := Nat × Nat × Nat × (Nat → State → Status × State)

/-- A core, from its number. -/
def coreOf (k : Nat) : Core := ⟨k % 64, Nat.mod_lt _ (by decide)⟩

/-- The families of registers with a meaning of their own. -/
def familyWriters (p : Path) (a data : Nat) : List FamilyWriter :=
  [(Addr.EV_CTRL 0, 0x100, 512, fun i => writeEvCtrl i data),
    (Addr.EV_EQ_LO 0, 0x100, 512, fun i => writeEvEq i a data),
    (Addr.EV_EQ_HI 0, 0x100, 512, fun i => writeEvEq i a data),
    (Addr.EV_PAT_CTRL 0, 0x100, 512, fun i => writePatCtrl i data),
    (Addr.RD_CTRL 0, 0x100, 512, fun i => writeRdCtrl i data),
    (Addr.TCH_CTRL 0, 0x100, 96, fun i => writeTchCtrl i data),
    (Addr.TCH_THR 0, 0x100, 96, fun i => writeTchThr i data),
    (Addr.TCH_HOLD 0, 0x100, 96, fun i => writeTchHold i data),
    (Addr.TCH_ALIGN 0, 0x100, 96, fun i => writeTchOff i a data),
    (Addr.TCH_QUEUE 0, 0x100, 96, fun i => writeTchOff i a data),
    (Addr.ST_CTRL 0, 0x100, 96, fun i => writeStCtrl i data),
    (Addr.TCH_ACQ 0, 4, 96, fun i => writeTchAcq i data),
    (Addr.TH_WEIGHT_N 0, 4, 12, fun i => writeWeight 0 i data),
    (Addr.TH_WEIGHT_S 0, 4, 12, fun i => writeWeight 1 i data),
    (Addr.PD_QGEN 0, 4, 256, fun i => writeQgen i data),
    (Addr.PD_FLAG_SET 0, 0x800, 2, fun i => writeFlagSet i data),
    (Addr.RC_CTRL 0, 0x1000, 64, fun i => writeRcCtrl i data),
    (Addr.DBG_CTRL 0, 0x1000, 64, fun i => writeDbgCtrl (coreOf i) data),
    (Addr.DBG_ACC 0, 0x1000, 64, fun i => writeDbgAcc p i data),
    (Addr.RC_MEMD 0, 0x1000, 64, fun i => writeMemD i data),
    (Addr.SH_CTRL 0, 0x100, 32, fun i => writeShCtrl i data),
    (Addr.RG_LANE_CTRL 0, 0x100, 32, fun i => writeLaneCtrl i data),
    (Addr.RG_GRP_CTRL 0, 0x40, 16, fun i => writeGrpCtrl i data),
    (Addr.HIP_CTRL 0, 0x100, 8, fun i => writeHipCtrl i data),
    (Addr.GA_CTRL 0, 0x4000, 2, fun i => writeGaCtrl i data),
    (Addr.GA_CFG 0, 0x4000, 2, fun i => writeGaCfg i data),
    (Addr.GA_URGENT 0, 0x4000, 2, fun i => writeUrgent p i data),
    (Addr.GA_FULLCAL 0, 0x4000, 2, fun i => writeFullcal p i data),
    (Addr.GA_IN_A 0 0, 0x20, 28, fun i => writeGaInA 0 i data),
    (Addr.GA_IN_A 1 0, 0x20, 28, fun i => writeGaInA 1 i data),
    (Addr.GA_IN_B 0 0, 0x20, 28, fun i => writeGaInB 0 i data),
    (Addr.GA_IN_B 1 0, 0x20, 28, fun i => writeGaInB 1 i data)]

/-- What a write of `data` to the register at `a` does once its path has let it through. -/
def regWriter (p : Path) (a data : Nat) : State → Status × State :=
  match oneWriter p a data with
  | some w => w
  | none =>
    match (familyWriters p a data).find? fun f => inFamily a f.1 f.2.1 f.2.2.1 with
    | some f => f.2.2.2 (unitOf a f.1 f.2.1)
    | none => writePlain a data

/-- Whether a byte address is that of a quarter in the word window (R237, R513). (log 63: DEDUCED) -/
def inWindow (a : Nat) : Bool :=
  decide (0x10000000 ≤ a) && decide (a < 0x10000000 + 16 * storeWords) && a % 4 == 0

/-- A write on a path: of a register, or of a quarter of a word through the window (R237, R511, R513).
(log 63: DEDUCED) -/
def State.writeAddr (s : State) (p : Path) (a data : Nat) : Status × State :=
  if inWindow a then
    if s.pins.answered then writeWindow p ((a - 0x10000000) / 16) (a / 4 % 4) data s else (.ignored, s)
  else s.writeAs p a (regWriter p a data)

/-- A read on a path: of a register, or of a quarter of a word through the window (R237, R511, R513).
(log 63: DEDUCED) -/
def State.readAddr (s : State) (p : Path) (consume : Bool) (a : Nat) : (Status × Nat) × State :=
  if inWindow a then
    if s.pins.answered then readWindow p ((a - 0x10000000) / 16) (a / 4 % 4) s else ((.ignored, 0), s)
  else s.readReg p consume a

/-- REGISTER_WRITE (R18): a write of the register at `addr`, aligned to four bytes (R513). -/
def execRegisterWrite (path : Path) (addr data : U32) (s : State) : Out :=
  .next (if addr.toNat % 4 = 0 then (s.writeAddr path addr.toNat data.toNat).2 else s)

/-! ## Control transactions on registers (R370, R375, R515) -/

/-- A register operation is answered: the value of one that is done or met poison, and the address of any that is not
done (R375). -/
def State.answerReg (s : State) (dst : ReplyTo) (tag addr : Nat) (st : Status) (v : Nat) : State :=
  match st with
  | .done => s.respond dst tag .done v 0
  | .poison => s.respond dst tag .poison v addr
  | .busy => s.respond dst tag .busy 0 0 2000
  | st => s.respond dst tag st 0 addr

/-- READ (R370): a consume read. (log 130: DEDUCED) -/
def State.ctRead (s : State) (dst : ReplyTo) (tag addr : Nat) : State :=
  let ((st, v), s) := s.readAddr .ridge true addr
  s.answerReg dst tag addr st v

/-- WRITE (R370): a write returns no value. (log 130: DEDUCED) -/
def State.ctWrite (s : State) (dst : ReplyTo) (tag addr data : Nat) : State :=
  let (st, s) := s.writeAddr .ridge addr data
  s.answerReg dst tag addr st 0

/-- What an RMW writes to a register that read `old` (R370, R515): under the mask for fields that a 1 acts on, merged
for all others. (log 130: DEDUCED) -/
def rmwValue (a old data mask : Nat) : Nat :=
  let rows := ((regAt a).map (·.rows)).getD []
  let acts := Nat.lor (codeMask rows .w1c) (codeMask rows .wo)
  let merged := Nat.lor (Nat.land old (Nat.xor mask (2 ^ 32 - 1))) (Nat.land data mask)
  Nat.lor (Nat.land (Nat.land data mask) acts) (Nat.land merged (Nat.xor acts (2 ^ 32 - 1)))

/-- RMW (R370, R515): a consume read and a write in one; one that is turned away changes nothing (R371, R512).
(log 130: DEDUCED) -/
def State.ctRmw (s : State) (dst : ReplyTo) (tag addr data mask : Nat) : State :=
  let ((st, old), t) := s.readAddr .ridge true addr
  match st with
  | .done | .poison =>
    let v := rmwValue addr old data mask
    let (st', t) := t.writeAddr .ridge addr v
    match st' with
    | .done => t.answerReg dst tag addr st old
    | .ignored => t.answerReg dst tag addr .ignored 0
    | _ =>
      let (st', s) := s.writeAddr .ridge addr v
      s.answerReg dst tag addr st' 0
  | st => t.answerReg dst tag addr st 0

/-- PING (R370). -/
def State.ctPing (s : State) (dst : ReplyTo) (tag : Nat) : State :=
  s.respond dst tag .done (s.reg Addr.IDENT).toNat (s.rd NODE_ID.ID)

/-! ## Directives by code (R463, R464) -/

/-- Argument words that a directive takes, and what it does (R464). (log 94: DEDUCED) -/
def dirOf (code : Nat) : Option ((Nat → Bool) × (Dir → State → State)) :=
  match code with
  | 0x01 => some (fun n => decide (n ≤ 1), dirProfile)
  | 0x02 => some (fun n => n == 1, dirSetTime)
  | 0x03 => some (fun n => decide (n ≤ 1), dirTrigger)
  | 0x04 => some (fun n => n == 1, dirAdmit true)
  | 0x05 => some (fun n => n == 1, dirAdmit false)
  | 0x06 => some (noArgs, fun d s => s.dirLaneSpare d)
  | 0x07 => some (noArgs, fun d s => s.dirLaneReturn d)
  | 0x08 => some (noArgs, dirCoreRefresh)
  | 0x09 => some (fun n => n == 1, dirScrub)
  | 0x0A => some (noArgs, dirTimingRecal)
  | 0x0B => some (noArgs, dirGaugeCal)
  | 0x0C => some (noArgs, dirGaugeUrgent)
  | 0x0D => some (noArgs, dirLinkRetrain)
  | 0x0E => some (noArgs, dirBankMigrate)
  | 0x0F => some (noArgs, dirLedgerCompact)
  | 0x10 => some (noArgs, dirDump)
  | 0x11 => some (noArgs, dirMaintAbort)
  | 0x12 => some (noArgs, dirWarmReset)
  | 0x13 => some (noArgs, dirUnitReset)
  | 0x14 => some (noArgs, dirTenureMove)
  | 0x15 => some (fun n => n == 1, dirRelayOpen)
  | 0x16 => some (fun n => decide (1 ≤ n) && decide (n ≤ 16), dirRelayWrite)
  | 0x17 => some (noArgs, dirRelayClose)
  | 0x18 => some (noArgs, dirRelayCancel)
  | _ => none

/-- A directive is executed at this node, by its code; any other code completes BAD_REQUEST (R463, R464). -/
def State.runCode (s : State) (d : Dir) : State :=
  match dirOf d.code with
  | some (argw, body) => s.runDir d argw body
  | none => s.runDir d (fun _ => false) fun _ s => s

/-! ## A request as it stands in its frame (R369, R370) -/

/-- Whether a request's `ARGW` and reserved fields are as its operation asks (R369, R370). -/
def requestOk (w0 : Word) (args : List Word) : Bool :=
  let op := wfield w0 32 4
  let relay := op == 4 || op == 5 || op == 6
  wfield w0 36 4 == 0 && wfield w0 45 3 == 0 && wfield w0 57 7 == 0 && wfield w0 40 5 == args.length &&
    (relay || wfield w0 48 9 == 0) &&
    match op with
    | 1 | 2 => args.isEmpty && wfield w0 64 32 % 4 == 0
    | 3 => args.length == 1 && wfield w0 64 32 % 4 == 0 && decide (wfield (args.headD 0) 32 96 = 0)
    | 4 | 5 => args.isEmpty
    | 6 => args.length == 1 && decide (wfield (args.headD 0) 32 96 = 0)
    | 8 => decide (args.length ≤ 16)
    | 9 => args.isEmpty
    | _ => false

/-- A request is executed at the node it names (R370). -/
def State.runRequest (s : State) (dst : ReplyTo) (w0 : Word) (args : List Word) : State :=
  let tag := wfield w0 0 16
  let addr := wfield w0 64 32
  let data := wfield w0 96 32
  let mask := wfield (args.headD 0) 0 32
  if !requestOk w0 args then s.respond dst tag .badRequest 0 (wfield w0 32 32)
  else match wfield w0 32 4 with
    | 1 => s.ctRead dst tag addr
    | 2 => s.ctWrite dst tag addr data
    | 3 => s.ctRmw dst tag addr data mask
    | 8 => s.runCode ⟨addr % 2 ^ 16, dst, tag, data, args⟩
    | 9 => s.ctPing dst tag
    | op =>
      s.takeRelay (wfield w0 48 9)
        { tag := tag, dst := dst, op := op - 3, addr := addr % 2 ^ 24, data := data, mask := mask }

/-- A request arrives on a lane, and is executed here or routed (R368, R373). -/
def State.request (s : State) (lane : Nat) (w0 : Word) (args : List Word) : State :=
  match s.arrive lane (wfield w0 0 16) (wfield w0 16 16) (w0 :: args) with
  | .gone s => s
  | .here dst s => s.runRequest dst w0 args

/-- Word 0 of a request (R369). -/
def reqWord (tag target op argw addr data : Nat) : Word :=
  mkWord [(0, 16, tag), (16, 16, target), (32, 4, op), (40, 5, argw), (64, 32, addr), (96, 32, data)]

/-- CT_READ (R370). -/
def execCtRead (lane : Lane) (tag target : BitVec 16) (addr : U32) (s : State) : Out :=
  .next (s.request lane (reqWord tag.toNat target.toNat 1 0 addr.toNat 0) [])

/-- CT_WRITE (R370). -/
def execCtWrite (lane : Lane) (tag target : BitVec 16) (addr data : U32) (s : State) : Out :=
  .next (s.request lane (reqWord tag.toNat target.toNat 2 0 addr.toNat data.toNat) [])

/-- CT_RMW (R515). -/
def execCtRmw (lane : Lane) (tag target : BitVec 16) (addr data mask : U32) (s : State) : Out :=
  .next (s.request lane (reqWord tag.toNat target.toNat 3 1 addr.toNat data.toNat) [mkWord [(0, 32, mask.toNat)]])

/-- CT_PING (R370). -/
def execCtPing (lane : Lane) (tag target : BitVec 16) (s : State) : Out :=
  .next (s.request lane (reqWord tag.toNat target.toNat 9 0 0 0) [])

/-- BAD_REQUEST (R370, R375): a request as it stands in its frame. -/
def execBadRequest (lane : Lane) (w0 : Word) (args : List Word) (s : State) : Out :=
  .next (s.request lane w0 args)

/-- HIP_REQUEST_FRAME (R381, R386): a request for this node is executed and answered to its entry node, another goes on,
and one without a route is answered NO_ROUTE. -/
def execHipRequestFrame (link : Link) (hdr : HipHdr) (words : List Word) (s : State) : Out :=
  let l := link.val
  let e := words.headD 0
  let w0 := words.getD 1 0
  let dst : ReplyTo := .hip (wfield e 16 16) (wfield e 0 4)
  if !s.linkUp l then .next s
  else if hdr.dest.toNat = s.nodeId then .next ((s.runRequest dst w0 (words.drop 2)).giveCredit l)
  else match s.hipOn l 1 hdr words with
    | some s => .next s
    | none => .next ((s.respond dst (wfield w0 0 16) .noRoute 0 (wfield w0 16 16)).giveCredit l)

end Sys2Proof.Machine
end

