-- ==== Sys2Proof/Machine/Soffit.lean ====
section
/-! DEFINITION. The Soffit port: the TAP's instructions and the register access of DBG_REG (R321, R511, R512, R516, R543,
R544). And what the block does while no command waits. -/

namespace Sys2Proof.Machine

/-! ## Instructions (R543) -/

/-- The instructions that the TAP has (R543); every other code is BYPASS. -/
def tapCodes : List (BitVec 8) := [0x00, 0x01, 0x02, 0x03, 0x04, 0x05, 0x20]

/-- The TAP takes an instruction. Those that drive, hold or float the pins do so only while RESET_N is low (R543).
(log 132: DESIGN CHOICE) -/
def State.tap (s : State) (ir : BitVec 8) : State :=
  { s with soffit := { s.soffit with ir := ir, boundary := if s.pins.resetLow then scanBoundary ir else 0 } }

/-- TAP_RESET (R543): BYPASS is selected. -/
def execTapReset (s : State) : Out := .next (s.tap 0xFF)

/-- EXTEST (R543). (log 132: DESIGN CHOICE) -/
def execExtest (s : State) : Out := .next (s.tap 0x00)

/-- SAMPLE_PRELOAD (R543): the cells hold a pattern, and the pins go on as they are. -/
def execSamplePreload (s : State) : Out :=
  let s := s.tap 0x01
  .next { s with soffit := { s.soffit with sampled := true } }

/-- EXTEST_PULSE (R543). -/
def execExtestPulse (s : State) : Out := .next (s.tap 0x02)

/-- EXTEST_TRAIN (R543). -/
def execExtestTrain (s : State) : Out := .next (s.tap 0x03)

/-- CLAMP (R543). (log 132: DESIGN CHOICE) -/
def execClamp (s : State) : Out := .next (s.tap 0x04)

/-- HIGHZ (R543). (log 132: DESIGN CHOICE) -/
def execHighz (s : State) : Out := .next (s.tap 0x05)

/-- BYPASS (R543): 0xFF, and every code that is no other instruction. -/
def execBypass (ir : BitVec 8) (s : State) : Out := .next (if tapCodes.contains ir then s else s.tap ir)

/-- DBG_REG (R543). -/
def execDbgReg (s : State) : Out := .next (s.tap 0x20)

/-! ## DBG_REG (R544) -/

/-- `STATUS` of an access (R510, R512, R544), and the state that has drawn one where none is stated: a write that a warm
reset puts off (R516). (log 131: DEDUCED) -/
def dbgStatus (st : Status) (s : State) : Nat × State :=
  match st with
  | .done | .poison => (0, s)
  | .noAddress => (2, s)
  | .busy =>
    let (v, s) := s.draw
    (v % 4, s)
  | _ => (3, s)

/-- The data register as the next Capture-DR returns it (R544). (log 131: DEDUCED) -/
def dbgCapture (addr data : Nat) (write consume : Bool) (status : Nat) : BitVec 72 :=
  BitVec.ofNat 72 (addr % 2 ^ 32 + data % 2 ^ 32 * 2 ^ 32 + b2n write * 2 ^ 64 + b2n consume * 2 ^ 65 +
    status % 4 * 2 ^ 66)

/-- DBG_REG_UPDATE (R321, R516, R544): an access through the Soffit port; a read is a peek unless it is to consume. What a
capture shows as the value of a write is not stated. (log 131: DEDUCED) -/
def execDbgRegUpdate (dr : BitVec 72) (s : State) : Out :=
  if s.soffit.ir != 0x20 || !s.pins.answered then .next s
  else
    let addr := bits dr.toNat 0 32
    let write := bitAt dr.toNat 64
    let consume := bitAt dr.toNat 65
    let ((st, v), s) := if write then
        let (st, s) := s.writeAddr .soffit addr (bits dr.toNat 32 32)
        let (v, s) := s.draw
        ((st, v), s)
      else s.readAddr .soffit consume addr
    let (code, s) := dbgStatus st s
    .next { s with soffit := { s.soffit with dr := dbgCapture addr v write consume code } }

/-! ## Time passes (entry 2) -/

/-- What the block does while no command waits: a coarse tick passes, a ledger record that waits begins, and the management
cores do what needs no command (R52, R472, R490). (log 2: DESIGN CHOICE) -/
def State.idle (s : State) : State := ((s.advance (s.now + tcTf)).mgmtDuties).ledgerStart

end Sys2Proof.Machine
end

