-- ==== Sys2Proof/Machine/Dispatch.lean ====
section
/-! DEFINITION. The dispatch of the commands to their meanings, one arm for each row of the table. -/

namespace Sys2Proof.Machine

/-- The effect of a command on everything but the queue. -/
def exec (i : Instr) (s : State) : Host.Outcome State Fault Refusal :=
  match i with
  | .powerGoodRise strap => Sys2Proof.Machine.execPowerGoodRise strap s
  | .powerGoodFall => Sys2Proof.Machine.execPowerGoodFall s
  | .resetNAssert => Sys2Proof.Machine.execResetNAssert s
  | .pllLock => Sys2Proof.Machine.execPllLock s
  | .imageReadDone => Sys2Proof.Machine.execImageReadDone s
  | .startupCalibrationDone chans units => Sys2Proof.Machine.execStartupCalibrationDone chans units s
  | .runEntry => Sys2Proof.Machine.execRunEntry s
  | .runWrite path data => Sys2Proof.Machine.execRunWrite path data s
  | .warmReset r => Sys2Proof.Machine.execWarmReset r s
  | .warmResetEnd => Sys2Proof.Machine.execWarmResetEnd s
  | .unitReset r => Sys2Proof.Machine.execUnitReset r s
  | .thermalTrip temps => Sys2Proof.Machine.execThermalTrip temps s
  | .nvmGraceEnd => Sys2Proof.Machine.execNvmGraceEnd s
  | .pfailAssert => Sys2Proof.Machine.execPfailAssert s
  | .pfailRelease => Sys2Proof.Machine.execPfailRelease s
  | .vexcLow => Sys2Proof.Machine.execVexcLow s
  | .courseBoundary => Sys2Proof.Machine.execCourseBoundary s
  | .dorlorFrame markOk frame dSyn => Sys2Proof.Machine.execDorlorFrame markOk frame dSyn s
  | .synLoss => Sys2Proof.Machine.execSynLoss s
  | .refLoss => Sys2Proof.Machine.execRefLoss s
  | .pllRelock => Sys2Proof.Machine.execPllRelock s
  | .flTriggerWord w dRx => Sys2Proof.Machine.execFlTriggerWord w dRx s
  | .flSyncWord w dRx => Sys2Proof.Machine.execFlSyncWord w dRx s
  | .profileWord w dRx => Sys2Proof.Machine.execProfileWord w dRx s
  | .badTriggerWord w => Sys2Proof.Machine.execBadTriggerWord w s
  | .triggerWordAct => Sys2Proof.Machine.execTriggerWordAct s
  | .flTrgIdle => Sys2Proof.Machine.execFlTrgIdle s
  | .flTrgLaunch => Sys2Proof.Machine.execFlTrgLaunch s
  | .hipAlignExchange => Sys2Proof.Machine.execHipAlignExchange s
  | .timeProbeItem link seq dArr dSend => Sys2Proof.Machine.execTimeProbeItem link seq dArr dSend s
  | .timeReplyItem link seq t2 t3 t4 => Sys2Proof.Machine.execTimeReplyItem link seq t2 t3 t4 s
  | .tsetItem link seq switchM deltaA => Sys2Proof.Machine.execTsetItem link seq switchM deltaA s
  | .setTime r => Sys2Proof.Machine.execSetTime r s
  | .flCompWrite path data => Sys2Proof.Machine.execFlCompWrite path data s
  | .timeLoRead path consume => Sys2Proof.Machine.execTimeLoRead path consume s
  | .tinTransition c level tick gates code => Sys2Proof.Machine.execTinTransition c level tick gates code s
  | .holdoffEnd c => Sys2Proof.Machine.execHoldoffEnd c s
  | .tchWindowOpen c => Sys2Proof.Machine.execTchWindowOpen c s
  | .tchWindowClose c => Sys2Proof.Machine.execTchWindowClose c s
  | .calPairDone c ip c1 c2 => Sys2Proof.Machine.execCalPairDone c ip c1 c2 s
  | .idleCalibrationStart c ip => Sys2Proof.Machine.execIdleCalibrationStart c ip s
  | .timesEntryTake c => Sys2Proof.Machine.execTimesEntryTake c s
  | .timesRecordClose c => Sys2Proof.Machine.execTimesRecordClose c s
  | .timingRecal r => Sys2Proof.Machine.execTimingRecal r s
  | .recalGroupDone g chans => Sys2Proof.Machine.execRecalGroupDone g chans s
  | .stStart path c data => Sys2Proof.Machine.execStStart path c data s
  | .stAbort path c data => Sys2Proof.Machine.execStAbort path c data s
  | .selfTestDone c mean rms => Sys2Proof.Machine.execSelfTestDone c mean rms s
  | .tchEnWrite path c data => Sys2Proof.Machine.execTchEnWrite path c data s
  | .ev3Codeword p corrected uncorrectable headersRead => Sys2Proof.Machine.execEv3Codeword p corrected uncorrectable headersRead s
  | .sampleFrame p header body crc endOk => Sys2Proof.Machine.execSampleFrame p header body crc endOk s
  | .hitFrame p header body crc endOk => Sys2Proof.Machine.execHitFrame p header body crc endOk s
  | .replyFrame p header body crc endOk => Sys2Proof.Machine.execReplyFrame p header body crc endOk s
  | .statusFrame p header body crc endOk => Sys2Proof.Machine.execStatusFrame p header body crc endOk s
  | .trainFrame p upright header body crc endOk => Sys2Proof.Machine.execTrainFrame p upright header body crc endOk s
  | .frameReduction p => Sys2Proof.Machine.execFrameReduction p s
  | .evCourseClose p => Sys2Proof.Machine.execEvCourseClose p s
  | .holdRepeat p => Sys2Proof.Machine.execHoldRepeat p s
  | .trainingSend p => Sys2Proof.Machine.execTrainingSend p s
  | .evTriggerCmd p => Sys2Proof.Machine.execEvTriggerCmd p s
  | .evCmdDrop p => Sys2Proof.Machine.execEvCmdDrop p s
  | .feRead lane tag target port addr => Sys2Proof.Machine.execFeRead lane tag target port addr s
  | .feWrite lane tag target port addr data => Sys2Proof.Machine.execFeWrite lane tag target port addr data s
  | .feRmw lane tag target port addr data mask => Sys2Proof.Machine.execFeRmw lane tag target port addr data mask s
  | .relayIssue p => Sys2Proof.Machine.execRelayIssue p s
  | .relayTimeout p => Sys2Proof.Machine.execRelayTimeout p s
  | .evClockingDone p => Sys2Proof.Machine.execEvClockingDone p s
  | .evLock p => Sys2Proof.Machine.execEvLock p s
  | .evAlignTimeout p => Sys2Proof.Machine.execEvAlignTimeout p s
  | .evTrainTimeout p => Sys2Proof.Machine.execEvTrainTimeout p s
  | .evSwapTimeout p => Sys2Proof.Machine.execEvSwapTimeout p s
  | .evLockLoss p => Sys2Proof.Machine.execEvLockLoss p s
  | .evAdmitTimeout p => Sys2Proof.Machine.execEvAdmitTimeout p s
  | .evEnWrite path p data => Sys2Proof.Machine.execEvEnWrite path p data s
  | .evEqWrite path p hi data => Sys2Proof.Machine.execEvEqWrite path p hi data s
  | .evPatStart path p data => Sys2Proof.Machine.execEvPatStart path p data s
  | .evPatStop path p data => Sys2Proof.Machine.execEvPatStop path p data s
  | .evPatInjOne path p data => Sys2Proof.Machine.execEvPatInjOne path p data s
  | .evPatBitsRead path consume p => Sys2Proof.Machine.execEvPatBitsRead path consume p s
  | .clusterClose g => Sys2Proof.Machine.execClusterClose g s
  | .primFrameLaunch => Sys2Proof.Machine.execPrimFrameLaunch s
  | .primDeadline h => Sys2Proof.Machine.execPrimDeadline h s
  | .hipPrimItem link prim wait hops last => Sys2Proof.Machine.execHipPrimItem link prim wait hops last s
  | .hipDecItem link dec hops root => Sys2Proof.Machine.execHipDecItem link dec hops root s
  | .trigger r => Sys2Proof.Machine.execTrigger r s
  | .autoTrigger k => Sys2Proof.Machine.execAutoTrigger k s
  | .triggerAccept => Sys2Proof.Machine.execTriggerAccept s
  | .triggerAct => Sys2Proof.Machine.execTriggerAct s
  | .markWrite h => Sys2Proof.Machine.execMarkWrite h s
  | .circWindowPush h g => Sys2Proof.Machine.execCircWindowPush h g s
  | .primsRecordClose h => Sys2Proof.Machine.execPrimsRecordClose h s
  | .bundleRecycle b => Sys2Proof.Machine.execBundleRecycle b s
  | .fifoPush f item errs => Sys2Proof.Machine.execFifoPush f item errs s
  | .fifoRead f errs => Sys2Proof.Machine.execFifoRead f errs s
  | .fifoMark f => Sys2Proof.Machine.execFifoMark f s
  | .fifoRewind f => Sys2Proof.Machine.execFifoRewind f s
  | .fifoRelease f => Sys2Proof.Machine.execFifoRelease f s
  | .arbiterWindow => Sys2Proof.Machine.execArbiterWindow s
  | .starvation b cls => Sys2Proof.Machine.execStarvation b cls s
  | .bankRead addr cls errs => Sys2Proof.Machine.execBankRead addr cls errs s
  | .thWeightWrite path h cls data => Sys2Proof.Machine.execThWeightWrite path h cls data s
  | .windowRead path consume addr q => Sys2Proof.Machine.execWindowRead path consume addr q s
  | .windowWrite path addr q data => Sys2Proof.Machine.execWindowWrite path addr q data s
  | .thScrubStart path data => Sys2Proof.Machine.execThScrubStart path data s
  | .thScrubAbort path data => Sys2Proof.Machine.execThScrubAbort path data s
  | .scrub r => Sys2Proof.Machine.execScrub r s
  | .scrubPassDone => Sys2Proof.Machine.execScrubPassDone s
  | .thMigStart path data => Sys2Proof.Machine.execThMigStart path data s
  | .bankMigrate r => Sys2Proof.Machine.execBankMigrate r s
  | .migrationDone => Sys2Proof.Machine.execMigrationDone s
  | .lockBreak k => Sys2Proof.Machine.execLockBreak k s
  | .queueWaitTimeout q => Sys2Proof.Machine.execQueueWaitTimeout q s
  | .dispatch h => Sys2Proof.Machine.execDispatch h s
  | .lendOffer h => Sys2Proof.Machine.execLendOffer h s
  | .lendAccept h => Sys2Proof.Machine.execLendAccept h s
  | .qgroupEnWrite path j data => Sys2Proof.Machine.execQgroupEnWrite path j data s
  | .drainTimeout q => Sys2Proof.Machine.execDrainTimeout q s
  | .pdFlagSet path h data => Sys2Proof.Machine.execPdFlagSet path h data s
  | .pdCoreTasksRead path consume k => Sys2Proof.Machine.execPdCoreTasksRead path consume k s
  | .add k d a b => Sys2Proof.Machine.execAdd k d a b s
  | .sub k d a b => Sys2Proof.Machine.execSub k d a b s
  | .addc k d a b => Sys2Proof.Machine.execAddc k d a b s
  | .subc k d a b => Sys2Proof.Machine.execSubc k d a b s
  | .andR k d a b => Sys2Proof.Machine.execAndR k d a b s
  | .orR k d a b => Sys2Proof.Machine.execOrR k d a b s
  | .xorR k d a b => Sys2Proof.Machine.execXorR k d a b s
  | .sll k d a b => Sys2Proof.Machine.execSll k d a b s
  | .srl k d a b => Sys2Proof.Machine.execSrl k d a b s
  | .sra k d a b => Sys2Proof.Machine.execSra k d a b s
  | .slt k d a b => Sys2Proof.Machine.execSlt k d a b s
  | .sltu k d a b => Sys2Proof.Machine.execSltu k d a b s
  | .mul k d a b => Sys2Proof.Machine.execMul k d a b s
  | .mulhs k d a b => Sys2Proof.Machine.execMulhs k d a b s
  | .mulhu k d a b => Sys2Proof.Machine.execMulhu k d a b s
  | .minR k d a b => Sys2Proof.Machine.execMinR k d a b s
  | .maxR k d a b => Sys2Proof.Machine.execMaxR k d a b s
  | .absd k d a b => Sys2Proof.Machine.execAbsd k d a b s
  | .clz k d a => Sys2Proof.Machine.execClz k d a s
  | .jr k a => Sys2Proof.Machine.execJr k a s
  | .jalr k d a => Sys2Proof.Machine.execJalr k d a s
  | .addi k d a imm => Sys2Proof.Machine.execAddi k d a imm s
  | .andi k d a imm => Sys2Proof.Machine.execAndi k d a imm s
  | .ori k d a imm => Sys2Proof.Machine.execOri k d a imm s
  | .xori k d a imm => Sys2Proof.Machine.execXori k d a imm s
  | .slli k d a imm => Sys2Proof.Machine.execSlli k d a imm s
  | .srli k d a imm => Sys2Proof.Machine.execSrli k d a imm s
  | .srai k d a imm => Sys2Proof.Machine.execSrai k d a imm s
  | .slti k d a imm => Sys2Proof.Machine.execSlti k d a imm s
  | .sltiu k d a imm => Sys2Proof.Machine.execSltiu k d a imm s
  | .lui k d imm => Sys2Proof.Machine.execLui k d imm s
  | .ldw k d a imm => Sys2Proof.Machine.execLdw k d a imm s
  | .ldh k d a imm => Sys2Proof.Machine.execLdh k d a imm s
  | .ldhu k d a imm => Sys2Proof.Machine.execLdhu k d a imm s
  | .ldb k d a imm => Sys2Proof.Machine.execLdb k d a imm s
  | .ldbu k d a imm => Sys2Proof.Machine.execLdbu k d a imm s
  | .ldq k d a imm => Sys2Proof.Machine.execLdq k d a imm s
  | .stw k d a imm => Sys2Proof.Machine.execStw k d a imm s
  | .sth k d a imm => Sys2Proof.Machine.execSth k d a imm s
  | .stb k d a imm => Sys2Proof.Machine.execStb k d a imm s
  | .stq k d a imm => Sys2Proof.Machine.execStq k d a imm s
  | .beq k a b off => Sys2Proof.Machine.execBeq k a b off s
  | .bne k a b off => Sys2Proof.Machine.execBne k a b off s
  | .blt k a b off => Sys2Proof.Machine.execBlt k a b off s
  | .bge k a b off => Sys2Proof.Machine.execBge k a b off s
  | .bltu k a b off => Sys2Proof.Machine.execBltu k a b off s
  | .bgeu k a b off => Sys2Proof.Machine.execBgeu k a b off s
  | .j k off => Sys2Proof.Machine.execJ k off s
  | .jal k off => Sys2Proof.Machine.execJal k off s
  | .loop k level a cnt off => Sys2Proof.Machine.execLoop k level a cnt off s
  | .mac k n a b => Sys2Proof.Machine.execMac k n a b s
  | .msu k n a b => Sys2Proof.Machine.execMsu k n a b s
  | .macd k n a b => Sys2Proof.Machine.execMacd k n a b s
  | .macp k a b => Sys2Proof.Machine.execMacp k a b s
  | .aclr k n => Sys2Proof.Machine.execAclr k n s
  | .ald k n a => Sys2Proof.Machine.execAld k n a s
  | .aadd k n a sh => Sys2Proof.Machine.execAadd k n a sh s
  | .asub k n a sh => Sys2Proof.Machine.execAsub k n a sh s
  | .ashr k n sh => Sys2Proof.Machine.execAshr k n sh s
  | .ashl k n sh => Sys2Proof.Machine.execAshl k n sh s
  | .mval k d n => Sys2Proof.Machine.execMval k d n s
  | .mvah k d n => Sys2Proof.Machine.execMvah k d n s
  | .take k d => Sys2Proof.Machine.execTake k d s
  | .doneT k a opts => Sys2Proof.Machine.execDoneT k a opts s
  | .push k d a => Sys2Proof.Machine.execPush k d a s
  | .alloc k d a => Sys2Proof.Machine.execAlloc k d a s
  | .lock k d a n => Sys2Proof.Machine.execLock k d a n s
  | .rls k d a => Sys2Proof.Machine.execRls k d a s
  | .mfc k d csr => Sys2Proof.Machine.execMfc k d csr s
  | .mtc k csr a => Sys2Proof.Machine.execMtc k csr a s
  | .rete k => Sys2Proof.Machine.execRete k s
  | .trap k imm => Sys2Proof.Machine.execTrap k imm s
  | .sync k => Sys2Proof.Machine.execSync k s
  | .storeDrain k => Sys2Proof.Machine.execStoreDrain k s
  | .imemScrub k w errs => Sys2Proof.Machine.execImemScrub k w errs s
  | .dbgHalt path k data => Sys2Proof.Machine.execDbgHalt path k data s
  | .dbgResume path k data => Sys2Proof.Machine.execDbgResume path k data s
  | .dbgStep path k data => Sys2Proof.Machine.execDbgStep path k data s
  | .dbgForce path k data => Sys2Proof.Machine.execDbgForce path k data s
  | .dbgAccGo path k data => Sys2Proof.Machine.execDbgAccGo path k data s
  | .rcMemdAccess path k write data => Sys2Proof.Machine.execRcMemdAccess path k write data s
  | .rcEnWrite path k data => Sys2Proof.Machine.execRcEnWrite path k data s
  | .coreRefresh r => Sys2Proof.Machine.execCoreRefresh r s
  | .coreProgramLoaded k ok => Sys2Proof.Machine.execCoreProgramLoaded k ok s
  | .shingleBlockOpen e => Sys2Proof.Machine.execShingleBlockOpen e s
  | .shinglePassDone e => Sys2Proof.Machine.execShinglePassDone e s
  | .shingleContainerPush e => Sys2Proof.Machine.execShingleContainerPush e s
  | .shFlush path data => Sys2Proof.Machine.execShFlush path data s
  | .shEnWrite path e data => Sys2Proof.Machine.execShEnWrite path e data s
  | .ctRead lane tag target addr => Sys2Proof.Machine.execCtRead lane tag target addr s
  | .ctWrite lane tag target addr data => Sys2Proof.Machine.execCtWrite lane tag target addr data s
  | .ctRmw lane tag target addr data mask => Sys2Proof.Machine.execCtRmw lane tag target addr data mask s
  | .ctPing lane tag target => Sys2Proof.Machine.execCtPing lane tag target s
  | .ackFrame lane g gseq => Sys2Proof.Machine.execAckFrame lane g gseq s
  | .resendFrame lane g first last => Sys2Proof.Machine.execResendFrame lane g first last s
  | .beStatusFrame lane locked => Sys2Proof.Machine.execBeStatusFrame lane locked s
  | .ackTimeout g => Sys2Proof.Machine.execAckTimeout g s
  | .statusSend lane => Sys2Proof.Machine.execStatusSend lane s
  | .recordSend g => Sys2Proof.Machine.execRecordSend g s
  | .responseSend g => Sys2Proof.Machine.execResponseSend g s
  | .laneReady lane => Sys2Proof.Machine.execLaneReady lane s
  | .laneTrainTimeout lane => Sys2Proof.Machine.execLaneTrainTimeout lane s
  | .laneFail lane lockLost => Sys2Proof.Machine.execLaneFail lane lockLost s
  | .laneSpare r => Sys2Proof.Machine.execLaneSpare r s
  | .laneReturn r => Sys2Proof.Machine.execLaneReturn r s
  | .rgLaneEnWrite path lane data => Sys2Proof.Machine.execRgLaneEnWrite path lane data s
  | .rgGrpEnWrite path g data => Sys2Proof.Machine.execRgGrpEnWrite path g data s
  | .hipLock link => Sys2Proof.Machine.execHipLock link s
  | .helloItem link data => Sys2Proof.Machine.execHelloItem link data s
  | .helloSend link => Sys2Proof.Machine.execHelloSend link s
  | .hipNeighbourLoss link lockLost => Sys2Proof.Machine.execHipNeighbourLoss link lockLost s
  | .hipSlip link => Sys2Proof.Machine.execHipSlip link s
  | .creditItem link credits => Sys2Proof.Machine.execCreditItem link credits s
  | .hipRecordFrame link hdr words => Sys2Proof.Machine.execHipRecordFrame link hdr words s
  | .hipRequestFrame link hdr words => Sys2Proof.Machine.execHipRequestFrame link hdr words s
  | .hipResponseFrame link hdr words => Sys2Proof.Machine.execHipResponseFrame link hdr words s
  | .announceFrame link ids => Sys2Proof.Machine.execAnnounceFrame link ids s
  | .withdrawFrame link ids => Sys2Proof.Machine.execWithdrawFrame link ids s
  | .fwdAckFrame link hdr fseq g => Sys2Proof.Machine.execFwdAckFrame link hdr fseq g s
  | .hipItemForward link => Sys2Proof.Machine.execHipItemForward link s
  | .remoteTimeout tag g => Sys2Proof.Machine.execRemoteTimeout tag g s
  | .hipEnWrite path link data => Sys2Proof.Machine.execHipEnWrite path link data s
  | .gaugeDue h j => Sys2Proof.Machine.execGaugeDue h j s
  | .gaugeJobStart h => Sys2Proof.Machine.execGaugeJobStart h s
  | .gaugePhaseEnd h sl => Sys2Proof.Machine.execGaugePhaseEnd h sl s
  | .gaugeConversionDone h sl raw => Sys2Proof.Machine.execGaugeConversionDone h sl raw s
  | .gaugeJobEnd h sl compliance => Sys2Proof.Machine.execGaugeJobEnd h sl compliance s
  | .gaugeExcFault h sl => Sys2Proof.Machine.execGaugeExcFault h sl s
  | .gaugeDiagEnd h sl raw => Sys2Proof.Machine.execGaugeDiagEnd h sl raw s
  | .gaUrgentGo path h data => Sys2Proof.Machine.execGaUrgentGo path h data s
  | .gaugeUrgent r => Sys2Proof.Machine.execGaugeUrgent r s
  | .gaugeTwarnCross h second => Sys2Proof.Machine.execGaugeTwarnCross h second s
  | .sliceCalDone h ok gainChangePpm => Sys2Proof.Machine.execSliceCalDone h ok gainChangePpm s
  | .sliceRotation h => Sys2Proof.Machine.execSliceRotation h s
  | .gaFullcalStart path h data => Sys2Proof.Machine.execGaFullcalStart path h data s
  | .gaugeCal r => Sys2Proof.Machine.execGaugeCal r s
  | .gaugeFullcalDone u => Sys2Proof.Machine.execGaugeFullcalDone u s
  | .gaugeRecordClose h => Sys2Proof.Machine.execGaugeRecordClose h s
  | .gaEnWrite path h data => Sys2Proof.Machine.execGaEnWrite path h data s
  | .gaInputEnWrite path h j data => Sys2Proof.Machine.execGaInputEnWrite path h j data s
  | .profile r => Sys2Proof.Machine.execProfile r s
  | .profileSchedule n => Sys2Proof.Machine.execProfileSchedule n s
  | .profEnWrite path data => Sys2Proof.Machine.execProfEnWrite path data s
  | .trgSrcEnWrite path data => Sys2Proof.Machine.execTrgSrcEnWrite path data s
  | .consistencyCheckDone => Sys2Proof.Machine.execConsistencyCheckDone s
  | .admitUnit r => Sys2Proof.Machine.execAdmitUnit r s
  | .retire r => Sys2Proof.Machine.execRetire r s
  | .linkRetrain r => Sys2Proof.Machine.execLinkRetrain r s
  | .ledgerCompact r => Sys2Proof.Machine.execLedgerCompact r s
  | .dump r => Sys2Proof.Machine.execDump r s
  | .dumpDone => Sys2Proof.Machine.execDumpDone s
  | .maintAbort r => Sys2Proof.Machine.execMaintAbort r s
  | .tenureMove r => Sys2Proof.Machine.execTenureMove r s
  | .relayOpen r => Sys2Proof.Machine.execRelayOpen r s
  | .relayWrite r => Sys2Proof.Machine.execRelayWrite r s
  | .relayPageDone readBackOk => Sys2Proof.Machine.execRelayPageDone readBackOk s
  | .relayClose r => Sys2Proof.Machine.execRelayClose r s
  | .relayCancel r => Sys2Proof.Machine.execRelayCancel r s
  | .relayIdleTimeout => Sys2Proof.Machine.execRelayIdleTimeout s
  | .mcHeartbeat h => Sys2Proof.Machine.execMcHeartbeat h s
  | .heartbeatSilence h => Sys2Proof.Machine.execHeartbeatSilence h s
  | .tnReq path data => Sys2Proof.Machine.execTnReq path data s
  | .tnGrant path data => Sys2Proof.Machine.execTnGrant path data s
  | .tenureReqTimeout => Sys2Proof.Machine.execTenureReqTimeout s
  | .tenureDispute copies => Sys2Proof.Machine.execTenureDispute copies s
  | .voterRepair addr repairable => Sys2Proof.Machine.execVoterRepair addr repairable s
  | .mcDeferral h level => Sys2Proof.Machine.execMcDeferral h level s
  | .ledgerCommit => Sys2Proof.Machine.execLedgerCommit s
  | .maintSchedule n => Sys2Proof.Machine.execMaintSchedule n s
  | .mgPatchApply path data => Sys2Proof.Machine.execMgPatchApply path data s
  | .mgPatchDWrite path data => Sys2Proof.Machine.execMgPatchDWrite path data s
  | .registerWrite path addr data => Sys2Proof.Machine.execRegisterWrite path addr data s
  | .rcCounterRead path addr => Sys2Proof.Machine.execRcCounterRead path addr s
  | .lgCntLoRead path consume => Sys2Proof.Machine.execLgCntLoRead path consume s
  | .tapReset => Sys2Proof.Machine.execTapReset s
  | .extest => Sys2Proof.Machine.execExtest s
  | .samplePreload => Sys2Proof.Machine.execSamplePreload s
  | .extestPulse => Sys2Proof.Machine.execExtestPulse s
  | .extestTrain => Sys2Proof.Machine.execExtestTrain s
  | .clamp => Sys2Proof.Machine.execClamp s
  | .highz => Sys2Proof.Machine.execHighz s
  | .bypass ir => Sys2Proof.Machine.execBypass ir s
  | .dbgReg => Sys2Proof.Machine.execDbgReg s
  | .dbgRegUpdate dr => Sys2Proof.Machine.execDbgRegUpdate dr s
  | .resetNRelease strap => Sys2Proof.Machine.execResetNRelease strap s
  | .vexcReturn => Sys2Proof.Machine.execVexcReturn s
  | .flTrgActive => Sys2Proof.Machine.execFlTrgActive s
  | .linkRetrainTimeout id => Sys2Proof.Machine.execLinkRetrainTimeout id s
  | .ledgerRecordWritten => Sys2Proof.Machine.execLedgerRecordWritten s
  | .relayVerified programmed => Sys2Proof.Machine.execRelayVerified programmed s
  | .relayEraseDone => Sys2Proof.Machine.execRelayEraseDone s
  | .rgBadRx lane => Sys2Proof.Machine.execRgBadRx lane s
  | .badRequest lane w0 args => Sys2Proof.Machine.execBadRequest lane w0 args s
  | .illegalInstruction k w => Sys2Proof.Machine.execIllegalInstruction k w s
  | .rxLockLoss lane => Sys2Proof.Machine.execRxLockLoss lane s

end Sys2Proof.Machine
end

