-- ==== Sys2Proof/Safety.lean ====
section
/-! DEFINITION. What counts as a safe step, and the canonical form of the tables that a state holds. -/

namespace Sys2Proof.Machine

/-- The machine goes on: its next step answers a next state. -/
def State.GoesOn (s : State) : Prop := ∃ t, step s = .next t

/-- A run of `n` steps that never stops. -/
def State.RunsFor (n : Nat) (s : State) : Prop := ∃ t, Sys2Proof.core.run n s = .next t

/-- A command completes: exec answers a next state, and `P` holds in it. -/
def State.Completes (s : State) (c : Instr) (P : State → Prop) : Prop := ∃ t, exec c s = .next t ∧ P t

/-- What the memories that no reset writes hold is the same in two states: the image memories and the ledger's lines
(R48). -/
def State.SameNvm (s t : State) : Prop :=
  t.boot.imgA = s.boot.imgA ∧ t.boot.imgB = s.boot.imgB ∧ t.mg.ledger = s.mg.ledger

/-- A write on a path reaches the register's own meaning: registers are answered and the image is applied (R516), the
register exists, a control transaction may write it (R371, R449), and no warm reset holds an enable bit (R50). -/
structure State.Reaches (s : State) (p : Path) (a : Nat) : Prop where
  answered : s.pins.answered = true
  applied : s.pins.applied = true
  register : (regAt a).isSome = true
  ridge : p = .ridge → s.rescue = false ∧ s.inBounds a 0 = true
  enable : ¬(s.inWarm = true ∧ enableReg a = true)

/-- The state in which a transaction that arrived on a lane of group `g` is outstanding (R373). -/
def State.accepted (s : State) (lane : Lane) (tag target : BitVec 16) (g : Nat) : State :=
  let s := (s.rxFrameOn lane).count RG_REQ.N
  let t : Trans := { tag := tag.toNat, group := g, target := target.toNat, at_ := s.now }
  let s : State := { s with trans := s.trans ++ [t] }
  s.wr RG_CTL_STAT.OUT s.trans.length

/-- A transaction that a lane receives is executed here (R373): the lane receives for group `g`, the tag is free, the node
has room, and this node is named. -/
structure State.Accepts (s : State) (lane : Lane) (tag target : BitVec 16) (g : Nat) : Prop where
  receives : s.rxDecodes lane = true
  group : s.laneGroup lane = some g
  fresh : (s.trans.any fun t => t.tag == tag.toNat && t.group == g) = false
  room : s.trans.length < s.rd RG_CTL_CFG.MAXOUT ∨ s.rescue = true
  here : target = 0xFFFF ∨ target.toNat = s.rd NODE_ID.ID

/-- The state in which a directive's transaction is outstanding. -/
abbrev State.taken (s : State) (r : DirReq) (g : Nat) : State := s.accepted r.lane r.tag r.target g

/-- The directive that a DIRECTIVE transaction of lane group `g` carries. -/
def carried (r : DirReq) (code g : Nat) : Dir := ⟨code, .lanes g, r.tag.toNat, r.data.toNat, r.args⟩

/-- A directive of this code is executed here (R463, R465): its transaction is, no warm reset is in progress, a management
core can take it, and the mask allows it. -/
structure State.TakesDir (s : State) (code : Nat) (r : DirReq) (g : Nat) : Prop where
  arrives : s.Accepts r.lane r.tag r.target g
  notWarm : s.inWarm = false
  core : s.mg.dirs.length < 32
  allowed : s.dirAllowed code = true

/-- The register file, the values in force and the read latches are canonical (R509, R12, R514). -/
def State.regsOk (s : State) : Bool :=
  Tab.wf regReset s.regs && Tab.wf (fun _ => none) s.staged && Tab.wf (fun _ => 0) s.latch &&
  Tab.wf (fun _ => none) s.winLatch

/-- The store's words are canonical: an unlisted word is unwritten (R194, R222). -/
def State.storeOk (s : State) : Bool := Memory.wf s.th.words

/-- The local memories and register tables of a core are canonical (R273, R274, R276). -/
def CoreSt.ok (c : CoreSt) : Bool :=
  Tab.wf (fun _ => 0) c.g && Tab.wf (fun n => if n = csrVBASE then 0xFF00 else 0) c.csr && Tab.wf (fun _ => 0) c.imem && Tab.wf (fun _ => 0) c.dmem

/-- The cores' table is canonical, and so is each core. -/
def State.coresOk (s : State) : Bool := Tab.wf (fun _ => {}) s.cores && s.cores.all fun x => CoreSt.ok x.2

/-- The image memories, the patch RAMs and the ledger are canonical: an unlisted byte of an image memory is erased (R428);
an unlisted byte of a patch RAM and an unlisted ledger line read 0. -/
def State.nvmOk (s : State) : Bool :=
  Tab.wf (fun _ => 0xFF) s.boot.imgA && Tab.wf (fun _ => 0xFF) s.boot.imgB &&
  Tab.wf (fun _ => 0) s.mg.patchN && Tab.wf (fun _ => 0) s.mg.patchS && Tab.wf (fun _ => 0) s.mg.ledger

/-- Every addressed memory of the state is in its canonical form. -/
def State.memoryOk (s : State) : Bool := s.regsOk && s.storeOk && s.coresOk && s.nvmOk

/-- The boundary cells act on the pins only while RESET_N is low, and then as the TAP's instruction in force says (R543). -/
def State.scanOk (s : State) : Prop :=
  s.soffit.boundary = if s.pins.resetLow = true then scanBoundary s.soffit.ir else 0

/-! ## Cores -/

/-- A core issues an instruction at its PC with nothing in its way: it is RUNNING or DRAINING and waits for nothing (R287,
R312), no halt or step is due and no breakpoint is enabled (R318, R319), no locked sequence is open (R305), the PC is
aligned and in instruction memory (R276), its local words are free of errors (R280), and the instruction ends no loop (R295). -/
structure State.Issues (s : State) (k : Core) : Prop where
  runs : s.coreState k = rcRunning ∨ s.coreState k = rcDraining
  waits : (s.core k).taking = none ∧ (s.core k).stuck = none
  halts : (s.core k).haltReq = false ∧ (s.core k).stepping = false
  breaks : ∀ b : Fin 4, s.on (BP_CTRL.EN k b) = false
  unlocked : (s.core k).lock = none
  fetch : (s.core k).pc.toNat % 4 = 0 ∧ (s.core k).pc.toNat ≤ 0xFFFF
  clean : ∀ a, Tab.get 0 (s.core k).memErr a = 0
  loops : (s.core k).exl = true ∨ (s.core k).atLoopEnd (s.core k).pc = false

/-- The state in which an instruction of core `k` acts: the breakpoint it halted at is passed (R319). -/
abbrev State.issued (s : State) (k : Core) : State := s.setCore k { s.core k with bpSkip := false }

/-- A core one instruction on: past it, or at the target when it was in a delay slot (R285). -/
def CoreSt.stepped (c : CoreSt) (before : CoreSt) : CoreSt :=
  { c with pc := before.after, slot := none, bpSkip := false }

/-- The registers of core `k` that show what it runs (R324). -/
def shownBy (k : Core) : List Nat :=
  [Addr.RC_STAT k, Addr.RC_PC k, Addr.RC_TASK k, Addr.RC_TCOURSE k, Addr.RC_INSTR k]

/-- An instruction of core `k` completed and left the core as `c`, and nothing else but the registers that show it changed
(R283, R324). -/
structure State.Ran (s t : State) (k : Core) (c : CoreSt) : Prop where
  core : t.core k = c
  others : ∀ m : Core, m ≠ k → t.core m = s.core m
  frame : t = { s with cores := t.cores, regs := t.regs }
  regs : ∀ a, a ∉ shownBy k → t.reg a = s.reg a
  pc : t.rd (RC_PC.PC k) = c.pc.toNat
  count : t.rd (RC_INSTR.N k) = min (2 ^ (RC_INSTR.N k).w - 1) (s.rd (RC_INSTR.N k) + 1)
  state : t.coreState k = s.coreState k

/-- The core that an exception of a code leaves (R301, R303, R304): the place saved, MODE 0, EXL 1, the PC at the vector; in a
delay slot the place is the branch, marked. -/
def CoreSt.trapped (c : CoreSt) (code ebad : Nat) : CoreSt :=
  let epc := match c.slot with
    | some b => b.1
    | none => c.pc
  let c1 := (c.setCsr csrEPC epc).setCsr csrEMODE (c.csrAt csrMODE)
  let c2 := (c1.setCsr csrECAUSE (BitVec.ofNat 32 (code + 256 * b2n c.slot.isSome))).setCsr csrEBAD (BitVec.ofNat 32 ebad)
  { c2.setCsr csrMODE 0 with
    exl := true, slot := none, pc := c.csrAt csrVBASE + BitVec.ofNat 32 (16 * code), bpSkip := false }

/-- Core `k` took the exception of a code, and nothing else but its exception books changed (R300 to R304). -/
structure State.Trapped (s t : State) (k : Core) (code ebad : Nat) : Prop where
  core : t.core k = (s.core k).trapped code ebad
  others : ∀ m : Core, m ≠ k → t.core m = s.core m
  frame : t = { s with cores := t.cores, regs := t.regs }
  regs : ∀ a, a ∉ Addr.RC_EXC k :: Addr.RC_EVT k :: shownBy k → t.reg a = s.reg a
  count : t.rd (RC_EXC.N k) = min (2 ^ (RC_EXC.N k).w - 1) (s.rd (RC_EXC.N k) + 1)
  noted : t.rd (RC_EVT.EXC k) = 1
  state : t.coreState k = s.coreState k

end Sys2Proof.Machine
end

