-- ==== Sys2Proof/Certificates/Slice0/Obligations.lean ====
section
/-! DEFINITION. The statements for the provers: what the commands do, by the spec's numbered rules. -/

open Sys2Proof Sys2Proof.Machine

/-! ## The queue, reset and power -/

/-- A step runs the command at the front of the queue with the queue's rest (entry 1). -/
def Obligations.StepRunsFrontCommand : Prop :=
  ∀ (s : State) (c : Instr) (rest : List Instr), s.pending = c :: rest → step s = exec c { s with pending := rest }

/-- An empty queue never stops the block, and while device time runs it moves on by one coarse tick (R10, R52, entry 2).
No command is refused or faults, in any state: every step goes on. -/
def Obligations.IdleAndEveryStepGoesOn : Prop :=
  (∀ s : State, s.pending = [] →
     ∃ t, step s = .next t ∧ (s.time.runs = true → ∃ u : State, u.now = s.now + tcTf ∧ t = u.mgmtDuties.ledgerStart)) ∧
  (∀ s : State, s.GoesOn)

/-- What the device holds right after reset (R23, R46, R48, R445, R448): not in RUN, start-up at its first step, device
time not started, the store unwritten, every memory in its canonical form, and the registers with a reset value of their
own at it. -/
def Obligations.ResetStateAsTheSpecHasIt : Prop :=
  State.reset.running = false ∧ State.reset.rd BOOT_STAT.STAGE = 0 ∧ State.reset.time.runs = false ∧
  State.reset.th.words = [] ∧ State.reset.pending = [] ∧ State.reset.memoryOk = true ∧
  (State.reset.reg Addr.IDENT).toNat = 0x5196E711 ∧ (∀ a, State.reset.reg a = regReset a) ∧
  (∀ k : Core, ∀ n : Nat, n ≠ csrVBASE → (State.reset.core k.val).csrAt n = 0) ∧ State.reset.scanOk

/-- Power good and RESET_N (R46, R48, R445, R516, R518, R531): each edge that begins or keeps a cold reset leaves the
device out of RUN with device time stopped and the memories kept; the release samples the strap. A thermal trip (R500):
every island but the NVM island is in cold reset; that finishes the record in progress, or begins a THERM_TRIP event,
and enters reset when its grace ends, a record not finished being abandoned. -/
def Obligations.PowerResetPinsAndThermalTrip : Prop :=
  (∀ (s : State) (strap : BitVec 8),
     (s.pins.powerGood = false → s.pins.resetLow = false →
       s.Completes (.powerGoodRise strap) fun t =>
         t.pins.powerGood = true ∧ t.pins.thermTrip = false ∧ t.rd STRAP.NODE = strap.toNat ∧ t.running = false ∧
         t.time.runs = false ∧ t.rd BOOT_STAT.STAGE = 0 ∧ t.th.words = [] ∧ s.SameNvm t) ∧
     (s.pins.powerGood = true →
       s.Completes .powerGoodFall fun t =>
         t.pins.powerGood = false ∧ t.running = false ∧ t.time.runs = false ∧ t.pins.answered = false ∧
         t.th.words = [] ∧ s.SameNvm t) ∧
     (s.pins.resetLow = false → s.pins.powerGood = true →
       s.Completes .resetNAssert fun t =>
         t.pins.resetLow = true ∧ t.rd RST_CAUSE.KIND = 1 ∧ t.running = false ∧ t.time.runs = false ∧
         t.rd BOOT_STAT.STAGE = 0 ∧ s.SameNvm t) ∧
     (s.pins.resetLow = true → s.pins.powerGood = true →
       s.Completes (.resetNRelease strap) fun t =>
         t.pins.resetLow = false ∧ t.pins.thermTrip = false ∧ t.rd STRAP.NODE = strap.toNat ∧
         t.soffit.boundary = 0 ∧ (∀ a, a ≠ Addr.STRAP → t.reg a = s.reg a) ∧ t.time = s.time ∧ s.SameNvm t)) ∧
  (∀ (s : State) (temps : BitVec 96),
     (s.pins.powerGood = true → s.pins.thermTrip = false → s.pins.resetLow = false → s.rd LG_STAT.VALID = 1 →
       s.Completes (.thermalTrip temps) fun t =>
         t.pins.thermTrip = true ∧ t.mg.grace = true ∧ t.running = false ∧ t.time.runs = false ∧
         t.mg.ledger = s.mg.ledger ∧ t.rd LG_HEAD.LINE = s.rd LG_HEAD.LINE ∧
         (∀ r, s.mg.writing = some r → t.mg.writing = some r) ∧
         (s.mg.writing = none → t.mg.writing = some (s.tripRecord temps))) ∧
     (s.mg.grace = true →
       s.Completes .nvmGraceEnd fun t =>
         t.mg.writing = none ∧ t.mg.grace = false ∧ t.running = false ∧ s.SameNvm t))

/-- The power-fail warning and VEXC (R499, R532, R414): a warning holds the ledger until it goes, the changed tallies
having been asked for as a clean commit; below its limit VEXC ends every job that uses a source, and back above it does
nothing more. -/
def Obligations.SupplyWarningsAct : Prop :=
  ∀ s : State,
    (s.pins.pfailLow = false → s.rd LG_STAT.VALID = 0 →
      s.Completes .pfailAssert fun t => t.pins.pfailLow = true ∧ t.rd LG_STAT.PFAIL_HOLD = 1) ∧
    (s.pins.pfailLow = false → s.rd LG_STAT.VALID = 1 →
      s.Completes .pfailAssert fun t => ∃ u : State,
        u.rd LG_STAT.WRITING = 0 ∧ u.rd LG_STAT.PFAIL_HOLD = 1 ∧
        t = (u.abortWhere (fun a => a.code == 3 || a.code == 8) .pfail).note 0 Addr.LG_STAT LG_STAT.PFAIL_HOLD.lo .event
          deviceWide []) ∧
    (s.pins.pfailLow = true →
      s.Completes .pfailRelease fun t => ∃ u : State,
        u.pins.pfailLow = false ∧ u.rd LG_STAT.PFAIL_HOLD = 0 ∧ u.mg = s.mg ∧ t = u.ledgerStart) ∧
    ((s.excitedJobs 0 = [] ∧ s.excitedJobs 1 = [] →
      s.Completes .vexcLow fun t => t = { s with pins := { s.pins with vexcOk := false } }) ∧
     (s.Completes .vexcLow fun t => ∃ u : State, u = { s with pins := { s.pins with vexcOk := false } } ∧
      t = u.each [0, 1] fun v h => v.each (v.excitedJobs h) fun v (x : Nat × GJob) => v.gaFault h x.1 x.2)) ∧
    (s.Completes .vexcReturn fun t => t = { s with pins := { s.pins with vexcOk := true } })

/-! ## Start-up, CONFIG and RUN -/

/-- Start-up's steps (R443 to R448, R49): the PLL's lock starts device time at 0 with the store unwritten and goes on to
the headers; with no copy left that passes, the device enters RESCUE; the calibrations lead on to RUN, or to CONFIG
while the image's GLOBAL `RUN` is 0. -/
def Obligations.StartupStepsInOrder : Prop :=
  ∀ s : State,
    (s.released = true → s.pins.refOk = true → s.time.runs = false → s.rd BOOT_STAT.STAGE = 0 →
      s.Completes .pllLock fun t => ∃ u : State,
        u.now = 0 ∧ u.time.runs = true ∧ u.th.words = [] ∧ u.pins.answered = true ∧ u.rd TIME_STAT.PLL_LOCK = 1 ∧
        t = (u.readLedger.wr EPOCH.CUR u.readLedger.mg.firstEpoch).readHeads ∧ t.rd BOOT_STAT.STAGE = 3) ∧
    (∀ e f, s.rd BOOT_STAT.STAGE = 3 → s.copyImage false = .error e → s.copyImage true = .error f →
      s.Completes .imageReadDone fun t => t.rd BOOT_STAT.STAGE = 10) ∧
    (∀ im f, s.rd BOOT_STAT.STAGE = 3 → s.copyImage false = .ok im → s.copyImage true = .error f →
      ∀ u, ((((s.setImgErr true f.1 f.2).applyImage false im).startMgmt).startTree).checkAll = (u, true) →
      s.Completes .imageReadDone fun t => t.rd BOOT_STAT.STAGE = 6) ∧
    (∀ chans units, s.rd BOOT_STAT.STAGE = 6 →
      s.Completes (.startupCalibrationDone chans units) fun t => t.boot.calibrated = true ∧
        ∃ u : State, t.rd BOOT_STAT.STAGE = (if u.boot.runFlag then 7 else 8) ∧
          u = { (s.each chans State.applyChanCal).each units State.applyUnitCal with
            boot := { ((s.each chans State.applyChanCal).each units State.applyUnitCal).boot with calibrated := true } }) ∧
    (s.rd BOOT_STAT.STAGE = 7 → s.timeReady = false → s.Completes .runEntry fun t => t = s)

/-- RUN (R446, R448, R451): RUN_ENTRY of a node whose time is ready enters it, and so does 1 written to GLOBAL_CTRL in
CONFIG when the check of every enable bit passes; a node that waits for its time code waits on. -/
def Obligations.RunIsEntered : Prop :=
  ∀ s : State,
    (s.rd BOOT_STAT.STAGE = 7 → s.timeReady = true →
      s.Completes .runEntry fun t => ∃ u : State, u.running = true ∧ u.rd BOOT_STAT.STAGE = 9 ∧ u.time = s.time ∧
        t = u.firstBreak.2.beginRun u.firstBreak.1) ∧
    (∀ (p : Path) (data : U32) (u : State), s.Reaches p Addr.GLOBAL_CTRL → data.toNat % 2 = 1 → s.rd BOOT_STAT.STAGE = 8 →
      s.checkAll = (u, true) →
      s.Completes (.runWrite p data) fun t =>
        (u.wakeLinks.timeReady = true → t = u.wakeLinks.enterRun) ∧
        (u.wakeLinks.timeReady = false → t = u.wakeLinks.wr BOOT_STAT.STAGE 7 ∧ t.rd BOOT_STAT.STAGE = 7)) ∧
    (∀ (p : Path) (data : U32), s.Reaches p Addr.GLOBAL_CTRL → (data.toNat % 2 = 0 ∨ s.rd BOOT_STAT.STAGE ≠ 8) →
      s.Completes (.runWrite p data) fun t => t = s.accErr p Addr.GLOBAL_CTRL .ignored true)

/-! ## Device time and the flashing bus -/

/-- A course boundary where no epoch is due (R12, R57, R58): device time reaches the boundary, the course count goes up
by one modulo 2^32, and the epoch stays. In a warm reset that is all (R50). -/
def Obligations.CourseBoundaryCountsTheCourse : Prop :=
  ∀ s : State, s.running = true → s.time.runs = true →
    (s.inWarm = true →
      s.Completes .courseBoundary fun t => ∃ u : State,
        u.course = (s.course + 1) % 2 ^ 32 ∧ u.epoch = s.epoch ∧
        u.time.courseAt = s.boundaryFrom (s.time.courseAt + 1) ∧ s.boundaryFrom (s.time.courseAt + 1) ≤ u.now ∧
        t = u.treeDue) ∧
    (s.inWarm = false → s.mg.fatalDue = none → s.staged = [] → s.boot.pendProf = none → s.time.switch = none →
      s.time.causes = 0 → coarseWrap s.time.courseAt (s.boundaryFrom (s.time.courseAt + 1)) = false →
      s.Completes .courseBoundary fun t => ∃ u : State,
        u.course = (s.course + 1) % 2 ^ 32 ∧ u.epoch = s.epoch ∧
        u.time.courseAt = s.boundaryFrom (s.time.courseAt + 1) ∧ s.boundaryFrom (s.time.courseAt + 1) ≤ u.now ∧
        t = u.finishBoundary false [])

/-- The Dorlor time code (R63 to R66, R81): a frame that is not valid counts one CRC error and changes no time; a valid
one locks the time code and takes HOLD; the code is lost while it is locked. Loss and return of the reference (R80):
holdover begins with a NOTE and device time goes on; at the relock A is derived afresh and a relock epoch is due. -/
def Obligations.DorlorFramesAndHoldover : Prop :=
  (∀ s : State, s.time.runs = true →
     (∀ (ok : Bool) (f : BitVec 120) (d : U64), dorlorValid ok f = false →
       s.Completes (.dorlorFrame ok f d) fun t =>
         t = (s.advance (s.unwrap d.toNat + 3968 * tcTf)).count SYN_ERR.CRC ∧
         t.rd SYN_ERR.CRC = min (2 ^ SYN_ERR.CRC.w - 1) (s.rd SYN_ERR.CRC + 1) ∧ t.time.a = s.time.a) ∧
     (∀ (f : BitVec 120) (d : U64), dorlorValid true f = true → dorlorField f 116 4 ≠ 1 →
       s.Completes (.dorlorFrame true f d) fun t => ∃ u : State,
         u.rd TIME_STAT.SYN_LOCK = 1 ∧ u.rd TIME_STAT.SYN_HOLD = dorlorField f 72 1 ∧
         t = u.judgeFrame (dorlorField f 74 42) (s.unwrap d.toNat)) ∧
     (s.rd TIME_STAT.SYN_LOCK = 1 →
       s.Completes .synLoss fun t =>
         t.rd TIME_STAT.SYN_LOCK = 0 ∧ t.rd TIME_EVT.SYN_LOSS = 1 ∧ t.time = s.time ∧
         (∀ a, a ≠ Addr.TIME_STAT → a ≠ Addr.TIME_EVT → t.reg a = s.reg a))) ∧
  (∀ s : State, s.time.runs = true →
     (s.pins.refOk = true →
       s.Completes .refLoss fun t => ∃ u : State,
         u.rd TIME_STAT.HOLDOVER = 1 ∧ u.rd TIME_STAT.PLL_LOCK = 0 ∧ u.pins.refOk = false ∧ u.time = s.time ∧
         t = u.event 0 TIME_EVT.REF_LOSS deviceWide) ∧
     (s.pins.refOk = false →
       s.Completes .pllRelock fun t =>
         t.pins.refOk = true ∧ t.rd TIME_STAT.HOLDOVER = 0 ∧ t.rd TIME_STAT.PLL_LOCK = 1 ∧ t.rd TIME_EVT.RELOCK = 1 ∧
         t.time.causes = Nat.lor s.time.causes 16 ∧ t.time.nextA = some s.sourceA ∧ t.now = s.now))

/-- Words of the trigger line (R68 to R70, R82, R175): a word with a wrong check or kind is only counted; a SYNC word is
scheduled at its action tick; a TRIGGER word is scheduled and becomes a FLASH trigger; idle and activity show. The
trigger driver (R67, R71, R174): the oldest decision leaves, at its launch time or when the line is free, as a TRIGGER
word with its check; the line is then taken for 320 Tc. -/
def Obligations.TriggerLineIsReadAndDriven : Prop :=
  (∀ (s : State) (w : U32) (d : U64),
     (trgKind w.toNat = .bad →
       s.Completes (.badTriggerWord w) fun t =>
         t.rd TRG_ERR.BAD = min (2 ^ TRG_ERR.BAD.w - 1) (s.rd TRG_ERR.BAD + 1) ∧ t.time = s.time ∧
         (∀ a, a ≠ Addr.TRG_ERR → t.reg a = s.reg a)) ∧
     (trgKind w.toNat = .sync →
       s.Completes (.flSyncWord w d) fun t =>
         t.regs = s.regs ∧ ∃ x : TrgWord, t.time.words = s.time.words ++ [x] ∧ x.kind = 2 ∧ x.dAct = s.trgAct d ∧
           x.actAt = ceilTick (s.trgAct d)) ∧
     (trgKind w.toNat = .trigger →
       s.Completes (.flTriggerWord w d) fun t => ∃ u : State,
         (∃ x : TrgWord, u.time.words = s.time.words ++ [x] ∧ x.kind = 1 ∧ x.cls = bits w.toNat 24 4 ∧
           x.id = bits w.toNat 8 16 ∧ x.actAt = ceilTick (s.trgAct d)) ∧
         t = u.newTrigger 0 (bits w.toNat 24 4) (bits w.toNat 8 16) (s.trgAct d)) ∧
     (trgKind w.toNat = .profile → s.rd TIME_CFG.FL_PROFILE = 0 →
       s.Completes (.profileWord w d) fun t => t = s.badTrg) ∧
     (∀ t', trgKind w.toNat = .profile → s.rd TIME_CFG.FL_PROFILE = 1 → s.running = true →
       s.requestProfile (bits w.toNat 24 2) (ceilTick (s.trgAct d)) = (none, t') →
       s.Completes (.profileWord w d) fun t => t = t') ∧
     (∀ x, s.nextWord = some x → x.kind = 2 →
       s.Completes .triggerWordAct fun t => ∃ u : State,
         u.time.words = s.time.words.erase x ∧ u.regs = s.regs ∧ (s.time.runs = true → u.now = max s.now x.actAt) ∧
         t = u.each u.admittedPorts fun v p => v.dlRequest p { k := kSync, at_ := x.actAt }) ∧
     (s.Completes .flTrgIdle fun t => t.rd TIME_STAT.FL_TRG_ACTIVE = 0 ∧ ∀ a, a ≠ Addr.TIME_STAT → t.reg a = s.reg a) ∧
     (s.Completes .flTrgActive fun t => t.rd TIME_STAT.FL_TRG_ACTIVE = 1 ∧ ∀ a, a ≠ Addr.TIME_STAT → t.reg a = s.reg a)) ∧
  (∀ (s : State) (cls id : Nat) (m : Int) (rest : List (Nat × Nat × Int)), s.rd TIME_CFG.FL_DRIVER = 1 →
     s.time.driver = (cls, id, m) :: rest →
     s.Completes .flTrgLaunch fun t =>
       t.time.driver = rest ∧ t.time.driverFree = t.now + 320 * tcTf ∧ t.regs = s.regs ∧ s.now ≤ t.now ∧
       (s.time.runs = true → s.time.driverFree ≤ t.now) ∧
       (cls < 16 → id < 2 ^ 16 → ∃ w, t.time.trgOut = w + 1 ∧ trgKind w = .trigger ∧ bits w 24 4 = cls ∧ bits w 8 16 = id))

/-- Alignment over the Hip (R73 to R75, R77): a probe is kept with its stamp and the next is due 4,096 Tc later; an
aligned parent answers a probe; a reply with the probe's sequence makes an exchange, and the mean delay shows; a
time-set message plans the switch it names. -/
def Obligations.HipAlignmentExchanges : Prop :=
  ∀ s : State,
    (∀ l, s.alignLink = some l →
      s.Completes .hipAlignExchange fun t => ∃ u : State,
        u.time.probes = (s.time.probeSeq, u.now) :: s.time.probes.take 255 ∧
        u.time.probeSeq = (s.time.probeSeq + 1) % 256 ∧ u.time.probeAt = u.now + 4096 * tcTf ∧
        t = u.hipItem l { kind := kindTime, data := [], seq := s.time.probeSeq }) ∧
    (∀ (l : Link) (q : BitVec 8) (d e : U64), s.linkUp l.val = true → s.rd TIME_STAT.ALIGNED = 1 →
      s.Completes (.timeProbeItem l q d e) fun t => ∃ u : State,
        (u.link l.val).timed = true ∧ u.time = s.time ∧
        t = u.hipItem l.val
          { kind := kindTime, data := [s.masterOf (s.unwrap d.toNat), s.masterOf (s.unwrap e.toNat)], seq := q.toNat, reply := true }) ∧
    (∀ (l : Link) (q : BitVec 8) (t2 t3 t4 : U64) (t1 : Nat), s.alignLink = some l.val →
      (s.time.probes.find? fun p => p.1 == q.toNat) = some (q.toNat, t1) → s.time.exch.length < 255 →
      s.Completes (.timeReplyItem l q t2 t3 t4) fun t =>
        t.time.probes = s.time.probes.erase (q.toNat, t1) ∧ t.time.a = s.time.a ∧
        t.time.exch = (tsDiff t2.toNat t1 + tsDiff t3.toNat t4.toNat, tsDiff t4.toNat t1 - tsDiff t3.toNat t2.toNat) ::
          s.time.exch) ∧
    (∀ (l : Link) (q : BitVec 8) (m delta : U64), s.alignLink = some l.val → s.now ≤ s.deviceOf m.toNat →
      toSigned 64 delta.toNat ≠ 0 →
      s.Completes (.tsetItem l q m delta) fun t => ∃ w : Switch,
        t.time.switch = some w ∧ w.at_ = s.deviceOf m.toNat ∧ w.newA = s.time.a + toSigned 64 delta.toNat ∧
        w.jump = toSigned 64 delta.toNat ∧ w.cause = if toSigned 64 delta.toNat < 0 then 2 else 4)

/-- Time's commands (R76, R84, R514): SET_TIME names a master time on a SELF-timed node only, and else completes
WRONG_STATE; FL_COMP written while the device runs is staged, and on a FLASHING-timed node an epoch is due; a consume
read of TIME_LO latches the upper half for the path, and a peek changes nothing. -/
def Obligations.TimeRegistersAndSetTime : Prop :=
  ∀ s : State,
    (∀ (r : DirReq) (g : Nat) (w : Word), s.TakesDir 0x02 r g → r.args = [w] → s.rd TIME_CFG.SOURCE ≠ 2 →
      s.Completes (.setTime r) fun t => t = (s.taken r g).dirWrong (carried r 0x02 g) Addr.TIME_CFG) ∧
    (∀ (r : DirReq) (g : Nat) (w : Word), s.TakesDir 0x02 r g → r.args = [w] → s.rd TIME_CFG.SOURCE = 2 → r.data = 0 →
      s.Completes (.setTime r) fun t => ∃ (u : State) (n : Nat),
        u = (s.taken r g).confirmJump
          (toSigned 64 (ofSigned 64 ((wfield w 0 64 : Int) - ((s.unwrap (wfield w 64 64) : Nat) : Int)))) ∧
        t = u.dirDone (carried r 0x02 g) n) ∧
    (∀ (p : Path) (data : U32), s.Reaches p Addr.FL_COMP → s.running = true → s.rd TIME_CFG.SOURCE = 0 →
      s.Completes (.flCompWrite p data) fun t =>
        t.effReg Addr.FL_COMP = s.effReg Addr.FL_COMP ∧ t.rd FL_COMP.COARSE = bits data.toNat FL_COMP.COARSE.lo FL_COMP.COARSE.w ∧
        t.rd FL_COMP.FINE = bits data.toNat FL_COMP.FINE.lo FL_COMP.FINE.w ∧
        t.time.causes = Nat.lor s.time.causes 128) ∧
    (∀ p : Path, s.pins.answered = true →
      (s.Completes (.timeLoRead p true) fun t =>
        t.latchOf p Addr.TIME_HI = BitVec.ofNat 32 (stamp s.now / 2 ^ 32) ∧ t.regs = s.regs ∧ t.time = s.time) ∧
      (s.Completes (.timeLoRead p false) fun t => t = s))

/-! ## Timing channels -/

/-- A captured transition on an enabled channel (R85 to R94, R102): accepted, it counts an edge and enters the edge
buffer with its corrected timestamp, its polarity and the LOSS gathered, and a leading one is offered to the fast path;
turned away, it counts in the one counter of its condition and the buffer stays. The end of a hold-off in both-edge mode
(R87): a level opposite to the one the last edge left, at a tick that is judged accepted, makes an entry at exactly that
time. -/
def Obligations.TransitionsAndHoldoffEndsMakeEntries : Prop :=
  (∀ (s u : State) (c : Channel) (level : Bool) (tick : BitVec 54) (gates code : BitVec 12),
     u = ((s.advance (s.unwrap (tick.toNat * 1024))).wr (TCH_STAT.LEVEL c) (b2n level)).wr TGATE_LVL.LVL gates.toNat →
     u.rd (TCH_CTRL.EN c) = 1 → captures (u.rd (TCH_CTRL.EDGE c)) level = true →
     (u.judge c (s.unwrap (tick.toNat * 1024) / tcTf) gates.toNat = .accepted →
       s.Completes (.tinTransition c level tick gates code) fun t => ∃ (v : State) (ts fl : Nat),
         ts = (u.measure c (s.unwrap (tick.toNat * 1024) / tcTf) code.toNat).1 ∧
         v.rd (EDGES.N c) = min (2 ^ (EDGES.N c).w - 1) (u.rd (EDGES.N c) + 1) ∧
         (v.chan c).buf = (s.chan c).buf ++ [⟨ts, fl, (s.chan c).loss⟩] ∧ (v.chan c).loss = 0 ∧
         bitAt fl 0 = true ∧ bitAt fl 1 = level ∧ (v.chan c).lastTs = ts ∧
         t = if level then v.offerChan c ts else v) ∧
     (u.judge c (s.unwrap (tick.toNat * 1024) / tcTf) gates.toNat = .disarmed →
       s.Completes (.tinTransition c level tick gates code) fun t =>
         t.rd (DISARMED_CNT.N c) = min (2 ^ (DISARMED_CNT.N c).w - 1) (u.rd (DISARMED_CNT.N c) + 1) ∧
         (t.chan c).buf = (s.chan c).buf ∧ t.rd (EDGES.N c) = u.rd (EDGES.N c)) ∧
     (u.judge c (s.unwrap (tick.toNat * 1024) / tcTf) gates.toNat = .outOfService →
       s.Completes (.tinTransition c level tick gates code) fun t =>
         t.rd (LOST_OOS.N c) = min (2 ^ (LOST_OOS.N c).w - 1) (u.rd (LOST_OOS.N c) + 1) ∧
         t.rd (TCH_EVT.LOSS c) = 1 ∧ (t.chan c).buf = (s.chan c).buf ∧
         (t.chan c).loss = min 0xFFFF ((s.chan c).loss + 1))) ∧
  (∀ (s u : State) (c : Channel) (k : Nat),
     k = (s.chan c).lastTick - 1 + s.eff (TCH_HOLD.TC c) → s.rd (TCH_CTRL.EN c) = 1 → s.rd (TCH_CTRL.EDGE c) = 2 →
     (s.chan c).lastTick ≠ 0 → s.now ≤ k * tcTf → u = s.advance (k * tcTf) →
     u.on (TCH_STAT.LEVEL c) ≠ (s.chan c).lastLevel → u.judge c k (u.rd TGATE_LVL.LVL) = .accepted →
     s.Completes (.holdoffEnd c) fun t => ∃ (v : State) (fl : Nat),
       (v.chan c).buf = (s.chan c).buf ++ [⟨(s.chan c).lastTs + s.eff (TCH_HOLD.TC c) * tcTf, fl, (s.chan c).loss⟩] ∧
       bitAt fl 3 = true ∧ v.rd (EDGES.N c) = min (2 ^ (EDGES.N c).w - 1) (s.rd (EDGES.N c) + 1) ∧
       t = if u.on (TCH_STAT.LEVEL c) then
           v.offerChan c ((s.chan c).lastTs + s.eff (TCH_HOLD.TC c) * tcTf) else v)

/-- Trigger windows (R89): the next window opens, merged with one that is open, and the open one closes at its end. -/
def Obligations.TriggerWindowsOpenAndClose : Prop :=
  ∀ (s : State) (c : Channel),
    (∀ w : Nat × Nat × Bool, (s.chan c).nextWindow = some w →
      s.Completes (.tchWindowOpen c) fun t =>
        (t.chan c).openUntil = some (match (s.chan c).openUntil with | some u => max u w.2.1 | none => w.2.1) ∧
        (t.chan c).windows = (s.chan c).windows.erase w ∧ (t.chan c).buf = (s.chan c).buf) ∧
    (∀ u : Nat, (s.chan c).openUntil = some u →
      s.Completes (.tchWindowClose c) fun t =>
        (t.chan c).openUntil = none ∧ (t.chan c).windows = (s.chan c).windows ∧ t.regs = s.regs ∧
        (s.time.runs = true → t.now = max s.now u) ∧ ∀ d, d ≠ c.val → t.chan d = s.chan d)

/-- Calibration pairs (R91, R93, R95, R110): a pair within its limits gives the interpolator its coefficients and ends
its failures; one outside keeps the previous ones and sets CAL_FAULT; an idle interpolator that is due starts a pair.
Full recalibration (R106, R464): the directive registers the activity, and the group it names is to leave service at the
next course boundary; a group that is done returns at once with RECAL_DONE set on each of its channels. -/
def Obligations.CalibrationPairsAndRecalibration : Prop :=
  (∀ (s : State) (c : Channel) (ip : Fin 2) (c1 c2 : BitVec 12),
     (((s.chan c).interp ip).calibrating = true → 900 ≤ c2.toNat - c1.toNat → c2.toNat - c1.toNat ≤ 1300 →
       c2.toNat ≤ 2 * c1.toNat → 2 * c1.toNat - c2.toNat ≤ 600 →
       s.Completes (.calPairDone c ip c1 c2) fun t =>
         t.coefs c ip = (c2.toNat - c1.toNat, 2 * c1.toNat - c2.toNat) ∧ ((t.chan c).interp ip).fails = 0 ∧
         ((t.chan c).interp ip).calibrating = false ∧ ((t.chan c).interp ip).stale = false ∧
         (t.chan c).buf = (s.chan c).buf) ∧
     (((s.chan c).interp ip).calibrating = true → (c2.toNat < c1.toNat + 900 ∨ c1.toNat + 1300 < c2.toNat) →
       ((s.chan c).interp ip).fails ≠ 2 →
       s.Completes (.calPairDone c ip c1 c2) fun t =>
         t.coefs c ip = s.coefs c ip ∧ t.rd (TCH_EVT.CAL_FAULT c) = 1 ∧
         ((t.chan c).interp ip).fails = ((s.chan c).interp ip).fails + 1 ∧ ((t.chan c).interp ip).stale = true) ∧
     (s.chanInService c = true → s.rd (faultBit c ip) = 0 → ((s.chan c).interp ip).calibrating = false →
       ((s.chan c).interp (1 - ip.val)).calibrating = false →
       s.Completes (.idleCalibrationStart c ip) fun t =>
         ((t.chan c).interp ip).calibrating = true ∧ t.regs = s.regs ∧ (t.chan c).buf = (s.chan c).buf)) ∧
  (∀ s : State,
     (∀ (r : DirReq) (g id : Nat) (u : State), s.TakesDir 0x0A r g → r.args = [] → r.data.toNat < 12 →
       (s.taken r g).register 6 [(2, r.data.toNat, r.data.toNat)] deviceWide = (.id id, u) →
       s.Completes (.timingRecal r) fun t => ∃ v : State,
         (∀ c ∈ groupChans r.data.toNat, (v.chan c).recalDue = true) ∧ v.regs = u.regs ∧
         t = v.dirDone (carried r 0x0A g) id) ∧
     (∀ (g : Fin 12) (chans : List ChanCal) (a : Activity),
       (s.mg.acts.find? fun a => a.code == 6 && a.todo.contains g.val) = some a →
       ((groupChans g).all fun c => (s.chan c).oosAt.isSome) = true →
       s.Completes (.recalGroupDone g chans) fun t => ∃ v : State,
         (∀ c ∈ groupChans g, v.rd (TCH_EVT.RECAL_DONE c) = 1 ∧ (v.chan c).oosAt = none ∧ v.rd (TCH_STAT.MAINT c) = 0) ∧
         (t = v ∨ (∃ n, t = v.recalNext n) ∨
           (∃ b, t = v.endAct b (timingHalf g) (Addr.TCH_EVT (8 * g.val)) (TCH_EVT.RECAL_DONE (8 * g.val)).lo [] 0))))

/-- TIMES records (R97 to R101): the oldest entry of the buffer joins the open course it belongs to; a course whose
entries have all been taken closes with its record, and one that needs no record only counts as skipped. -/
def Obligations.TimesEntriesAndRecords : Prop :=
  ∀ (s u : State) (c : Channel) (r : TchCourse),
    (∀ (e : TimeEntry) (es : List TimeEntry), (s.chan c).buf = e :: es → (s.chan c).courses = [r] →
      u = (if (s.chan c).lastTake = 0 then s else s.advance ((s.chan c).lastTake - 1 + s.takeTc c * tcTf)) →
      u.chanRefuses c = false → courseLt (r.epoch, r.course) (keyEpoch (u.keyAt e.ts), keyCourse (u.keyAt e.ts)) = false →
      r.entries.length < 4090 →
      s.Completes (.timesEntryTake c) fun t =>
        (t.chan c).buf = es ∧ t.regs = s.regs ∧ ∃ r' : TchCourse, (t.chan c).courses = [r'] ∧
          r'.entries = r.entries ++ [e.word r.dCourse] ∧ r'.course = r.course ∧ r'.partNo = r.partNo) ∧
    (∀ rs : List TchCourse, (s.chan c).courses = r :: rs → r.entries ≠ [] →
      ((s.chan c).buf.any fun e => decide (s.keyAt e.ts ≤ s.keyOf r.epoch r.course)) = false →
      s.keyOf r.epoch r.course < s.keyNow →
      s.Completes (.timesRecordClose c) fun t => ∃ v : State,
        (v.chan c).courses = rs ∧ v.regs = s.regs ∧ t = (v.emitTimes c r true).chanBreak c) ∧
    ((s.chan c).courses = [r] → (s.chan c).buf = [] → s.timesWanted c r = false → s.keyOf r.epoch r.course < s.keyNow →
      s.Completes (.timesRecordClose c) fun t =>
        (t.chan c).courses = [] ∧ (t.chan c).skipped = (s.chan c).skipped + 1 ∧ t.regs = s.regs ∧ t.th = s.th)

/-- The self-test (R107, R108): a start on a disabled channel sets BUSY, an abort ends it with ABORTED, and its end
gives the mean, the RMS and the verdict by the limits of R107. -/
def Obligations.SelfTestRunsAndReports : Prop :=
  ∀ (s : State) (c : Channel) (p : Path) (data mean rms : U32),
    (s.Reaches p (Addr.ST_CTRL c) → 16 ≤ bits data.toNat 4 7 → 8 ≤ bits data.toNat 12 4 → bitAt data.toNat 0 = true →
      bitAt data.toNat 1 = false → s.rd (TCH_CTRL.EN c) = 0 → s.rd (ST_STAT.BUSY c) = 0 →
      s.Completes (.stStart p c data) fun t =>
        t.rd (ST_STAT.BUSY c) = 1 ∧ (t.chan c).stAt = s.now ∧ t.rd (ST_CTRL.K c) = bits data.toNat 4 7 ∧
        t.rd (ST_CTRL.LOG2N c) = bits data.toNat 12 4) ∧
    (s.Reaches p (Addr.ST_CTRL c) → 16 ≤ bits data.toNat 4 7 → 8 ≤ bits data.toNat 12 4 → bitAt data.toNat 0 = false →
      bitAt data.toNat 1 = true → s.rd (ST_STAT.BUSY c) = 1 →
      s.Completes (.stAbort p c data) fun t => t.rd (ST_STAT.BUSY c) = 0 ∧ t.rd (ST_STAT.ABORTED c) = 1) ∧
    (s.rd (ST_STAT.BUSY c) = 1 →
      s.Completes (.selfTestDone c mean rms) fun t =>
        t.rd (ST_STAT.BUSY c) = 0 ∧ t.rd (ST_MEAN.V c) = mean.toNat ∧ t.rd (ST_RMS.V c) = rms.toNat ∧
        t.rd (TCH_EVT.ST_DONE c) = 1 ∧
        (t.rd (ST_STAT.PASS c) = 1 ↔ (toSigned 32 mean.toNat).natAbs ≤ 2 * 16 ∧
          10 * rms.toNat ≤ (if s.calEvery c then 37 else 111) * 16) ∧
        t.rd (ST_STAT.PASS c) + t.rd (ST_STAT.FAIL c) = 1)

/-! ## Eave links -/

/-- Bring-up of a port (R134): each step leads to the state the table names, the eighth failure of ALIGN in a row to
FAULT. TRAIN frames (R133 to R135): one that is wrong counts a bad frame and starts the count of good ones again; a good
one, upright and without inversion, shows the front end's identity and counts, and the sixteenth in a row with the
port's own number links the port. -/
def Obligations.EaveBringUpAndTrainFrames : Prop :=
  (∀ (s : State) (p : Port),
     (s.evState p = evClocking → s.Completes (.evClockingDone p) fun t => t.evState p = evAlign ∧ t.ports = s.ports) ∧
     (s.evState p = evAlign →
       s.Completes (.evLock p) fun t => t.evState p = evTrain ∧ (t.port p).goodTrain = 0 ∧ (t.port p).alignFails = 0) ∧
     (s.evState p = evAlign → (s.port p).alignFails ≠ 7 →
       s.Completes (.evAlignTimeout p) fun t =>
         t.evState p = evClocking ∧ (t.port p).alignFails = (s.port p).alignFails + 1) ∧
     (s.evState p = evAlign → (s.port p).alignFails = 7 →
       s.Completes (.evAlignTimeout p) fun t => ∃ u : State,
         (u.port p).alignFails = 0 ∧ u.evState p = evAlign ∧ t = u.evFail p) ∧
     (s.evState p = evTrain → s.Completes (.evTrainTimeout p) fun t => t.evState p = evAlign ∧ t.ports = s.ports) ∧
     (s.evState p = evSwapWait →
       s.Completes (.evSwapTimeout p) fun t => t = (s.refuse 1 p 0x45 (neighbour p)).evFail p)) ∧
  (∀ (s : State) (p : Port) (up endOk : Bool) (h : U64) (body : List U64) (crc : BitVec 8), s.evState p = evTrain →
     (frameGood h body crc endOk = false →
       s.Completes (.trainFrame p up h body crc endOk) fun t =>
         t.rd (EV_BADFRM.N p) = min (2 ^ (EV_BADFRM.N p).w - 1) (s.rd (EV_BADFRM.N p) + 1) ∧ (t.port p).goodTrain = 0 ∧
         t.evState p = evTrain) ∧
     (frameGood h body crc endOk = true → hdrType h = 5 → body.getD 1 0 = trainPattern → up = true →
       bitAt (body.headD 0).toNat 53 = false → bitAt (body.headD 0).toNat 54 = true →
       bits (body.headD 0).toNat 55 9 = p.val →
       ((s.port p).echo = p.val → (s.port p).goodTrain < 15) →
       s.Completes (.trainFrame p up h body crc endOk) fun t =>
         t.rd (EV_FEID.ID p) = bits (body.headD 0).toNat 0 32 ∧ (t.port p).echo = p.val ∧
         (t.port p).goodTrain = (if (s.port p).goodTrain ≠ 0 ∧ (s.port p).echo = p.val then (s.port p).goodTrain + 1 else 1) ∧
         t.evState p = evTrain) ∧
     (frameGood h body crc endOk = true → hdrType h = 5 → body.getD 1 0 = trainPattern → up = true →
       bitAt (body.headD 0).toNat 53 = false → bitAt (body.headD 0).toNat 54 = true →
       bits (body.headD 0).toNat 55 9 = p.val → (s.port p).goodTrain = 15 → (s.port p).echo = p.val →
       s.Completes (.trainFrame p up h body crc endOk) fun t => ∃ u : State,
         u.rd (EV_FEID.ID p) = bits (body.headD 0).toNat 0 32 ∧ (u.port p).goodTrain = 16 ∧ t = u.evLink p))

/-- A frame that is not good (R121): on a port that is LINKED or ACTIVE it counts one bad frame and one discarded, with
LOSS, whatever its kind; a STATUS frame that is good shows the front end's status. A data frame in time (R121 to R124,
R140): a SAMPLE or HIT frame whose time lies in the admitted service and in a course still open is counted and waits in
the receive FIFO with its time; a REPLY answers the relay of its tag, which is then no longer outstanding. -/
def Obligations.UplinkFramesAreJudgedAndHandedOver : Prop :=
  (∀ (s : State) (p : Port) (h : U64) (body : List U64) (crc : BitVec 8) (endOk : Bool), s.evUp p = true →
     (frameGood h body crc endOk = false →
       ∀ c ∈ [Instr.sampleFrame p h body crc endOk, .hitFrame p h body crc endOk, .replyFrame p h body crc endOk,
           .statusFrame p h body crc endOk],
         s.Completes c fun t =>
           t.rd (EV_BADFRM.N p) = min (2 ^ (EV_BADFRM.N p).w - 1) (s.rd (EV_BADFRM.N p) + 1) ∧
           (t.port p).discarded = (s.port p).discarded + 1 ∧ t.rd (EV_EVT.LOSS p) = 1 ∧ (t.port p).rx = (s.port p).rx) ∧
     (frameGood h body crc endOk = true → hdrType h = 4 →
       s.Completes (.statusFrame p h body crc endOk) fun t =>
         t.rd (EV_FESTAT.S p) = bits (body.headD 0).toNat 0 32 ∧ t.rd (EV_EVT.FE_STATUS p) = 1 ∧
         (t.port p).seqSeen = hdrSeq h + 1 ∧ (t.port p).discarded = 0)) ∧
  (∀ (s : State) (p : Port) (h : U64) (body : List U64) (crc : BitVec 8), s.evUp p = true →
     frameGood h body crc true = true →
     (∀ (T : Nat) (c : Instr), (hdrType h = 1 ∧ c = .sampleFrame p h body crc true) ∨
         (hdrType h = 2 ∧ c = .hitFrame p h body crc true) →
       s.frameTime p (hdrClo h) (hdrFtag h) = some T → (s.port p).serves T = true →
       s.fifoOcc (rxFifo p) + body.length + 1 ≤ 512 → s.isClosed p T = false → T < s.courseEnd →
       s.Completes c fun t => ∃ (u : State) (f : RxFrame),
         u.rd (EV_FRAMES.N p) = min (2 ^ (EV_FRAMES.N p).w - 1) (s.rd (EV_FRAMES.N p) + 1) ∧
         (u.port p).rx = (s.port p).rx ++ [f] ∧ f.header = h ∧ f.body = body ∧ f.t = T ∧ f.handAt = s.now ∧
         (u.port p).seqSeen = hdrSeq h + 1 ∧ t = u.settlePort p) ∧
     (∀ r : Relay, hdrType h = 3 →
       ((s.port p).relays.find? fun r => r.feTag == bits (body.headD 0).toNat 56 8) = some r →
       s.Completes (.replyFrame p h body crc true) fun t => ∃ u : State,
         (u.port p).relays = (s.port p).relays.erase r ∧
         t = u.respond r.dst r.tag .done (bits (body.headD 0).toNat 0 32) 0 0 (bits (body.headD 0).toNat 48 8)))

/-- EV3 codewords (R117, R121): corrected symbols and uncorrectable codewords are counted, and the frames whose header
was read in one that is uncorrectable are discarded. Relays to front ends (R129 to R131, R370): a read, write or
read-modify-write that the node accepts waits its turn on a port that is up, and completes LINK_DOWN with the port's
state on one that is not; the oldest that waits is issued under a free tag; one without a reply times out. -/
def Obligations.Ev3CodewordsAndFrontEndRelays : Prop :=
  (∀ (s : State) (p : Port) (n m : Nat), s.rd (EV_CTRL.GEN p) = 2 → evAlign ≤ s.evState p →
     (s.Completes (.ev3Codeword p n false m) fun t =>
       t.rd (EV_FEC_CORR.N p) = min (2 ^ (EV_FEC_CORR.N p).w - 1) (s.rd (EV_FEC_CORR.N p) + n) ∧
       (∀ a, a ≠ Addr.EV_FEC_CORR p → t.reg a = s.reg a) ∧ t.ports = s.ports) ∧
     (s.Completes (.ev3Codeword p n true m) fun t =>
       t.rd (EV_FEC_UNCORR.N p) = min (2 ^ (EV_FEC_UNCORR.N p).w - 1) (s.rd (EV_FEC_UNCORR.N p) + 1) ∧
       (t.port p).discarded = (s.port p).discarded + m ∧ (0 < m → t.rd (EV_EVT.LOSS p) = 1))) ∧
  (∀ (s : State) (lane : Lane) (tag target : BitVec 16) (p : Port) (addr data mask : U32) (g : Nat),
     (s.Accepts lane tag target g →
       ∀ x ∈ [(Instr.feRead lane tag target p addr, 1, 0, 0), (.feWrite lane tag target p addr data, 2, data.toNat, 0),
           (.feRmw lane tag target p addr data mask, 3, data.toNat, mask.toNat)],
         (s.evUp p = true → (s.port p).relayWait.length < 16 →
           s.Completes x.1 fun t => ∃ r : Relay,
             (t.port p).relayWait = (s.port p).relayWait ++ [r] ∧ r.tag = tag.toNat ∧ r.dst = .lanes g ∧ r.op = x.2.1 ∧
             r.addr = addr.toNat % 2 ^ 24 ∧ r.data = x.2.2.1 ∧ r.mask = x.2.2.2 ∧ (t.port p).relays = (s.port p).relays) ∧
         (s.evUp p = false →
           s.Completes x.1 fun t => t =
             (s.accepted lane tag target g).respond (.lanes g) tag.toNat .linkDown 0 (s.evState p))) ∧
     (∀ (r : Relay) (rs : List Relay) (f : Nat), (s.port p).relayWait = r :: rs → (s.port p).freeTag = some f →
       s.evUp p = true → (s.port p).relays.length < s.rd (EV_RLY.MAXOUT p) →
       s.Completes (.relayIssue p) fun t =>
         (t.port p).relays = (s.port p).relays ++ [{ r with feTag := f, at_ := s.now }] ∧ (t.port p).relayWait = rs ∧
         t.rd (EV_STAT.OUTSTANDING p) = ((s.port p).relays.length + 1) % 2 ^ (EV_STAT.OUTSTANDING p).w ∧
         (t.port p).dlOut = Relay.chars { r with feTag := f, at_ := s.now }) ∧
     (∀ (r : Relay) (rs : List Relay), (s.port p).relays = r :: rs →
       s.Completes (.relayTimeout p) fun t => ∃ u : State,
         (u.port p).relays = rs ∧ u.rd (EV_STAT.OUTSTANDING p) = rs.length % 2 ^ (EV_STAT.OUTSTANDING p).w ∧
         t = u.respond r.dst r.tag .timeOut 0 0))

/-- The downlink's timed commands (R126 to R128, R132): HOLD while the port holds, RESUME three times after, the
training sequence while it trains, the TRIGGER asked for first; one that cannot start within 4,095 Tc is dropped and
counted. Lock lost, and an admission that waits too long (R137, R145): the port goes back to ALIGN with its relays lost;
an admission not LINKED within its time is refused with reason 0x44, its enable bit 0 again. -/
def Obligations.DownlinkCommandsAndLockLoss : Prop :=
  (∀ (s : State) (p : Port),
     (s.evState p ≠ evDark → s.rd (EV_STAT.HOLDING p) = 1 →
       s.Completes (.holdRepeat p) fun t => (t.port p).dlOut = [kChar kHold] ∧ t.regs = s.regs) ∧
     (∀ n, s.evState p ≠ evDark → s.rd (EV_STAT.HOLDING p) = 0 → (s.port p).resumeLeft = n + 1 →
       s.Completes (.holdRepeat p) fun t =>
         (t.port p).dlOut = [kChar kResume] ∧ (t.port p).resumeLeft = n ∧ t.regs = s.regs) ∧
     (evClocking ≤ s.evState p → s.evState p ≤ evSwapWait →
       s.Completes (.trainingSend p) fun t =>
         (t.port p).dlOut = [kChar kTraining, p % 256, p / 256 * 128 + 0x55] ∧ t.regs = s.regs) ∧
     (∀ r : DlReq, (s.dlFirst p fun r => r.k == kTrigger) = some r →
       ¬dlLimit < (s.advance r.at_).dlStart p r.at_ - r.at_ →
       s.Completes (.evTriggerCmd p) fun t =>
         (t.port p).dlReq = (s.port p).dlReq.erase r ∧ t.regs = s.regs ∧
         (t.port p).dlOut = r.chars (((s.advance r.at_).dlStart p r.at_ - r.at_) / tcTf)) ∧
     (∀ r : DlReq, (s.dlFirst p fun r => decide (dlLimit < s.dlStart p r.at_ - r.at_)) = some r →
       s.Completes (.evCmdDrop p) fun t =>
         (t.port p).dlReq = (s.port p).dlReq.erase r ∧ t.rd (EV_EVT.TRG_DROP p) = 1 ∧
         t.rd (EV_TRG_DROP.N p) = min (2 ^ (EV_TRG_DROP.N p).w - 1) (s.rd (EV_TRG_DROP.N p) + 1))) ∧
  (∀ (s : State) (p : Port),
     (s.evState p = evLinked →
       s.Completes (.evLockLoss p) fun t => ∃ u v : State,
         u.evState p = evAlign ∧ u.rd (EV_EVT.RETRAIN p) = 1 ∧
         u.rd (EV_RETRAINS.N p) = min (2 ^ (EV_RETRAINS.N p).w - 1) (s.rd (EV_RETRAINS.N p) + 1) ∧
         v = (u.loseRelays p).freshSeq p ∧ t = v.setPort p { v.port p with warmed := false }) ∧
     (s.rd (EV_STAT.ADMIT_PEND p) = 1 → s.evUp p = false →
       s.Completes (.evAdmitTimeout p) fun t => ∃ u : State,
         u.rd (EV_STAT.ADMIT_PEND p) = 0 ∧ u.rd (EV_CTRL.EN p) = 0 ∧ u.evState p = s.evState p ∧
         t = u.refuse 1 p 0x44 (s.evState p)))

/-- A frame leaves the receive FIFO, and a course closes (R124, R140, R155): the oldest frame is reduced while its
outputs do not refuse it; the oldest course still open is closed for intake once its time is over. -/
def Obligations.FramesAreReducedAndCoursesClose : Prop :=
  ∀ (s : State) (p : Port),
    (∀ (f : RxFrame) (fs : List RxFrame), (s.port p).rx = f :: fs → s.outputRefused p (s.courseOf f.t) = false →
      (s.offerFrame p f).fifoRefuses (octetFifo p) = false →
      s.Completes (.frameReduction p) fun t => ∃ u : State,
        (u.port p).rx = fs ∧ (u.port p).offered = false ∧ t = u.settlePort p) ∧
    (∀ (cs : List PortCourse) (c : PortCourse) (ds : List PortCourse), (s.port p).courses = cs ++ c :: ds →
      (∀ b ∈ cs, (s.port p).shut b = true) → (s.port p).shut c = false → s.keyOf c.epoch c.course < s.keyNow →
      s.Completes (.evCourseClose p) fun t => ∃ (u : State) (k : Nat × Nat),
        (u.port p).closed = some k ∧ courseLt k (c.epoch, c.course) = false ∧ (u.port p).courses = cs ++ c :: ds ∧
        t = u.settlePort p)

/-- Port registers (R139, R145, R148, R150, R453): a changed EN is checked and keeps its value; equalisation is written
while EN is 0, and a port that is linked aligns again; a pattern test starts, takes an error, and stops; the bits
checked latch their upper half and clear on a consume read. -/
def Obligations.PortRegistersAct : Prop :=
  ∀ (s : State) (path : Path) (p : Port) (data : U32),
    (s.Reaches path (Addr.EV_CTRL p) → s.evState p ≠ evFault → s.evState p ≠ evPattern → s.rd (EV_STAT.ADMIT_PEND p) = 0 →
      bits data.toNat 0 1 ≠ s.rd (EV_CTRL.EN p) →
      s.Completes (.evEnWrite path p data) fun t =>
        t.rd (EV_CTRL.EN p) = s.rd (EV_CTRL.EN p) ∧
        t.boot.checks = s.boot.checks ++ [⟨1, p, bits data.toNat 0 1 == 1, none, 1⟩]) ∧
    (∀ hi : Bool, s.Reaches path (if hi then Addr.EV_EQ_HI p else Addr.EV_EQ_LO p) → s.rd (EV_CTRL.EN p) = 0 →
      s.evState p = evLinked →
      s.Completes (.evEqWrite path p hi data) fun t =>
        t.reg (if hi then Addr.EV_EQ_HI p else Addr.EV_EQ_LO p) = data ∧ t.evState p = evAlign) ∧
    (s.Reaches path (Addr.EV_PAT_CTRL p) → s.rd (EV_CTRL.EN p) = 0 → s.evState p ≠ evDark → bits data.toNat 8 5 = 0 →
      data.toNat % 8 = 1 →
      s.Completes (.evPatStart path p data) fun t =>
        t.evState p = evPattern ∧ t.rd (EV_PAT_STAT.SYNC p) = 0 ∧ t.rd (EV_PAT_STAT.BUSY p) = 1) ∧
    (s.Reaches path (Addr.EV_PAT_CTRL p) → s.evState p = evPattern → bits data.toNat 8 5 = 0 → data.toNat % 8 = 2 →
      s.Completes (.evPatStop path p data) fun t => t.evState p = evAlign ∧ t.rd (EV_PAT_STAT.BUSY p) = 0) ∧
    (s.Reaches path (Addr.EV_PAT_CTRL p) → s.evState p = evPattern → bits data.toNat 8 5 = 0 → data.toNat % 8 = 4 →
      s.Completes (.evPatInjOne path p data) fun t =>
        (t.port p).patInject = (s.port p).patInject + 1 ∧ t.evState p = evPattern) ∧
    (s.pins.answered = true →
      (s.Completes (.evPatBitsRead path true p) fun t =>
        (t.port p).patBits = 0 ∧ t.regs = s.regs ∧
        t.latchOf path (Addr.EV_PAT_BITS_HI p) = BitVec.ofNat 32 ((s.port p).patBits / 2 ^ 32 % 2 ^ 16)) ∧
      (s.Completes (.evPatBitsRead path false p) fun t => t = s))

/-! ## Primitives, decisions, triggers and acquisition groups -/

/-- Clusters and primitives (R165 to R168): a cluster below its group's limits is only counted; one that passes becomes
a primitive that waits in its half's queue for a frame toward the parent, which takes every primitive then waiting, at
least `BATCH` after the last; the oldest waiting is cut off, counted, at its deadline; with 64 waiting a new one is
lost. Items of the tree (R171, R172, R380, R387): a child's primitive reaches the decision unit and goes on to the
parent one hop further; the parent's decision goes to the children and to this node's driver and acceptance; a link that
is not up, or for a decision not the parent's, brings nothing. -/
def Obligations.ClustersAndTreeItemsAct : Prop :=
  (∀ (s : State) (g : Fin 128) (h : Half),
     (Tab.get none s.acq.clusters g.val = none → s.Completes (.clusterClose g) fun t => t = s) ∧
     (∀ c, Tab.get none s.acq.clusters g.val = some c →
       (c.count < s.eff (PR_GRP.MINCNT g) ∨ c.sum < s.eff (PR_GRP.MINSUM g) →
         s.Completes (.clusterClose g) fun t =>
           Tab.get none t.acq.clusters g.val = none ∧ t.rd PRIM_SUPP.N = min (2 ^ PRIM_SUPP.N.w - 1) (s.rd PRIM_SUPP.N + 1) ∧
           t.acq.primN = s.acq.primN ∧ t.acq.primS = s.acq.primS ∧ t.acq.store = s.acq.store ∧ t.acq.prims = s.acq.prims) ∧
       (s.eff (PR_GRP.MINCNT g) ≤ c.count → s.eff (PR_GRP.MINSUM g) ≤ c.sum → s.isRoot = false → s.parentLink ≠ none →
         (s.primQ (g.val / 64)).length < 64 →
         s.Completes (.clusterClose g) fun t =>
           Tab.get none t.acq.clusters g.val = none ∧
           t.primQ (g.val / 64) =
             s.primQ (g.val / 64) ++ [⟨(s.advance c.closeAt).primOf g.val c, c.handAt, c.course⟩] ∧
           t.acq.store = s.acq.store) ∧
       (s.eff (PR_GRP.MINCNT g) ≤ c.count → s.eff (PR_GRP.MINSUM g) ≤ c.sum → s.isRoot = true →
         (s.primQ (g.val / 64)).length < 64 → (s.advance c.closeAt).now ≤ c.handAt + primDeadlineTf →
         s.Completes (.clusterClose g) fun t => ∃ (u : State) (w : Word),
           w = (s.advance c.closeAt).primOf g.val c ∧ Tab.get none u.acq.clusters g.val = none ∧
           u.rd PRIM_SENT.N = min (2 ^ PRIM_SENT.N.w - 1) (s.rd PRIM_SENT.N + 1) ∧ t = (u.markPrim w 108).decide_ w) ∧
       (s.eff (PR_GRP.MINCNT g) ≤ c.count → s.eff (PR_GRP.MINSUM g) ≤ c.sum → 64 ≤ (s.primQ (g.val / 64)).length →
         s.Completes (.clusterClose g) fun t => ∃ u : State,
           Tab.get none u.acq.clusters g.val = none ∧ u.acq.primN = s.acq.primN ∧ u.acq.primS = s.acq.primS ∧
           t = (u.count PRIM_LOST.N).event (g.val / 64) TRG_EVT.PRIM_LOST (unitId 9 (g.val / 64)))) ∧
     (∀ l, s.parentLink = some l → s.isRoot = false → (s.acq.primN ≠ [] ∨ s.acq.primS ≠ []) →
       s.Completes .primFrameLaunch fun t => ∃ u : State,
         u.acq.primN = [] ∧ u.acq.primS = [] ∧ u.acq.lastLaunch = u.now + 1 ∧
         (s.acq.lastLaunch ≠ 0 → u = { s.advance (s.acq.lastLaunch - 1 + s.eff PR_TIMING.BATCH * tcTf) with acq := u.acq }) ∧
         t = u.launchPrims l (s.acq.primN ++ s.acq.primS)) ∧
     (s.parentLink = none ∨ s.isRoot = true ∨ (s.acq.primN = [] ∧ s.acq.primS = []) →
       s.Completes .primFrameLaunch fun t => t = s) ∧
     (∀ p ps, s.primQ h.val = p :: ps →
       s.Completes (.primDeadline h) fun t => ∃ u : State,
         u.primQ h.val = ps ∧ u.rd PRIM_LATE.N = min (2 ^ PRIM_LATE.N.w - 1) (s.rd PRIM_LATE.N + 1) ∧
         u.rd TRG_EVT.PRIM_LATE = 1 ∧ t = if u.isRoot then u else u.decide_ p.prim) ∧
     (s.primQ h.val = [] → s.Completes (.primDeadline h) fun t => t = s)) ∧
  (∀ (s : State) (l : Link) (prim : Word) (wait : BitVec 16) (hops : BitVec 8) (last : Bool) (dec : BitVec 96)
     (root : BitVec 16),
     (s.linkUp l.val = true →
       s.Completes (.hipPrimItem l prim wait hops last) fun t => ∃ u : State,
         u = (s.count (HIP_ITEMS_RX.N l)).decide_ prim ∧
         ((u.parentLink = none ∨ u.isRoot = true) → t = u) ∧
         (∀ m, u.parentLink = some m → u.isRoot = false →
           t = u.hipItem m { kind := kindPrim, data := wordBlocks prim, wait := wait.toNat, hops := min 255 (hops.toNat + 1), last := last })) ∧
     (s.linkUp l.val = true → s.parentLink = some l.val →
       s.Completes (.hipDecItem l dec hops root) fun t => ∃ u : State,
         u = (s.count (HIP_ITEMS_RX.N l)).decDown dec.toNat (min 255 (hops.toNat + 1)) root.toNat ∧
         t = u.hipDecision (bits dec.toNat 64 4) (bits dec.toNat 68 16) (bits dec.toNat 0 64) (bitAt dec.toNat 84)) ∧
     (s.linkUp l.val = false → s.Completes (.hipPrimItem l prim wait hops last) fun t => t = s) ∧
     (s.linkUp l.val = false ∨ s.parentLink ≠ some l.val → s.Completes (.hipDecItem l dec hops root) fun t => t = s))

/-- Triggers (R175 to R177, R179, R464): one of an enabled source, in time, waits for acceptance with its action time
raised to a coarse tick; the TRIGGER directive and an automatic class raise one; the oldest waiting merges into an
accepted trigger within the tolerance, and is counted, or is accepted; with 32 MARKs due none is accepted. -/
def Obligations.TriggersWaitAndAreAccepted : Prop :=
  ∀ s : State,
    (∀ (src cls id dAct : Nat) (forced : Bool),
      (bitAt (s.eff TRG_CTRL.SRC_EN) src = false → s.newTrigger src cls id dAct forced = s) ∧
      (bitAt (s.eff TRG_CTRL.SRC_EN) src = true → s.now + 16 * tcTf ≤ dAct → s.acq.acceptQ.length < 32 →
        (s.newTrigger src cls id dAct forced).acq.acceptQ =
          s.acq.acceptQ ++ [⟨cls, id, 2 ^ src, dAct, ceilTick dAct, false, forced, false⟩] ∧
        (s.newTrigger src cls id dAct forced).regs = s.regs)) ∧
    (∀ r g, s.TakesDir 0x03 r g → r.args.length ≤ 1 → bits r.data.toNat 4 12 = 0 → wfield (r.args.getD 0 0) 64 64 = 0 →
      s.Completes (.trigger r) fun t =>
        t = ((s.taken r g).newTrigger 3 (bits r.data.toNat 0 4) (bits r.data.toNat 16 16)
          (if wfield (r.args.getD 0 0) 0 64 = 0 then s.now + s.eff TRG_CTRL.DIR_DLY * tcTf
           else s.deviceOf (wfield (r.args.getD 0 0) 0 64))).dirDone (carried r 0x03 g) 0) ∧
    (∀ r g, s.TakesDir 0x03 r g → (1 < r.args.length ∨ bits r.data.toNat 4 12 ≠ 0) →
      s.Completes (.trigger r) fun t => t = (s.taken r g).dirBad (carried r 0x03 g)) ∧
    (∀ k : Fin 16,
      (s.eff (TRG_AUTO.TMO k) = 0 ∨ bitAt (s.eff TRG_CTRL.SRC_EN) 4 = false ∨ s.running = false →
        s.Completes (.autoTrigger k) fun t => t = s) ∧
      (∀ due, due = Tab.get 0 s.acq.autoFrom k.val + usTf (s.eff (TRG_AUTO.TMO k)) → s.eff (TRG_AUTO.TMO k) ≠ 0 →
        bitAt (s.eff TRG_CTRL.SRC_EN) 4 = true → s.running = true → due ≤ (s.advance due).now → s.isRoot = false →
        s.Completes (.autoTrigger k) fun t => ∃ u : State,
          u.now = (s.advance due).now ∧ u.rd AUTO_FIRED.N = min (2 ^ AUTO_FIRED.N.w - 1) (s.rd AUTO_FIRED.N + 1) ∧
          Tab.get 0 u.acq.autoFrom k.val = u.now ∧ u.acq.decCount = s.acq.decCount + 1 ∧
          t = u.newTrigger 4 k.val s.acq.decCount.toNat u.now true)) ∧
    (s.acq.acceptQ = [] ∨ s.acceptWaits = true → s.Completes .triggerAccept fun t => t = s) ∧
    (∀ x xs, s.acq.acceptQ = x :: xs → s.acceptWaits = false →
      (∀ a, s.acq.accepted.find? (mergesInto (s.eff TRG_CTRL.MERGE_TOL * tcTf) x) = some a →
        s.Completes .triggerAccept fun t =>
          t.acq.acceptQ = xs ∧ t.rd TRG_MERGED.N = min (2 ^ TRG_MERGED.N.w - 1) (s.rd TRG_MERGED.N + 1) ∧
          t.acq.accepted = s.acq.accepted.map (fun y => if y = a then a.absorb x else y) ∧
          t.rd TRG_ACCEPT.N = s.rd TRG_ACCEPT.N) ∧
      (s.acq.accepted.find? (mergesInto (s.eff TRG_CTRL.MERGE_TOL * tcTf) x) = none →
        s.Completes .triggerAccept fun t => ∃ u : State,
          u.acq.acceptQ = xs ∧ u.acq.accepted = x :: s.acq.accepted ∧ Tab.get 0 u.acq.autoFrom x.cls = s.now ∧
          u.rd TRG_ACCEPT.N = min (2 ^ TRG_ACCEPT.N.w - 1) (s.rd TRG_ACCEPT.N + 1) ∧
          (u.takingGroups x.cls 1 = [] → t = (u.openTimingWindows x).forwardTrigger x)))

/-- MARKs, windows and PRIMS records (R175, R181 to R183, R188): a trigger acts in order at its coarse tick, with a MARK
of its sequence number and course for a STREAM group; a MARK due is written once its queue is below its limit; a window
whose courses are closed goes when its MARKs and records are pushed; a half's PRIMS record closes with its primitives.
-/
def Obligations.MarksWindowsAndPrimsAreWritten : Prop :=
  ∀ (s : State) (h : Half) (g : Fin 16),
    (s.nextToAct = none → s.Completes .triggerAct fun t => t = s) ∧
    (∀ x, s.nextToAct = some x →
      s.Completes .triggerAct fun t => ∃ u : State,
        u.now = (s.advance x.actAt).now ∧ u.regs = s.regs ∧
        u.acq.accepted = s.acq.accepted.map (fun y => if y = x then { x with acted := true } else y) ∧
        (u.takingGroups x.cls 0 = [] → t = u) ∧
        (∀ a b, u.takingGroups x.cls 0 = [a] → [0, 1].filter (fun h => u.groupActive h a) = [b] →
          t = (u.nextSeq a).2.dueMark b
            { group := a, trig := x, seq := (u.nextSeq a).1, course := keyCourse (u.keyAt x.dAct)
              epoch := keyEpoch (u.keyAt x.dAct) })) ∧
    (s.marksDue h.val = [] → s.Completes (.markWrite h) fun t => t = s) ∧
    (∀ m ms, s.marksDue h.val = m :: ms →
      (s.markWaits h.val m = true → s.Completes (.markWrite h) fun t => t = s) ∧
      (s.markWaits h.val m = false →
        s.Completes (.markWrite h) fun t => ∃ u : State, u.marksDue h.val = ms ∧ u.regs = s.regs ∧ t = u.writeMark h.val m)) ∧
    (s.acq.windows.find? (fun w => w.half == h.val && w.group == g.val) = none →
      s.Completes (.circWindowPush h g) fun t => t = s) ∧
    (∀ w, s.acq.windows.find? (fun w => w.half == h.val && w.group == g.val) = some w →
      ((w.pushing = false ∧ s.windowDone w = false) ∨ s.marksDue h.val ≠ [] →
        s.Completes (.circWindowPush h g) fun t => t = s) ∧
      (∀ u v, (w.pushing = true ∨ s.windowDone w = true) → s.marksDue h.val = [] → s.writeMarks w w.marks = ([], u) →
        (u.pushRecs (u.windowRecs w) = (true, v) →
          s.Completes (.circWindowPush h g) fun t => ∃ x : State, t = x.syncAcq g ∧
            x.acq.windows = v.acq.windows.filterMap (fun y => if y = w then none else some y) ∧
            w.last_ v + 1 ≤ Tab.get 0 x.acq.pushedTo (16 * h.val + g.val)) ∧
        (u.pushRecs (u.windowRecs w) = (false, v) →
          s.Completes (.circWindowPush h g) fun t => ∃ x : State, t = x.syncAcq g ∧
            x.acq.windows =
              v.acq.windows.filterMap (fun y => if y = w then some { w with marks := [], pushing := true } else some y)))) ∧
    (s.acq.primCourses.find? (fun x => x.1 == h.val) = none → s.Completes (.primsRecordClose h) fun t => t = s) ∧
    (∀ x u, s.acq.primCourses.find? (fun x => x.1 == h.val) = some x →
      (s.keyNow ≤ x.2 → s.Completes (.primsRecordClose h) fun t => t = s) ∧
      (x.2 < s.keyNow → u = s.advance (s.keyEnd x.2 + 2560 * tcTf) → u.acq.clusters = [] →
        u.writerRefuses (608 + h.val) (u.primsQueue h.val) = false →
        s.Completes (.primsRecordClose h) fun t => ∃ v : State, ∃ ws : List Word,
          v.acq.primCourses = s.acq.primCourses.erase x ∧ v.now = u.now ∧
          ws = (s.acq.prims.filter fun p => p.1 == h.val && p.2.1 == x.2).map (fun p => p.2.2) ∧
          v.acq.prims = s.acq.prims.filter (fun p => !(p.1 == h.val && p.2.1 == x.2)) ∧
          t = v.primsRecs h.val x.2 0 (ws.length + 1) ws))

/-! ## Warm and unit resets -/

/-- A warm reset (R46 to R50, R464): WARM_RESET with its own word begins one, which keeps no hold, FIFO item or bank
lock and no dump in progress; it ends in the stage it left, RUN saying so with a NOTE; a UNIT_RESET resets the unit it
names, and a directive that names none is malformed. -/
def Obligations.WarmAndUnitResetsAct : Prop :=
  ∀ (s : State) (r : DirReq) (g : Nat),
    (s.TakesDir 0x12 r g → r.args = [] → r.data = 0x57525354 →
      s.Completes (.warmReset r) fun t =>
        t.rd BOOT_STAT.STAGE = 11 ∧ t.mg.warmKind = 3 ∧ t.mg.dump = none ∧ t.mg.fatalDue = none ∧ t.th.holds = [] ∧
        t.th.fifos = [] ∧ t.th.locks = [] ∧ t.th.dirty = [] ∧ t = ((s.taken r g).dirDone (carried r 0x12 g) 0).beginWarm 3 0) ∧
    (s.TakesDir 0x12 r g → (r.args ≠ [] ∨ r.data ≠ 0x57525354) →
      s.Completes (.warmReset r) fun t => t = (s.taken r g).dirBad (carried r 0x12 g)) ∧
    (s.inWarm = false → s.Completes .warmResetEnd fun t => t = s) ∧
    (s.inWarm = true → s.running = false → s.mg.loft = [] →
      s.Completes .warmResetEnd fun t =>
        t.rd BOOT_STAT.STAGE = 8 ∧ t.rd MG_DUMP_STAT.HELD = 0 ∧ t.mg.warmKind = 0 ∧ t.mg.frozen = false ∧ t.mg.fatal = none) ∧
    (s.inWarm = true → s.running = true →
      s.Completes .warmResetEnd fun t => ∃ u : State,
        u.rd BOOT_STAT.STAGE = 9 ∧ u.mg.warmKind = 0 ∧ u.mg.frozen = false ∧ u.mg.fatal = none ∧ u.acq.accepted = [] ∧
        u.acq.windows = [] ∧
        t = ((u.note 0 Addr.RST_CAUSE 0 .reset deviceWide [s.mg.warmKind, u.rd RST_CAUSE.FATAL, u.courseAfter]).pushLoft).ledgerStart) ∧
    (∀ kind index, s.TakesDir 0x13 r g → r.args = [] → kind = r.data.toNat / 2 ^ 24 → index = r.data.toNat % 2 ^ 24 →
      (resetKind kind = true → (kindIndices kind).contains index = true →
        s.Completes (.unitReset r) fun t => t = ((s.taken r g).resetUnit kind index).dirDone (carried r 0x13 g) 0) ∧
      (resetKind kind = false ∨ (kindIndices kind).contains index = false →
        s.Completes (.unitReset r) fun t => t = (s.taken r g).dirBad (carried r 0x13 g)))

/-! ## The store -/

/-- The word window and the error check (R196, R217, R222, R224, R225, R237): a write changes the quarter it names and
no other word; the loft ignores writes; a read changes at most the path's latch; a granted read takes a credit, corrects
up to two bits, poisons on three, and counts no error of an unwritten or poisoned word. -/
def Obligations.StoreWordsAreKept : Prop :=
  ∀ (s : State) (p : Path) (a : BitVec 23) (q : Fin 4) (data : U32) (cls : Fin 12),
    (s.pins.answered = true → s.windowGate p a.toNat q 2 = none → inLoft a.toNat = false →
      s.Completes (.windowWrite p a q data) fun t =>
        t.tword a.toNat =
          some ⟨BitVec.ofNat 128 (setBits (s.loadWord a.toNat).1.toNat (32 * q.val) 32 data.toNat), (s.loadWord a.toNat).2⟩ ∧
        (∀ b, b ≠ a.toNat → t.tword b = s.tword b) ∧ t.regs = s.regs ∧ t.th.dirty = s.th.dirty) ∧
    (s.pins.answered = true → s.windowGate p a.toNat q 2 = none → inLoft a.toNat = true →
      s.Completes (.windowWrite p a q data) fun t => t = s.accErr p (windowAddr a.toNat q) .ignored true) ∧
    (∀ e, s.pins.answered = true → s.windowGate p a.toNat q 2 = some e →
      s.Completes (.windowWrite p a q data) fun t => t = s.accErr p (windowAddr a.toNat q) e true) ∧
    (s.pins.answered = false → s.Completes (.windowWrite p a q data) fun t => t = s) ∧
    (∀ consume, (s.pins.answered = false ∨ (s.windowGate p a.toNat q 1 = none ∧ q ≠ 0)) →
      s.Completes (.windowRead p consume a q) fun t => t = s) ∧
    (∀ consume, s.pins.answered = true → s.windowGate p a.toNat 0 1 = none →
      s.Completes (.windowRead p consume a 0) fun t => ∃ w, t = { s with winLatch := w } ∧
        Tab.get none w (Path.accCode p) = some (a.toNat, (s.loadWord a.toNat).1, (s.loadWord a.toNat).2)) ∧
    (s.credit (bankOf a.toNat) cls ≠ 0 → ∀ errs,
      s.Completes (.bankRead a cls errs) fun t =>
        ∃ u : State, u = { s with th := u.th } ∧ u.th.words = s.th.words ∧
          u.credit (bankOf a.toNat) cls = s.credit (bankOf a.toNat) cls - 1 ∧
          (s.tword a.toNat = none → t = u.scrubCount a.toNat cls 0 0 1) ∧
          (∀ w, s.tword a.toNat = some w → w.poison = true → t = u.scrubCount a.toNat cls 0 1 0) ∧
          (∀ w, s.tword a.toNat = some w → w.poison = false → errs = 0 → t = u.scrubCount a.toNat cls 0 0 0) ∧
          (∀ w, s.tword a.toNat = some w → w.poison = false → (errs = 1 ∨ errs = 2) →
            t = (u.correctWord a.toNat).scrubCount a.toNat cls 1 0 0 ∧
            (Tab.get 0 s.th.migCorr (bankOf a.toNat) + 1 ≠ s.rd TH_MIG_LIMIT.CORR_LIMIT →
              t.tword a.toNat = some w ∧
              t.rd (TH_BANK_ERR.CORR (bankOf a.toNat)) =
                min (2 ^ (TH_BANK_ERR.CORR (bankOf a.toNat)).w - 1) (s.rd (TH_BANK_ERR.CORR (bankOf a.toNat)) + 1))) ∧
          (∀ w, s.tword a.toNat = some w → w.poison = false → errs = 3 →
            t = (u.poisonWord a.toNat w).scrubCount a.toNat cls 0 1 0 ∧
            (Tab.get 0 s.th.migUncorr (bankOf a.toNat) + 1 ≠ s.rd TH_MIG_LIMIT.UNCORR_LIMIT →
              t.tword a.toNat = some { w with poison := true } ∧ t.rd TH_EVT.UNCORR = 1))) ∧
    (s.credit (bankOf a.toNat) cls = 0 → s.tword a.toNat = none → ∀ errs,
      s.Completes (.bankRead a cls errs) fun t => t = s.scrubCount a.toNat cls 0 0 1)

/-- Handshake FIFOs (R209 to R214): a push enters at the end while the FIFO has room and does not refuse; a read moves P
on; MARK, REWIND and RELEASE move M, P and R; no other FIFO changes. Bundles, arbitration and bank locks (R201, R217 to
R221): a bundle that nothing holds and its writer has left is free again, its words unwritten; a window gives every
class its weight, a new weight waiting for it; starvation is flagged with its bank and class; a lock past its limit
breaks. -/
def Obligations.FifosBanksAndBundlesAreShared : Prop :=
  (∀ (s : State) (f g : FifoId) (item : Word) (errs : Nat), g.key ≠ f.key →
     (f.depth ≤ s.fifoOcc f ∨ s.fifoRefuses f = true → s.Completes (.fifoPush f item errs) fun t => t = s) ∧
     (s.fifoOcc f < f.depth → s.fifoRefuses f = false →
       s.Completes (.fifoPush f item 0) fun t =>
         t.fifo f = { s.fifo f with items := (s.fifo f).items ++ [(item, false)] } ∧ t.fifo g = s.fifo g ∧ t.regs = s.regs) ∧
     (s.fifoOcc f < f.depth → s.fifoRefuses f = false →
       s.Completes (.fifoPush f item 1) fun t =>
         t.fifo f = { s.fifo f with items := (s.fifo f).items ++ [(item, false)] } ∧ t.fifo g = s.fifo g ∧
         t.rd TH_FIFO_CORR.N = min (2 ^ TH_FIFO_CORR.N.w - 1) (s.rd TH_FIFO_CORR.N + 1)) ∧
     (s.fifoOcc f < f.depth → s.fifoRefuses f = false → fifoClass f = .data →
       s.Completes (.fifoPush f item 2) fun t =>
         t.fifo f = { s.fifo f with uncorrSeen := true, items := (s.fifo f).items ++ [(item, true)] } ∧ t.fifo g = s.fifo g ∧
         t.rd TH_FIFO_UNCORR.N = min (2 ^ TH_FIFO_UNCORR.N.w - 1) (s.rd TH_FIFO_UNCORR.N + 1)) ∧
     (s.fifoOcc f < f.depth → s.fifoRefuses f = false → fifoClass f = .control →
       s.Completes (.fifoPush f item 2) fun t => ∃ u : State,
         u.mg.fatal = s.mg.fatal ∧ (u.fifo f).items = (s.fifo f).items ∧
         t = u.fatality ⟨1, unitId 0 0, FifoId.index f, true, [], true⟩) ∧
     (∀ x, (s.fifo f).items[(s.fifo f).p]? = some x →
       s.Completes (.fifoRead f 0) fun t =>
         t.fifo f = { s.fifo f with items := (s.fifo f).items.set (s.fifo f).p x, p := (s.fifo f).p + 1 } ∧
         t.fifo g = s.fifo g ∧ t.regs = s.regs) ∧
     ((s.fifo f).items[(s.fifo f).p]? = none → s.Completes (.fifoRead f errs) fun t => t = s) ∧
     (s.Completes (.fifoMark f) fun t =>
       t.fifo f = { s.fifo f with m := (s.fifo f).p } ∧ t.fifo g = s.fifo g ∧ t.regs = s.regs) ∧
     (s.Completes (.fifoRewind f) fun t =>
       t.fifo f = { s.fifo f with p := (s.fifo f).m } ∧ t.fifo g = s.fifo g ∧ t.regs = s.regs) ∧
     (s.Completes (.fifoRelease f) fun t =>
       t.fifo f = { s.fifo f with items := (s.fifo f).items.drop (s.fifo f).p, p := 0, m := 0 } ∧ t.fifo g = s.fifo g ∧
       t.regs = s.regs)) ∧
  (∀ s : State,
     (∀ b : Bundle,
       (s.isFree b.val = false → s.holds b.val = 0 → s.writerLeft b.val = true → s.bundleLocked b.val = false →
         s.Completes (.bundleRecycle b) fun t => ∃ u : State,
           u.isFree b.val = true ∧ u.regs = s.regs ∧ t = u.syncPool.resumeWriters ∧
           ∀ x ∈ u.th.words, x.1 / 256 ≠ b.val ∧ x ∈ s.th.words) ∧
       (s.isFree b.val = true ∨ s.holds b.val ≠ 0 ∨ s.writerLeft b.val = false ∨ s.bundleLocked b.val = true →
         s.Completes (.bundleRecycle b) fun t => t = s)) ∧
     (s.Completes .arbiterWindow fun t =>
       (∀ (b : Bank) (cls : Fin 12), t.credit b.val cls =
         if bankHalf b.val = 0 then s.rd (TH_WEIGHT_N.W cls) else s.rd (TH_WEIGHT_S.W cls)) ∧
       t.th.words = s.th.words ∧ t.th.fifos = s.th.fifos ∧ t.regs = s.regs) ∧
     (∀ (p : Path) (cls : Fin 12) (data : U32),
       (s.Reaches p (Addr.TH_WEIGHT_N cls) → s.Completes (.thWeightWrite p 0 cls data) fun t =>
         t.rd (TH_WEIGHT_N.W cls) = bits data.toNat (TH_WEIGHT_N.W cls).lo (TH_WEIGHT_N.W cls).w ∧
         ∀ c : Fin 12, t.weight 0 c = s.weight 0 c) ∧
       (s.Reaches p (Addr.TH_WEIGHT_S cls) → s.Completes (.thWeightWrite p 1 cls data) fun t =>
         t.rd (TH_WEIGHT_S.W cls) = bits data.toNat (TH_WEIGHT_S.W cls).lo (TH_WEIGHT_S.W cls).w ∧
         ∀ c : Fin 12, t.weight 1 c = s.weight 1 c)) ∧
     (∀ (b : Bank) (cls : Fin 12), (12 * bankHalf b.val + cls.val) ∈ s.th.starveNoted →
       s.Completes (.starvation b cls) fun t =>
         t.rd TH_STARVE_LAST.BANK = b.val ∧ t.rd TH_STARVE_LAST.CLASS = cls.val ∧ t.rd TH_EVT.STARVE = 1 ∧
         bitAt (t.reg (if bankHalf b.val = 0 then Addr.TH_STARVE_N else Addr.TH_STARVE_S)).toNat cls = true ∧ t.th = s.th) ∧
     (∀ (b : Bank) (cls : Fin 12), (12 * bankHalf b.val + cls.val) ∉ s.th.starveNoted →
       s.Completes (.starvation b cls) fun t => ∃ u : State,
         u.rd TH_STARVE_LAST.BANK = b.val ∧ u.rd TH_STARVE_LAST.CLASS = cls.val ∧ u.rd TH_EVT.STARVE = 1 ∧
         u.th.starveNoted = (12 * bankHalf b.val + cls.val) :: s.th.starveNoted ∧
         t = u.note (bankHalf b.val) (if bankHalf b.val = 0 then Addr.TH_STARVE_N else Addr.TH_STARVE_S) cls .event b []) ∧
     (∀ k : Core,
       (∀ l, (s.core k).lock = some l → l.broken = false →
         s.Completes (.lockBreak k) fun t => ∃ u : State, u = s.failSeq k ∧
           (t.core k).lock = some { l with broken := true, held := [] } ∧ t = u.setCore k (t.core k)) ∧
       ((s.core k).lock = none ∨ (∃ l, (s.core k).lock = some l ∧ l.broken = true) →
         s.Completes (.lockBreak k) fun t => t = s)))

/-- Scrubbing and migration (R228 to R235, R463, R464, R496, R512): a start by the management cores or by a directive is
registered and shows BUSY, or is refused; an abort ends the pass with the counts reached; a pass that ends has read its
whole range; a migration ends with the spare in the bank's place. -/
def Obligations.ScrubsAndMigrationsRun : Prop :=
  ∀ s : State,
    (∀ (data : U32) (c : Instr), c = .thScrubStart .mcN data ∨ c = .thScrubAbort .mcN data →
      s.Reaches .mcN Addr.TH_SCRUB_CTRL →
      (bitAt data.toNat 0 = true → bitAt data.toNat 1 = false →
        s.Completes c fun t =>
          t = s.refuseStart 9 (s.startScrub (s.rd TH_SCRUB_START.A) (s.rd TH_SCRUB_END.A))) ∧
      (bitAt data.toNat 0 = false → bitAt data.toNat 1 = true → s.Completes c fun t => t = s.abortScrub .register)) ∧
    (∀ (data : U32) (c : Instr), c = .thScrubStart .ridge data ∨ c = .thScrubAbort .ridge data →
      s.Reaches .ridge Addr.TH_SCRUB_CTRL → bitAt data.toNat 0 = true →
      s.Completes c fun t => t = s.accErr .ridge Addr.TH_SCRUB_CTRL .denied true) ∧
    (∀ first last, first ≤ last → last < storeWords → s.th.scrub = none → ∀ res,
      res = (1, rangeBanks first last) :: (if loftFirst ≤ last / 256 then [(8, 0, 0)] else []) →
      ∀ n u, s.register 9 res deviceWide = (.id n, u) →
        (s.startScrub first last).1 = .id n ∧ (s.startScrub first last).2.rd TH_SCRUB_STAT.BUSY = 1 ∧
        (s.startScrub first last).2.rd TH_SCRUB_STAT.DONE = 0 ∧
        (s.startScrub first last).2.th.scrub = some { first := first, last := last, startAt := u.now, id := n }) ∧
    (∀ first last, last < first ∨ storeWords ≤ last →
      s.startScrub first last = (.refused 0x36 (first % 2 ^ 16), s.wr TH_SCRUB_STAT.REFUSED 1)) ∧
    (∀ r g w, s.TakesDir 0x09 r g → r.args = [w] → r.data = 0 → wfield w 23 9 = 0 → wfield w 55 73 = 0 →
      s.Completes (.scrub r) fun t =>
        t = State.dirGrant (carried r 0x09 g) ((s.taken r g).startScrub (wfield w 0 23) (wfield w 32 23))) ∧
    (s.th.scrub = none → s.Completes .scrubPassDone fun t => t = s) ∧
    (∀ p, s.th.scrub = some p → (∀ x ∈ s.mg.acts, x.id ≠ p.id) →
      s.Completes .scrubPassDone fun t =>
        t.th.scrub = none ∧ t.th.words = s.th.words ∧ t.rd TH_SCRUB_STAT.BUSY = 0 ∧ t.rd TH_SCRUB_STAT.DONE = 1 ∧
        t.rd TH_EVT.SCRUB_DONE = 1 ∧ t.rd TH_SCRUB_READ.N = (p.last + 1 - p.first) % 2 ^ TH_SCRUB_READ.N.w) ∧
    (∀ p a, s.th.scrub = some p → s.act p.id = some a →
      s.Completes .scrubPassDone fun t => ∃ (u : State) (sum : List Nat),
        u.th.scrub = none ∧ u.rd TH_SCRUB_STAT.BUSY = 0 ∧ u.rd TH_SCRUB_STAT.DONE = 1 ∧
        t = u.endAct a 0 Addr.TH_EVT TH_EVT.SCRUB_DONE.lo sum 0) ∧
    (∀ data : U32, s.Reaches .mcN Addr.TH_MIG_CTRL →
      (bitAt data.toNat 31 = false → s.Completes (.thMigStart .mcN data) fun t => t = s) ∧
      (bitAt data.toNat 31 = true → s.startMigration (bits data.toNat 0 9) = none →
        s.Completes (.thMigStart .mcN data) fun t => t = s.sparesOut (bits data.toNat 0 9)) ∧
      (∀ x, bitAt data.toNat 31 = true → s.startMigration (bits data.toNat 0 9) = some x →
        s.Completes (.thMigStart .mcN data) fun t => t = s.refuseStart 2 x)) ∧
    (∀ r g, s.TakesDir 0x0E r g → r.args = [] →
      (∀ x, (s.taken r g).startMigration r.data.toNat = some x →
        s.Completes (.bankMigrate r) fun t => t = State.dirGrant (carried r 0x0E g) x) ∧
      ((s.taken r g).startMigration r.data.toNat = none →
        s.Completes (.bankMigrate r) fun t =>
          t = ((s.taken r g).sparesOut r.data.toNat).dirWrong (carried r 0x0E g) (Addr.TH_REMAP (4 * bankHalf r.data.toNat)))) ∧
    (s.th.mig = none → s.Completes .migrationDone fun t => t = s) ∧
    (∀ m, s.th.mig = some m → 256 ≤ m.spare → m.spare < 264 → m.bank < 256 → (∀ x ∈ s.mg.acts, x.id ≠ m.id) →
      s.Completes .migrationDone fun t =>
        t.rd (TH_REMAP.BANK (m.spare - 256)) = m.bank ∧ t.rd (TH_REMAP.USED (m.spare - 256)) = 1 ∧ t.th.mig = none ∧
        t.th.bankOff = s.serving m.bank :: s.th.bankOff ∧ t.rd TH_MIG_STAT.BUSY = 0 ∧ t.rd TH_EVT.MIG_DONE = 1 ∧
        t.th.words = s.th.words ∧ t.tallyOf (0x0800 + (m.spare - 256)) = m.bank + 1) ∧
    (∀ m a, s.th.mig = some m → s.act m.id = some a →
      s.Completes .migrationDone fun t => ∃ u : State,
        u.th.mig = none ∧ u.th.words = s.th.words ∧ u.rd TH_MIG_STAT.BUSY = 0 ∧
        t = u.endAct a (bankHalf m.bank) Addr.TH_EVT TH_EVT.MIG_DONE.lo [] 0)

/-! ## The Purlin -/

/-- Ready tasks (R253 to R259): the head whose time-out expires becomes ready, marked unless its condition is met at
that instant; a half dispatches the ready task of highest priority that an idle eligible core can take; a task without
such a core is offered once it has waited; the other half's core takes an offered one; a frozen half does none of this.
Flags, counters and drain limits (R252, R260, R269): a write of PD_FLAG_SET adds one to its flag; a read of a core's
task count clears it and the waits it belongs to, a peek nothing; a retired queue's descriptors are dropped at its
limit. -/
def Obligations.TasksFlagsAndDrainsOfTheQueues : Prop :=
  (∀ (s : State) (h : Half) (q : QueueNo),
     ((s.queue q.val).descs = [] ∨ s.isReady q.val = true ∨ s.isBusy q.val = true ∨ s.on (PQ_CFG.FOLLOW q) = true ∨
         (s.queue q.val).admitted = false →
       s.Completes (.queueWaitTimeout q) fun t => t = s) ∧
     (∀ e es u, (s.queue q.val).descs = e :: es → s.isReady q.val = false → s.isBusy q.val = false →
       s.on (PQ_CFG.FOLLOW q) = false → (s.queue q.val).admitted = true →
       u = s.advance ((s.queue q.val).headAt + s.eff (PQ_LIM.TMO q) * 256 * tcTf) →
       (u.waitMet q.val e = true → s.Completes (.queueWaitTimeout q) fun t => t = u.readyHead q.val e false) ∧
       (u.waitMet q.val e = false →
         s.Completes (.queueWaitTimeout q) fun t =>
           t = ((u.readyHead q.val e true).count (PD_TIMEOUTS.N (s.queueHalf q.val))).flag (PD_EVT.TIMEOUT (s.queueHalf q.val)) ∧
           t.rd (PD_EVT.TIMEOUT (s.queueHalf q.val)) = 1)) ∧
     (s.mg.frozen = true ∨ s.nextDispatch h.val = none → s.Completes (.dispatch h) fun t => t = s) ∧
     (∀ r k u x, s.mg.frozen = false → s.nextDispatch h.val = some (r, k) → s.takeItem h.val r false = (some x, u) →
       s.Completes (.dispatch h) fun t => ∃ v : State,
         v = (u.trace h 1 x.desc.queue k x.desc.prio x.desc.cls x.desc.course (tfPurlinCycles (s.now - r.readyAt))) ∧
         t = (((v.deliver k x).depthWatch h).settle.holdAll) ∧
         s.eligible r.cls k = true ∧ k ∈ (s.purlin h.val).idle ∧ r ∈ (s.purlin h.val).ready ∧ s.forCores r = true ∧
         (∀ r2 ∈ (s.purlin h.val).ready, s.forCores r2 = true → r.prio < r2.prio → r2.prio < 8 →
           ∀ k2 ∈ (s.purlin h.val).idle, s.eligible r2.cls k2 = false)) ∧
     (s.mayLend h.val = false ∨ s.mg.frozen = true → s.Completes (.lendOffer h) fun t => t = s) ∧
     (∀ r, s.mayLend h.val = true → s.mg.frozen = false →
       (s.purlin h.val).ready.find? (fun x => !x.offered && s.lendable x && !(s.purlin h.val).idle.any (fun k => s.eligible x.cls k))
         = some r →
       s.Completes (.lendOffer h) fun t =>
         (t.purlin h.val).ready = (s.purlin h.val).ready.map (fun x => if x = r then { x with offered := true } else x) ∧
         t.regs = s.regs ∧ t.queues = s.queues ∧ t.now = (s.advance (r.readyAt + purlinCyclesTf (s.eff (PD_LEND.WAIT h)))).now) ∧
     (s.mayLend (1 - h.val) = false ∨ s.mg.frozen = true → s.Completes (.lendAccept h) fun t => t = s) ∧
     (∀ r k u x, s.mayLend (1 - h.val) = true → s.mg.frozen = false → (s.purlin (1 - h.val)).ready = [r] → r.prio < 8 →
       s.forCores r = true → r.offered = true → s.lentCore h.val r = some k → s.takeItem (1 - h.val) r true = (some x, u) →
       s.Completes (.lendAccept h) fun t => ∃ v : State,
         v = ((u.trace (1 - h.val) 4 x.desc.queue k x.desc.prio x.desc.cls x.desc.course 0).trace h 5 x.desc.queue k x.desc.prio
           x.desc.cls x.desc.course 0).trace (1 - h.val) 1 x.desc.queue k x.desc.prio x.desc.cls x.desc.course
             (tfPurlinCycles (s.now - r.readyAt)) ∧
         t = (((v.deliver k x).depthWatch (1 - h.val)).settle.holdAll))) ∧
  (∀ s : State,
     (∀ (p : Path) (h : Half) (data : U32), s.Reaches p (Addr.PD_FLAG_SET h) →
       s.Completes (.pdFlagSet p h data) fun t => ∃ u : State,
         u.rd (PD_FLAG.COUNT h (data.toNat % 256)) =
           min (2 ^ (PD_FLAG.COUNT h (data.toNat % 256)).w - 1) (s.rd (PD_FLAG.COUNT h (data.toNat % 256)) + 1) ∧
         u = { s with regs := u.regs } ∧ t = u.settle) ∧
     (∀ (p : Path) (h : Half) (data : U32), s.Reaches p (Addr.PD_FLAG_SET h) → s.queues = [] →
       s.Completes (.pdFlagSet p h data) fun t =>
         t.rd (PD_FLAG.COUNT h (data.toNat % 256)) =
           min (2 ^ (PD_FLAG.COUNT h (data.toNat % 256)).w - 1) (s.rd (PD_FLAG.COUNT h (data.toNat % 256)) + 1) ∧
         (∀ a, a ≠ Addr.PD_FLAG h (data.toNat % 256) → t.reg a = s.reg a)) ∧
     (∀ (p : Path) (k : Core), s.pins.answered = true →
       (s.Completes (.pdCoreTasksRead p false k) fun t => t = s) ∧
       (s.Completes (.pdCoreTasksRead p true k) fun t =>
         t.rd (PD_CORE_TASKS.TASKS k) = 0 ∧ t.rd (PD_CORE_WAIT_SUM.WAIT_SUM k) = 0 ∧
         t.latchOf p (Addr.PD_CORE_WAIT_SUM k) = s.reg (Addr.PD_CORE_WAIT_SUM k) ∧ t.cores = s.cores)) ∧
     (∀ q : QueueNo, (s.queue q.val).retired = false ∨ (s.queue q.val).descs = [] →
       s.Completes (.drainTimeout q) fun t => t = s) ∧
     (∀ (q : QueueNo) e, (s.queue q.val).retired = true → (s.queue q.val).descs = [e] →
       s.Completes (.drainTimeout q) fun t => ∃ u v : State,
         u = (((s.advance ((s.queue q.val).retireAt + usTf (s.eff (PD_DRAIN.TMO (s.queueHalf q.val))))).release e.desc.place).count
             (PD_DROPPED.N (s.queueHalf q.val))).flag (PD_EVT.DROP (s.queueHalf q.val)) ∧
         (v.queue q.val).descs = [] ∧
         (∃ x y, v = (((u.trace (s.queueHalf q.val) 6 q (u.traceUnit q) e.desc.prio e.desc.cls e.desc.course 0).setPurlin
           (s.queueHalf q.val) x).setQueue q y).syncQueue q ∧ ∀ r ∈ x.ready, r.queue = q.val → r.restarted = true) ∧
         t = (v.note (s.queueHalf q.val) (Addr.PD_EVT (s.queueHalf q.val)) (PD_EVT.DROP (s.queueHalf q.val)).lo .event q
           [e.desc.course, e.desc.course]).settle.holdAll))

/-- A write that changes an enable bit (R242, R313, R355, R397, R453): the bit keeps its value, and the check of the new
one is queued behind those that wait. -/
def Obligations.EnableWritesAreChecked : Prop :=
  ∀ (s : State) (p : Path) (data : U32) (c : Instr) (kind index : Nat) (en : Field),
    (∃ n : Channel, bits data.toNat 1 2 ≠ 3 ∧ c = .tchEnWrite p n data ∧ kind = 2 ∧ index = n.val ∧ en = TCH_CTRL.EN n) ∨
    (∃ j : QGroup, c = .qgroupEnWrite p j data ∧ kind = 3 ∧ index = j.val ∧ en = PD_QGEN.EN j) ∨
    (∃ k : Core, c = .rcEnWrite p k data ∧ kind = 4 ∧ index = k.val ∧ en = RC_CTRL.EN k) ∨
    (∃ e : Engine, c = .shEnWrite p e data ∧ kind = 5 ∧ index = e.val ∧ en = SH_CTRL.EN e) ∨
    (∃ l : Lane, c = .rgLaneEnWrite p l data ∧ kind = 6 ∧ index = l.val ∧ en = RG_LANE_CTRL.EN l) ∨
    (∃ g : LaneGroup, c = .rgGrpEnWrite p g data ∧ kind = 7 ∧ index = g.val ∧ en = RG_GRP_CTRL.EN g) ∨
    (∃ l : Link, c = .hipEnWrite p l data ∧ kind = 8 ∧ index = l.val ∧ en = HIP_CTRL.EN l) ∨
    (∃ h : Half, c = .gaEnWrite p h data ∧ kind = 9 ∧ index = h.val ∧ en = GA_CTRL.EN h) ∨
    (∃ (h : Half) (j : GaugeInput), c = .gaInputEnWrite p h j data ∧ kind = 10 ∧ index = 32 * h.val + j.val ∧ en = GA_IN_A.EN h j) →
    s.Reaches p en.addr → bits data.toNat en.lo en.w ≠ s.rd en →
      s.Completes c fun t =>
        t.rd en = s.rd en ∧
        ∃ k : Check, t.boot.checks = s.boot.checks ++ [k] ∧ k.kind = kind ∧ k.index = index ∧
          k.enable = (bits data.toNat en.lo en.w == 1)

/-! ## Rafter cores -/

/-- The ALU instructions (R273, R283, R285): each leaves its result in d, and of the sums and differences the carry in
C; g0 reads 0 and discards writes; in a delay slot the target follows; nothing else changes but what shows the core. The
accumulator instructions (R283, R298, R299): a result in the 40-bit range is kept exactly; one outside it saturates and
sets AOV, or under OVT raises OVERFLOW with nothing written. -/
def Obligations.AluAndAccumulatorInstructionsCompute : Prop :=
  (∀ (s : State) (k : Core) (d a b : GReg) (imm : BitVec 18) (sh : BitVec 5) (up : BitVec 16) (c : CoreSt) (x y : U32),
     s.Issues k → c = s.core k → x = c.reg a → y = c.reg b →
     c.reg 0 = 0 ∧ (∀ v, c.setReg 0 v = c) ∧ (d ≠ 0 → ∀ v, (c.setReg d v).reg d = v) ∧
     (∀ p ∈ [(Instr.andR k d a b, x &&& y), (.orR k d a b, x ||| y), (.xorR k d a b, x ^^^ y), (.sll k d a b, x <<< (y.toNat % 32)),
         (.srl k d a b, x >>> (y.toNat % 32)), (.sra k d a b, x.sshiftRight (y.toNat % 32)),
         (.slt k d a b, if x.toInt < y.toInt then 1 else 0), (.sltu k d a b, if x.toNat < y.toNat then 1 else 0),
         (.mul k d a b, BitVec.ofNat 32 (x.toNat * y.toNat)), (.mulhs k d a b, BitVec.ofInt 32 (x.toInt * y.toInt / (2 ^ 32 : Int))),
         (.mulhu k d a b, BitVec.ofNat 32 (x.toNat * y.toNat / 2 ^ 32)), (.minR k d a b, if x.toInt < y.toInt then x else y),
         (.maxR k d a b, if x.toInt < y.toInt then y else x), (.absd k d a b, BitVec.ofNat 32 (max x.toNat y.toNat - min x.toNat y.toNat)),
         (.andi k d a imm, x &&& imm.setWidth 32), (.ori k d a imm, x ||| imm.setWidth 32), (.xori k d a imm, x ^^^ imm.setWidth 32),
         (.slli k d a sh, x <<< sh.toNat), (.srli k d a sh, x >>> sh.toNat), (.srai k d a sh, x.sshiftRight sh.toNat),
         (.slti k d a imm, if x.toInt < imm.toInt then 1 else 0),
         (.sltiu k d a imm, if x.toNat < (imm.signExtend 32).toNat then 1 else 0),
         (.lui k d up, BitVec.ofNat 32 (up.toNat * 2 ^ 16))],
       s.Completes p.1 fun t => s.Ran t k ((c.setReg d p.2).stepped c)) ∧
     (s.Completes (.clz k d a) fun t => ∃ n, s.Ran t k ((c.setReg d (BitVec.ofNat 32 n)).stepped c) ∧ n ≤ 32 ∧
       x.toNat < 2 ^ (32 - n) ∧ (n < 32 → 2 ^ (31 - n) ≤ x.toNat)) ∧
     (∀ p ∈ [(Instr.add k d a b, x + y, decide (2 ^ 32 ≤ x.toNat + y.toNat)), (.sub k d a b, x - y, decide (y.toNat ≤ x.toNat)),
         (.addc k d a b, x + y + BitVec.ofNat 32 c.carry, decide (2 ^ 32 ≤ x.toNat + y.toNat + c.carry)),
         (.subc k d a b, x - y - BitVec.ofNat 32 (1 - c.carry), decide (y.toNat + (1 - c.carry) ≤ x.toNat)),
         (.addi k d a imm, x + imm.signExtend 32, decide (2 ^ 32 ≤ x.toNat + (imm.signExtend 32).toNat))],
       s.Completes p.1 fun t =>
         s.Ran t k (((c.setReg d p.2.1).setCsr csrSTAT (statC (c.csrAt csrSTAT) p.2.2)).stepped c))) ∧
  (∀ (s : State) (k : Core) (n : Fin 2) (d a b : GReg) (sh : BitVec 6) (sr : BitVec 5) (c : CoreSt) (al bl ah bh : Int) (w : Int),
     s.Issues k → c = s.core k → al = toSigned 16 (c.reg a).toNat → bl = toSigned 16 (c.reg b).toNat →
     ah = toSigned 16 ((c.reg a).toNat / 2 ^ 16) → bh = toSigned 16 ((c.reg b).toNat / 2 ^ 16) → w = (c.reg a).toInt →
     (∀ p ∈ [(Instr.mac k n a b, [(n.val, (c.acc n).toInt + al * bl)]), (.msu k n a b, [(n.val, (c.acc n).toInt - al * bl)]),
         (.macd k n a b, [(n.val, (c.acc n).toInt + al * bl + ah * bh)]),
         (.macp k a b, [(0, (c.acc 0).toInt + al * bl), (1, (c.acc 1).toInt + ah * bh)]), (.aclr k n, [(n.val, 0)]),
         (.ald k n a, [(n.val, w)]), (.aadd k n a sh, [(n.val, (c.acc n).toInt + w * 2 ^ sh.toNat)]),
         (.asub k n a sh, [(n.val, (c.acc n).toInt - w * 2 ^ sh.toNat)]),
         (.ashr k n sr, [(n.val, (c.acc n).toInt / (2 ^ sr.toNat : Int))]),
         (.ashl k n sr, [(n.val, (c.acc n).toInt * 2 ^ sr.toNat)])],
       ((∀ v ∈ p.2, -(2 ^ 39 : Int) ≤ v.2 ∧ v.2 < 2 ^ 39) →
         s.Completes p.1 fun t =>
           s.Ran t k ((p.2.foldl (fun c v => c.setAcc v.1 (BitVec.ofInt 40 v.2)) c).stepped c)) ∧
       ((∃ v ∈ p.2, v.2 < -(2 ^ 39 : Int) ∨ 2 ^ 39 ≤ v.2) → c.csrBits csrMODE 0 1 = 0 →
         s.Completes p.1 fun t => ∃ e : CoreSt,
           s.Ran t k e ∧ e.csrBits csrSTAT 1 1 = 1 ∧ e.g = c.g ∧
           ∀ v ∈ p.2, (2 ^ 39 ≤ v.2 → (e.acc v.1).toInt = 2 ^ 39 - 1) ∧ (v.2 < -(2 ^ 39 : Int) → (e.acc v.1).toInt = -(2 ^ 39 : Int))) ∧
       ((∃ v ∈ p.2, v.2 < -(2 ^ 39 : Int) ∨ 2 ^ 39 ≤ v.2) → c.csrBits csrMODE 0 1 = 1 → c.exl = false →
         s.Completes p.1 fun t => s.Trapped t k 5 0)) ∧
     (s.Completes (.mval k d n) fun t => s.Ran t k ((c.setReg d ((c.acc n).setWidth 32)).stepped c)) ∧
     (s.Completes (.mvah k d n) fun t =>
       s.Ran t k ((c.setReg d (BitVec.ofInt 32 ((c.acc n).toInt / (2 ^ 32 : Int)))).stepped c)))

/-- Loads and stores (R276 to R281, R283, R309): a load of data memory or of a permitted Thatch word brings its bytes,
extended; a store changes those bytes of data memory, or enters the store buffer; what may not be done raises ALIGN,
ACCESS, ILLEGAL or, under PTE, POISON. The address modes and the store buffer (R279, R309, R310): linear addresses wrap
at 2^32, a circular one stays in its buffer; the oldest entry drains to its bank, and SYNC drains them all. -/
def Obligations.LoadsStoresAndTheStoreBuffer : Prop :=
  (∀ (s : State) (k : Core) (d a : GReg) (imm : BitVec 18) (c : CoreSt) (ea : Nat),
     s.Issues k → c = s.core k → s.effAddr k (c.reg a) imm = some ea →
     (∀ p ∈ [(Instr.ldw k d a imm, 4, fun (v : Nat) => c.setReg d (BitVec.ofNat 32 v)),
         (.ldh k d a imm, 2, fun v => c.setReg d (BitVec.ofInt 32 (toSigned 16 v))), (.ldhu k d a imm, 2, fun v => c.setReg d (BitVec.ofNat 32 v)),
         (.ldb k d a imm, 1, fun v => c.setReg d (BitVec.ofInt 32 (toSigned 8 v))), (.ldbu k d a imm, 1, fun v => c.setReg d (BitVec.ofNat 32 v)),
         (.ldq k d a imm, 16, fun v => c.setQuad d (BitVec.ofNat 128 v))],
       (p.2.1 = 16 → quadReg d = true) →
       (0x10000 ≤ ea → ea ≤ 0x1FFFF → ea % p.2.1 = 0 →
         s.Completes p.1 fun t => s.Ran t k ((p.2.2 (memLoad c.dmem (ea - 0x10000) p.2.1)).stepped c)) ∧
       (inThatch ea = true → ea % p.2.1 = 0 → s.mayLoad k (thatchWord ea) = true → (∀ e ∈ c.sb, e.addr ≠ thatchWord ea) →
         (s.loadWord (thatchWord ea)).2 = false →
         s.Completes p.1 fun t =>
           s.Ran t k ((p.2.2 (wordBytesAt (s.loadWord (thatchWord ea)).1 (ea % 16) p.2.1)).stepped c)) ∧
       (inThatch ea = true → ea % p.2.1 = 0 → s.mayLoad k (thatchWord ea) = true → (∀ e ∈ c.sb, e.addr ≠ thatchWord ea) →
         (s.loadWord (thatchWord ea)).2 = true → c.csrBits csrMODE 1 1 = 1 → c.exl = false →
         s.Completes p.1 fun t => s.Trapped t k 4 ea) ∧
       (ea % p.2.1 ≠ 0 → c.exl = false → s.Completes p.1 fun t => s.Trapped t k 2 ea) ∧
       (ea % p.2.1 = 0 → 0x1FFFF < ea → (inThatch ea = false ∨ s.mayLoad k (thatchWord ea) = false) → c.exl = false →
         s.Completes p.1 fun t => s.Trapped t k 3 ea)) ∧
     (∀ p ∈ [(Instr.stw k d a imm, 4, (c.reg d).toNat), (.sth k d a imm, 2, (c.reg d).toNat), (.stb k d a imm, 1, (c.reg d).toNat),
         (.stq k d a imm, 16, (c.quad d).toNat)],
       (p.2.1 = 16 → quadReg d = true) →
       (0x10000 ≤ ea → ea ≤ 0x1FFFF → ea % p.2.1 = 0 →
         s.Completes p.1 fun t =>
           s.Ran t k ((c.storeData ea p.2.1 p.2.2).stepped c) ∧
           (∀ b, b < ea - 0x10000 ∨ ea - 0x10000 + p.2.1 ≤ b → memByte (t.core k).dmem b = memByte c.dmem b) ∧
           memLoad (t.core k).dmem (ea - 0x10000) p.2.1 = p.2.2 % 2 ^ (8 * p.2.1)) ∧
       (inThatch ea = true → ea % p.2.1 = 0 → s.mayStore k (thatchWord ea) = true → c.sb = [] →
         s.Completes p.1 fun t => ∃ e : SbEntry,
           s.Ran t k ({ c with sb := [e] }.stepped c) ∧ e.addr = thatchWord ea ∧ e.mask = byteMask (ea % 16) p.2.1 ∧
           wordBytesAt e.data (ea % 16) p.2.1 = p.2.2 % 2 ^ (8 * p.2.1)) ∧
       (ea % p.2.1 ≠ 0 → c.exl = false → s.Completes p.1 fun t => s.Trapped t k 2 ea) ∧
       (ea % p.2.1 = 0 → (ea ≤ 0xFFFF ∨ (0x1FFFF < ea ∧ (inThatch ea = false ∨ s.mayStore k (thatchWord ea) = false))) →
         c.exl = false → s.Completes p.1 fun t => s.Trapped t k 3 ea)) ∧
     (ea ≤ 0xFFFF → ea % 4 = 0 →
       (s.Completes (.ldw k d a imm) fun t => s.Ran t k ((c.setReg d (BitVec.ofNat 32 (memLoad c.imem ea 4))).stepped c)) ∧
       (c.exl = false → s.Completes (.ldbu k d a imm) fun t => s.Trapped t k 3 ea)) ∧
     (quadReg d = false → c.exl = false →
       (s.Completes (.ldq k d a imm) fun t => s.Trapped t k 1 (encI 0x15 d a imm.toNat)) ∧
       (s.Completes (.stq k d a imm) fun t => s.Trapped t k 1 (encI 0x1B d a imm.toNat)))) ∧
  (∀ (s : State) (k : Core) (base : U32) (imm : BitVec 18) (c : CoreSt), c = s.core k →
     (c.csrBits csrMODE 2 2 = 0 → s.effAddr k base imm = some (base + imm.signExtend 32).toNat) ∧
     (∀ cb cl : Nat, c.csrBits csrMODE 2 2 = 2 → cb = (c.csrAt csrCBASE).toNat → cl = (c.csrAt csrCLEN).toNat → cl ≠ 0 →
       cb + cl ≤ 2 ^ 32 → cb ≤ base.toNat → base.toNat < cb + cl →
       ∃ ea, s.effAddr k base imm = some ea ∧ cb ≤ ea ∧ ea < cb + cl ∧
         ((ea : Int) - cb) % cl = ((base.toNat : Int) - cb + imm.toInt) % cl) ∧
     (c.sb = [] → s.Completes (.storeDrain k) fun t => t = s) ∧
     (∀ e es, c.sb = e :: es → e.mask = BitVec.allOnes 16 →
       s.Completes (.storeDrain k) fun t =>
         t.tword e.addr = some ⟨e.data, false⟩ ∧ (t.core k).sb = es ∧ (∀ b, b ≠ e.addr → t.tword b = s.tword b) ∧ t.regs = s.regs) ∧
     (s.Issues k →
       s.Completes (.sync k) fun t =>
         t = ((s.issued k).flushSb k).complete_ k c c.after none false ∧ (c.sb = [] → s.Ran t k (c.stepped c))))

/-- Branches, jumps and loops (R283, R285, R295, R296): the delay slot follows, then the target or the address past the
slot; a jump to a bad target raises ALIGN or ACCESS; LOOP sets up a level or skips a body of count 0; a branch in a
delay slot is illegal; at a loop's end its count falls and control goes back until it is done. -/
def Obligations.ControlFlowFollowsDelaySlots : Prop :=
  ∀ (s : State) (k : Core) (d a b : GReg) (off : BitVec 18) (far : BitVec 26) (c : CoreSt) (x y : U32),
    s.Issues k → c = s.core k → x = c.reg a → y = c.reg b →
    (c.slot = none → ∀ p ∈ [(Instr.beq k a b off, decide (x = y)), (.bne k a b off, decide (x ≠ y)), (.blt k a b off, decide (x.toInt < y.toInt)),
        (.bge k a b off, decide (y.toInt ≤ x.toInt)), (.bltu k a b off, decide (x.toNat < y.toNat)),
        (.bgeu k a b off, decide (y.toNat ≤ x.toNat))],
      s.Completes p.1 fun t =>
        s.Ran t k { c with
          pc := c.pc + 4, bpSkip := false
          slot := some (c.pc, if p.2 = true then c.pc + off.signExtend 32 * 4 else c.pc + 8) }) ∧
    (c.slot = none →
      (s.Completes (.j k far) fun t =>
        s.Ran t k { c with pc := c.pc + 4, bpSkip := false, slot := some (c.pc, c.pc + far.signExtend 32 * 4) }) ∧
      (s.Completes (.jal k far) fun t =>
        s.Ran t k { c.setReg 15 (c.pc + 8) with
          pc := c.pc + 4, bpSkip := false, slot := some (c.pc, c.pc + far.signExtend 32 * 4) }) ∧
      (x.toNat % 4 = 0 → x.toNat ≤ 0xFFFF →
        (s.Completes (.jr k a) fun t => s.Ran t k { c with pc := c.pc + 4, bpSkip := false, slot := some (c.pc, x) }) ∧
        (d ≠ a → s.Completes (.jalr k d a) fun t =>
          s.Ran t k { c.setReg d (c.pc + 8) with pc := c.pc + 4, bpSkip := false, slot := some (c.pc, x) })) ∧
      (c.exl = false →
        (x.toNat % 4 ≠ 0 → s.Completes (.jr k a) fun t => s.Trapped t k 2 x.toNat) ∧
        (x.toNat % 4 = 0 → 0xFFFF < x.toNat → s.Completes (.jr k a) fun t => s.Trapped t k 3 x.toNat) ∧
        (s.Completes (.jalr k a a) fun t => s.Trapped t k 1 (encR 0x29 a a 0 0)))) ∧
    (c.slot ≠ none → c.exl = false → s.Completes (.j k far) fun t => s.Trapped t k 1 (encJ 0x26 far.toNat)) ∧
    (∀ (level : Fin 2) (cnt : BitVec 11) (lo : BitVec 10) (le n : U32), c.slot = none → c.exl = false → lo ≠ 0 →
      le = c.pc + lo.setWidth 32 * 4 → n = (if a = 0 then cnt.setWidth 32 else x) →
      (level = 1 → c.csrAt (csrLC 0) = 0 ∨ (c.csrAt (csrLS 0) ≤ le ∧ le ≤ c.csrAt (csrLE 0))) →
      (level = 0 → c.csrAt (csrLC 1) = 0) →
      s.Completes (.loop k level a cnt lo) fun t =>
        s.Ran t k { ((c.setCsr (csrLS level) (c.pc + 4)).setCsr (csrLE level) le).setCsr (csrLC level) n with
          pc := if n = 0 then le + 4 else c.pc + 4, bpSkip := false }) ∧
    (c.slot = none → c.exl = false → ∀ (level : Fin 2) (cnt : BitVec 11),
      s.Completes (.loop k level a cnt 0) fun t => s.Trapped t k 1 (encL 0x2C level a cnt.toNat 0)) ∧
    (∀ (e : CoreSt) (at_ next : U32),
      (e.csrAt (csrLC 1) = 0 → e.csrAt (csrLC 0) = 0 → e.loopBack at_ next = (e, next)) ∧
      (e.csrAt (csrLE 1) = at_ → 1 < (e.csrAt (csrLC 1)).toNat →
        e.loopBack at_ next = (e.setCsr (csrLC 1) (e.csrAt (csrLC 1) - 1), e.csrAt (csrLS 1))) ∧
      (e.csrAt (csrLC 1) = 0 → e.csrAt (csrLE 0) = at_ → 1 < (e.csrAt (csrLC 0)).toNat →
        e.loopBack at_ next = (e.setCsr (csrLC 0) (e.csrAt (csrLC 0) - 1), e.csrAt (csrLS 0))) ∧
      (e.csrAt (csrLC 1) = 0 → e.csrAt (csrLE 0) = at_ → e.csrAt (csrLC 0) = 1 →
        e.loopBack at_ next = (e.setCsr (csrLC 0) 0, next)))

/-- Exceptions and CSRs (R274, R275, R283, R284, R300 to R304): a trap, a word that is no instruction and a CSR that is
not there save the place and go to the vector; a second exception is a double fault; RETE goes back; MFC and MTC read
and write. -/
def Obligations.ExceptionsAreTakenAndLeft : Prop :=
  ∀ (s : State) (k : Core) (d a : GReg) (csr imm : BitVec 10) (w : U32) (c : CoreSt), s.Issues k → c = s.core k →
    (c.exl = false →
      (s.Completes (.trap k imm) fun t => s.Trapped t k 8 imm.toNat) ∧
      (decodeCore k w.toNat = none → s.Completes (.illegalInstruction k w) fun t => s.Trapped t k 1 w.toNat) ∧
      (s.Completes (.rete k) fun t => s.Trapped t k 1 (encS 0x3E 0 0 0 2)) ∧
      (csrRW csr.toNat = false → csrRO csr.toNat = false →
        s.Completes (.mfc k d csr) fun t => s.Trapped t k 1 (encS 0x3E d 0 csr.toNat 0)) ∧
      (csrRW csr.toNat = false →
        s.Completes (.mtc k csr a) fun t => s.Trapped t k 1 (encS 0x3E 0 a csr.toNat 1))) ∧
    (decodeCore k w.toNat ≠ none → s.Completes (.illegalInstruction k w) fun t => t = s) ∧
    (c.exl = true →
      s.Completes (.trap k imm) fun t => ∃ u : State,
        u.coreState k = rcFault ∧ u.rd (RC_EVT.EXC k) = 1 ∧ (u.core k).pc = c.pc ∧ (u.core k).csr = c.csr ∧
        t = (u.event (k / 32) (RC_EVT.DFAULT k) (unitId 4 k)).boundaryHalt k) ∧
    (c.exl = true → c.slot = none → c.csrBits csrEMODE 2 2 ≠ 3 →
      s.Completes (.rete k) fun t =>
        s.Ran t k { c.setCsr csrMODE (c.csrAt csrEMODE) with exl := false, pc := c.csrAt csrEPC, bpSkip := false }) ∧
    (csrRW csr.toNat = true →
      s.Completes (.mfc k d csr) fun t => s.Ran t k ((c.setReg d (c.csrAt csr.toNat)).stepped c)) ∧
    (∀ p ∈ [((0x18 : BitVec 10), k.val), (0x19, s.rd NODE_ID.ID), (0x1C, s.epoch), (0x1D, s.course), (0x21, c.kept.length),
        (0x22, c.allocs.length)],
      s.Completes (.mfc k d p.1) fun t => s.Ran t k ((c.setReg d (BitVec.ofNat 32 p.2)).stepped c)) ∧
    (s.Completes (.mfc k d 0x1A) fun t =>
      s.Ran t k (((c.setCsr csrTIMEH (BitVec.ofNat 32 (stamp s.now / 2 ^ 32))).setReg d (BitVec.ofNat 32 (stamp s.now))).stepped c)) ∧
    (c.slot = none → csrRW csr.toNat = true → (csr.toNat = csrMODE → bits (c.reg a).toNat 2 2 ≠ 3) →
      (c.exl = true ∨ (c.setCsr csr.toNat (csrMask csr.toNat (c.csrAt csr.toNat) (c.reg a))).atLoopEnd c.pc = false) →
      s.Completes (.mtc k csr a) fun t =>
        s.Ran t k ((c.setCsr csr.toNat (csrMask csr.toNat (c.csrAt csr.toNat) (c.reg a))).stepped c))

/-- Tasks on a core (R287 to R293, R312): TAKE without a task makes the core idle, last in its half's line; a delivered
task is held, and TAKE completes with its descriptor; DONE ends it; RLS releases a kept record. Allocations and pushes
(R247, R289 to R291): ALLOC reserves words at the writer's pointer, or waits for room, or raises ACCESS; a PUSH that is
refused leaves its status in d, one to a queue at its limit waits, an accepted one holds the record and joins its queue.
-/
def Obligations.TasksAndRecordsOfCores : Prop :=
  (∀ (s : State) (k : Core) (d a : GReg) (opts : BitVec 10) (c : CoreSt), s.Issues k → c = s.core k → c.slot = none →
     (quadReg d = true → c.task = none → c.leaving = false →
       s.Completes (.take k d) fun t =>
         t.coreState k = rcIdle ∧ (t.core k).taking = some d.val ∧ (t.core k).pc = c.pc ∧ (t.core k).g = c.g ∧
         (t.purlin (k.val / 32)).idle = (s.purlin (k.val / 32)).idle.filter (· != k.val) ++ [k.val] ∧ t.queues = s.queues ∧
         t.th = s.th) ∧
     ((quadReg d = false ∨ c.task ≠ none) → c.exl = false →
       s.Completes (.take k d) fun t => s.Trapped t k 1 (encS 0x38 d 0 0 0)) ∧
     (∀ x : Task, x.members = [] → x.desc.lent = false →
       ((s.deliver k x).core k).task = some x ∧ ((s.deliver k x).core k).taking = none ∧
       ((s.deliver k x).core k).pc = c.pc + 4 ∧ (s.deliver k x).coreState k = rcRunning ∧
       ((s.deliver k x).core k).g = (c.setQuad (c.taking.getD 4) x.desc.pack).g) ∧
     (c.task = none → c.exl = false → s.Completes (.doneT k a opts) fun t => s.Trapped t k 1 (encS 0x39 0 a opts.toNat 0)) ∧
     (∀ x, c.task = some x → bitAt opts.toNat 0 = true → 64 < c.kept.length + x.records.length → c.exl = false →
       s.Completes (.doneT k a opts) fun t => s.Trapped t k 3 0) ∧
     (∀ x, c.task = some x → (bitAt opts.toNat 0 = false ∨ c.kept.length + x.records.length ≤ 64) →
       s.Completes (.doneT k a opts) fun t =>
         t = (((s.issued k).flushSb k).endTask k x (bitAt opts.toNat 0)
           (if bitAt opts.toNat 1 = true then some ((c.reg a).toNat % 256) else none)).complete_ k c (c.pc + 4) none false) ∧
     (quadReg a = true →
       (∀ r, c.kept.find? (fun r => r.addr == (Desc.ofFirmware (c.quad a)).place.addr) = some r →
         s.Completes (.rls k d a) fun t => ∃ u : State,
           u = (s.issued k).release r ∧
           t = (u.setCore k { (s.core k).setReg d 0 with bpSkip := false, kept := c.kept.erase r }).complete_ k c (c.pc + 4) none false) ∧
       (c.kept.find? (fun r => r.addr == (Desc.ofFirmware (c.quad a)).place.addr) = none →
         s.Completes (.rls k d a) fun t => s.Ran t k ((c.setReg d 1).stepped c))) ∧
     (quadReg a = false → c.exl = false → s.Completes (.rls k d a) fun t => s.Trapped t k 1 (encS 0x3D d a 0 0))) ∧
  (∀ (s : State) (k : Core) (d a : GReg) (c : CoreSt) (n : Nat) (x : Desc) (u : State), s.Issues k → c = s.core k → c.slot = none →
     n = (c.reg a).toNat → x = Desc.ofFirmware (c.quad a) → u = (s.issued k).flushSb k →
     (n = 0 ∨ 2048 < n ∨ c.task = none ∨ 8 ≤ c.allocs.length ∨ (s.regionOf (c.region k)).2 = 0 → c.exl = false →
       s.Completes (.alloc k d a) fun t => s.Trapped t k 3 n) ∧
     (1 ≤ n → n ≤ 2048 → c.task ≠ none → c.allocs.length < 8 → (s.regionOf (c.region k)).2 ≠ 0 →
       (s.fits (c.region k) n = false →
         s.Completes (.alloc k d a) fun t =>
           (t.core k).stuck = some (encS 0x3B d a 0 0, s.now) ∧ (t.core k).pc = c.pc ∧ (t.core k).allocs = c.allocs ∧ t.th = s.th) ∧
       (s.fits (c.region k) n = true →
         ∀ r v, ((s.issued k).count (RC_ALLOC_WAIT.N k) 0).takeWords (c.region k) n = (r, v) →
         s.Completes (.alloc k d a) fun t =>
           t = ((v.hold r).setCore k { ((v.hold r).core k).setReg d (BitVec.ofNat 32 (0x10000000 + 16 * r.addr)) with
             allocs := r :: (((v.hold r).core k).setReg d (BitVec.ofNat 32 (0x10000000 + 16 * r.addr))).allocs }).complete_ k c
               (c.pc + 4) none false)) ∧
     (quadReg a = false → c.exl = false → s.Completes (.push k d a) fun t => s.Trapped t k 1 (encS 0x3A d a 0 0)) ∧
     (quadReg a = true →
       (u.pushStatus k x ≠ 0 →
         s.Completes (.push k d a) fun t => ∃ v : State,
           v.rd (PD_EVT.BADPUSH (c.owning k)) = 1 ∧ v.rd (RC_EVT.PUSH_REFUSED k) = 1 ∧ v.queues = u.queues ∧ v.th = u.th ∧
           t = (v.setCore k ((u.core k).setReg d (BitVec.ofNat 32 (u.pushStatus k x)))).complete_ k c (c.pc + 4) none false) ∧
       (u.pushStatus k x = 0 → u.atLimit x.queue = true →
         s.Completes (.push k d a) fun t =>
           (t.core k).stuck = some (encS 0x3A d a 0 0, s.now) ∧ (t.core k).pc = c.pc ∧ t.queues = u.queues ∧ t.th = u.th) ∧
       (u.pushStatus k x = 0 → u.atLimit x.queue = false → (u.count (RC_PUSH_WAIT.N k) 0).pushable k x = .other →
         s.Completes (.push k d a) fun t => ∃ v : State,
           v = (((u.count (RC_PUSH_WAIT.N k) 0).hold x.place).pushQueue x.queue x
             ((u.count (RC_PUSH_WAIT.N k) 0).recEpoch x)) ∧
           t = (v.setCore k { (v.core k).setReg d 0 with accepted := ((v.core k).setReg d 0).accepted + 1 }).complete_ k c
             (c.pc + 4) none false)) ∧
     (u.pushStatus k x = (if u.on (PQ_CFG.FWPUSH x.queue) = false then 1 else if u.queueHalf x.queue ≠ (u.core k).owning k then 2
       else if 4 ≤ x.wait then 3 else if u.on (PQ_CFG.FOLLOW x.queue) = true then 4
       else if x.len = 0 ∨ u.pushable k x = .no then 5 else if u.queueOpen x.queue = false then 6 else 0)))

/-- Locked sequences (R305 to R308): LOCK takes the bank of a shared word for its sequence, waits while another core has
it, and raises LOCK where its conditions fail; at the end of a sequence the held stores are written and d is 1, or 0
with nothing written when the lock was broken. -/
def Obligations.LockedSequencesCommitOrFail : Prop :=
  ∀ (s : State) (k : Core) (d a : GReg) (n : BitVec 10) (c : CoreSt), c = s.core k →
    (s.Issues k → c.slot = none →
      (s.lockBank k (c.reg a) (n.toNat % 8 + 1) = none → c.exl = false →
        s.Completes (.lock k d a n) fun t => s.Trapped t k 7 c.pc.toNat) ∧
      (∀ b, s.lockBank k (c.reg a) (n.toNat % 8 + 1) = some b → c.sb = [] → Tab.get 0 s.th.locks b ≠ 0 →
        s.Completes (.lock k d a n) fun t =>
          (t.core k).stuck = some (encS 0x3C d a n.toNat 0, s.now) ∧ (t.core k).lock = none ∧ (t.core k).pc = c.pc ∧ t.th = s.th) ∧
      (∀ b, s.lockBank k (c.reg a) (n.toNat % 8 + 1) = some b → c.sb = [] → Tab.get 0 s.th.locks b = 0 →
        s.Completes (.lock k d a n) fun t =>
          (t.core k).lock = some { left := n.toNat % 8 + 1, bank := b, d := d.val, lockPc := c.pc } ∧
          (t.core k).pc = c.pc + 4 ∧ Tab.get 0 t.th.locks b = k.val + 1 ∧ t.th.words = s.th.words ∧ (t.core k).g = c.g)) ∧
    (∀ l, c.lock = some l →
      (1 < l.left → (s.countSeq k).core k = { c with lock := some { l with left := l.left - 1 } } ∧ (s.countSeq k).th = s.th) ∧
      (l.left ≤ 1 → l.broken = false →
        (s.countSeq k).core k = { c.setReg l.d 1 with lock := none } ∧
        (s.countSeq k).th.words = (s.each l.held State.writeEntry).th.words ∧
        ∀ x ∈ (s.countSeq k).th.locks, x.2 ≠ k.val + 1) ∧
      (l.left ≤ 1 → l.broken = true →
        (s.countSeq k).core k = { c.setReg l.d 0 with lock := none } ∧ (s.countSeq k).th = s.th))

/-- The debug port and local memory (R280, R312, R318 to R321): a halt, a resume, a step and a forced halt act on the
core's state; an access reads or writes a register of a halted core and is refused on any other; a scrub corrects one
bit and reports more; local memory is written only while the core does not run. Program refreshes (R315, R316, R464):
CORE_REFRESH starts one on a core that is enabled, or is refused with its reason; a program that passes its check is the
core's, which restarts at the next boundary; the third failure brings back the one before. -/
def Obligations.CoresAreDebuggedAndRefreshed : Prop :=
  (∀ (s : State) (p : Path) (k : Core) (data : U32) (c : CoreSt), c = s.core k →
     (s.Reaches p (Addr.DBG_CTRL k) →
       ((s.coreState k = rcRunning ∨ s.coreState k = rcIdle ∨ s.coreState k = rcDraining) → c.slot = none → c.lock = none →
         (bitAt data.toNat 0 = true → bitAt data.toNat 3 = false → c.stepping = false →
           s.Completes (.dbgHalt p k data) fun t =>
             t.coreState k = rcHalted ∧ t.rd (DBG_STAT.HALTED k) = 1 ∧ t.rd (DBG_STAT.CAUSE k) = 0 ∧
             (t.core k).haltedFrom = s.coreState k ∧ (t.core k).pc = c.pc ∧ (t.core k).task = c.task ∧
             k.val ∉ (t.purlin (k.val / 32)).idle ∧ t.th = s.th) ∧
         (bitAt data.toNat 3 = true →
           s.Completes (.dbgForce p k data) fun t =>
             t.coreState k = rcHalted ∧ t.rd (DBG_STAT.HALTED k) = 1 ∧ t.rd (DBG_STAT.CAUSE k) = 3 ∧
             (t.core k).pc = c.pc ∧ t.th = s.th)) ∧
       (∀ b, s.coreState k = rcRunning → c.slot = some b → c.lock = none → bitAt data.toNat 3 = true →
         s.Completes (.dbgForce p k data) fun t =>
           t.coreState k = rcHalted ∧ t.rd (DBG_STAT.DS k) = 1 ∧ (t.core k).pc = b.1 ∧ (t.core k).slot = none) ∧
       (s.coreState k = rcHalted → c.haltedFrom = rcRunning ∨ c.haltedFrom = rcDraining →
         bitAt data.toNat 1 = true → data.toNat % 16 = 2 →
         s.Completes (.dbgResume p k data) fun t =>
           t.coreState k = c.haltedFrom ∧ t.rd (DBG_STAT.HALTED k) = 0 ∧ t.rd (DBG_STAT.DS k) = 0 ∧ (t.core k).pc = c.pc ∧
           (t.core k).bpSkip = (s.rd (DBG_STAT.CAUSE k) == 1)) ∧
       (data.toNat % 16 = 4 →
         s.Completes (.dbgStep p k data) fun t => t = if s.coreState k = rcHalted then s.stepCore k else s)) ∧
     (bitAt data.toNat 0 = false → s.Completes (.dbgHalt p k data) fun t => t = s) ∧
     (s.Reaches p (Addr.DBG_ACC k) → ∀ n, n = bits data.toNat 0 12 → bitAt data.toNat 16 = true →
       (s.coreState k ≠ rcHalted → s.Completes (.dbgAccGo p k data) fun t => t.rd (DBG_STAT.ACC_STATUS k) = 1 ∧ t.cores = s.cores) ∧
       (s.coreState k = rcHalted → bitAt data.toNat 12 = false → n < 16 →
         s.Completes (.dbgAccGo p k data) fun t =>
           t.reg (Addr.DBG_DATA k) = c.reg n ∧ t.rd (DBG_STAT.ACC_STATUS k) = 0 ∧ t.cores = s.cores) ∧
       (s.coreState k = rcHalted → bitAt data.toNat 12 = true → n < 16 →
         s.Completes (.dbgAccGo p k data) fun t =>
           t.core k = c.setReg n (s.reg (Addr.DBG_DATA k)) ∧ t.rd (DBG_STAT.ACC_STATUS k) = 0 ∧ t.th = s.th) ∧
       (s.coreState k = rcHalted → bitAt data.toNat 12 = true → 0x400 ≤ n → csrRO (n - 0x400) = true →
         s.Completes (.dbgAccGo p k data) fun t => t.rd (DBG_STAT.ACC_STATUS k) = 3 ∧ t.cores = s.cores)) ∧
     (∀ (w : BitVec 14) (errs : Nat),
       (errs + Tab.get 0 c.memErr w.toNat = 0 → s.Completes (.imemScrub k w errs) fun t => t.regs = s.regs ∧ t.th = s.th) ∧
       (errs + Tab.get 0 c.memErr w.toNat = 1 →
         s.Completes (.imemScrub k w errs) fun t =>
           t.rd (RC_MEM_CORR.N k) = min (2 ^ (RC_MEM_CORR.N k).w - 1) (s.rd (RC_MEM_CORR.N k) + 1) ∧
           Tab.get 0 (t.core k).memErr w.toNat = 0 ∧ (t.core k).imem = c.imem) ∧
       (2 ≤ errs + Tab.get 0 c.memErr w.toNat →
         s.Completes (.imemScrub k w errs) fun t => ∃ u : State,
           2 ≤ Tab.get 0 (u.core k).memErr w.toNat ∧ u.tallyOf 0x123 = min (2 ^ 48 - 1) (s.tallyOf 0x123 + 1) ∧
           t = u.event (k / 32) (RC_EVT.IMEM_UNCORR k) (unitId 4 k))) ∧
     (s.Reaches p (Addr.RC_MEMD k) →
       ((s.coreState k = rcHalted ∨ s.coreState k = rcStopped ∨ s.coreState k = rcPoweredDown) →
         (s.memA k < 0x10000 →
           s.Completes (.rcMemdAccess p k true data) fun t =>
             (t.core k).imem = memStore c.imem (s.memA k) 4 data.toNat ∧ (t.core k).dmem = c.dmem ∧ t.regs = s.regs) ∧
         (0x10000 ≤ s.memA k →
           s.Completes (.rcMemdAccess p k true data) fun t =>
             t.core k = c.storeData (s.memA k) 4 data.toNat ∧ t.regs = s.regs)) ∧
       ((s.coreState k = rcRunning ∨ s.coreState k = rcIdle ∨ s.coreState k = rcDraining) →
         s.Completes (.rcMemdAccess p k true data) fun t => t = s.accErr p (Addr.RC_MEMD k) .ignored true)) ∧
     (s.pins.answered = true → (∀ x, Tab.get 0 c.memErr x = 0) → s.Completes (.rcMemdAccess p k false data) fun t => t = s)) ∧
  (∀ (s : State) (r : DirReq) (g : Nat) (k : Core),
     (s.TakesDir 0x08 r g → r.args = [] → bits r.data.toNat 11 21 = 0 → ∀ c p x, c = bits r.data.toNat 0 6 →
       p = bits r.data.toNat 6 4 → x = (s.taken r g).startRefresh c p (bitAt r.data.toNat 10) →
       (∀ n u, x = (.id n, u) → s.Completes (.coreRefresh r) fun t => t = u.dirDone (carried r 0x08 g) n) ∧
       (∀ e f u, x = (.refused e f, u) → e ≠ 0xE1 → e ≠ 0xE2 →
         s.Completes (.coreRefresh r) fun t => t = u.dirRefused (carried r 0x08 g) 4 c e f) ∧
       (∀ e f u, x = (.refused e f, u) → (e = 0xE1 ∨ e = 0xE2) →
         s.Completes (.coreRefresh r) fun t => t = u.dirRefused (carried r 0x08 g) 0x0D 0x08 e f)) ∧
     (s.TakesDir 0x08 r g → (r.args ≠ [] ∨ bits r.data.toNat 11 21 ≠ 0) →
       s.Completes (.coreRefresh r) fun t => t = (s.taken r g).dirBad (carried r 0x08 g)) ∧
     (s.on (RC_CTRL.EN k) = false → ∀ p b, s.startRefresh k p b = (.refused 0x85 k, s)) ∧
     ((s.core k).refresh = none ∨ s.coreState k ≠ rcLoading → ∀ ok, s.Completes (.coreProgramLoaded k ok) fun t => t = s) ∧
     (∀ f, (s.core k).refresh = some f → s.coreState k = rcLoading →
       (f.fails < 2 →
         s.Completes (.coreProgramLoaded k false) fun t =>
           (t.core k).refresh = some { f with fails := f.fails + 1 } ∧ (t.core k).imem = (s.core k).imem ∧ t.regs = s.regs) ∧
       (2 ≤ f.fails →
         s.Completes (.coreProgramLoaded k false) fun t =>
           t = ((((s.loadOld k).flag (RC_EVT.REFRESH_FAIL k)).refuse 4 k 0x84 f.prog).refreshEnd k f 2)) ∧
       (∀ bs, s.progFrom (f.copyB != s.activeCopy) k f.prog = .ok bs → (∀ a ∈ s.mg.acts, a.id ≠ f.id) →
         s.Completes (.coreProgramLoaded k true) fun t =>
           (t.core k).imem = bytesMem bs ∧ (t.core k).refresh = none ∧ (t.core k).restartDue = true ∧
           t.rd (RC_CTRL.PROG k) = f.prog % 2 ^ (RC_CTRL.PROG k).w) ∧
       (∀ bs a, s.progFrom (f.copyB != s.activeCopy) k f.prog = .ok bs → s.act f.id = some a →
         s.Completes (.coreProgramLoaded k true) fun t => ∃ u : State,
           (u.core k).imem = bytesMem bs ∧ (u.core k).refresh = none ∧ (u.core k).restartDue = true ∧
           t = u.endAct a (k / 32) (Addr.RC_EVT k) (RC_EVT.REFRESH_FAIL k).lo [f.prog] 0)))

/-- The word of every rafter instruction (R282, R283) decodes to that instruction, with every operand at every value its
fields hold, and the word fits 32 bits; words with a field that must be 0 and is not are no instruction (R284). -/
def Obligations.CoreWordsDecodeToTheirInstructions : Prop :=
  ∀ (k : Core) (d a b : GReg) (n : Fin 2) (i : BitVec 18) (j : BitVec 26) (sh : BitVec 5) (sx : BitVec 6) (up : BitVec 16)
    (cnt : BitVec 11) (m : BitVec 10),
    (∀ p ∈ [(encR 0x00 d a b 0x01, execAdd k d a b), (encR 0x00 d a b 0x02, execSub k d a b), (encR 0x00 d a b 0x03, execAddc k d a b),
        (encR 0x00 d a b 0x04, execSubc k d a b), (encR 0x00 d a b 0x05, execAndR k d a b), (encR 0x00 d a b 0x06, execOrR k d a b),
        (encR 0x00 d a b 0x07, execXorR k d a b), (encR 0x00 d a b 0x08, execSll k d a b), (encR 0x00 d a b 0x09, execSrl k d a b),
        (encR 0x00 d a b 0x0A, execSra k d a b), (encR 0x00 d a b 0x0B, execSlt k d a b), (encR 0x00 d a b 0x0C, execSltu k d a b),
        (encR 0x00 d a b 0x0D, execMul k d a b), (encR 0x00 d a b 0x0E, execMulhs k d a b), (encR 0x00 d a b 0x0F, execMulhu k d a b),
        (encR 0x00 d a b 0x10, execMinR k d a b), (encR 0x00 d a b 0x11, execMaxR k d a b), (encR 0x00 d a b 0x12, execAbsd k d a b),
        (encR 0x00 d a 0 0x13, execClz k d a), (encR 0x28 0 a 0 0x00, execJr k a), (encR 0x29 d a 0 0x00, execJalr k d a),
        (encI 0x01 d a i.toNat, execAddi k d a i), (encI 0x02 d a i.toNat, execAndi k d a i), (encI 0x03 d a i.toNat, execOri k d a i),
        (encI 0x04 d a i.toNat, execXori k d a i), (encI 0x05 d a sh.toNat, execSlli k d a sh), (encI 0x06 d a sh.toNat, execSrli k d a sh),
        (encI 0x07 d a sh.toNat, execSrai k d a sh), (encI 0x08 d a i.toNat, execSlti k d a i), (encI 0x09 d a i.toNat, execSltiu k d a i),
        (encU 0x0A d up.toNat, execLui k d up), (encI 0x10 d a i.toNat, execLdw k d a i), (encI 0x11 d a i.toNat, execLdh k d a i),
        (encI 0x12 d a i.toNat, execLdhu k d a i), (encI 0x13 d a i.toNat, execLdb k d a i), (encI 0x14 d a i.toNat, execLdbu k d a i),
        (encI 0x15 d a i.toNat, execLdq k d a i), (encI 0x18 d a i.toNat, execStw k d a i), (encI 0x19 d a i.toNat, execSth k d a i),
        (encI 0x1A d a i.toNat, execStb k d a i), (encI 0x1B d a i.toNat, execStq k d a i), (encB 0x20 a b i.toNat, execBeq k a b i),
        (encB 0x21 a b i.toNat, execBne k a b i), (encB 0x22 a b i.toNat, execBlt k a b i), (encB 0x23 a b i.toNat, execBge k a b i),
        (encB 0x24 a b i.toNat, execBltu k a b i), (encB 0x25 a b i.toNat, execBgeu k a b i), (encJ 0x26 j.toNat, execJ k j),
        (encJ 0x27 j.toNat, execJal k j), (encL 0x2C n a cnt.toNat m.toNat, execLoop k n a cnt m)],
      p.1 < 2 ^ 32 ∧ decodeCore k p.1 = some p.2) ∧
    (∀ p ∈ [(encM 0x30 n a b, execMac k n a b), (encM 0x31 n a b, execMsu k n a b), (encM 0x32 n a b, execMacd k n a b),
        (encM 0x33 0 a b, execMacp k a b), (encA 0x34 0 0 n 0 0x00, execAclr k n), (encA 0x34 0 a n 0 0x01, execAld k n a),
        (encA 0x34 0 a n sx.toNat 0x02, execAadd k n a sx), (encA 0x34 0 a n sx.toNat 0x03, execAsub k n a sx),
        (encA 0x34 0 0 n sh.toNat 0x04, execAshr k n sh), (encA 0x34 0 0 n sh.toNat 0x05, execAshl k n sh),
        (encA 0x34 d 0 n 0 0x06, execMval k d n), (encA 0x34 d 0 n 0 0x07, execMvah k d n), (encS 0x38 d 0 0 0x00, execTake k d),
        (encS 0x39 0 a m.toNat 0x00, execDoneT k a m), (encS 0x3A d a 0 0x00, execPush k d a), (encS 0x3B d a 0 0x00, execAlloc k d a),
        (encS 0x3C d a m.toNat 0x00, execLock k d a m), (encS 0x3D d a 0 0x00, execRls k d a), (encS 0x3E d 0 m.toNat 0x00, execMfc k d m),
        (encS 0x3E 0 a m.toNat 0x01, execMtc k m a), (encS 0x3E 0 0 0 0x02, execRete k), (encS 0x3E 0 0 m.toNat 0x03, execTrap k m),
        (encS 0x3E 0 0 0 0x04, execSync k)],
      p.1 < 2 ^ 32 ∧ decodeCore k p.1 = some p.2) ∧
    (∀ w, w < 2 ^ 32 → (bits w 26 6 ∈ [0x0B, 0x0F, 0x16, 0x17, 0x1C, 0x1F, 0x2A, 0x2B, 0x2D, 0x2F, 0x35, 0x37, 0x3F] ∨
        (bits w 26 6 = 0 ∧ bits w 8 6 ≠ 0) ∨ (bits w 26 6 = 0 ∧ 0x14 ≤ bits w 0 8) ∨ (bits w 26 6 = 0x0A ∧ bits w 16 6 ≠ 0)) →
      decodeCore k w = none)

/-! ## Shingle engines -/

/-- Blocks (R328, R329, R338, R341, R343): an idle active engine takes the head the Purlin would dispatch first; the
first pass decides between a coded, a NOGAIN and a BYPASS container and whether a second is needed; the container's
descriptor is pushed once its queue is below the limit; SH_FLUSH ends the named stream's open block. -/
def Obligations.ShingleBlocksRunTheirPasses : Prop :=
  ∀ (s : State) (e : Engine) (y : EngineSt), y = s.engine e.val →
    (s.on (SH_STAT.ACTIVE e) = false ∨ y.block ≠ none ∨ y.done ≠ none ∨ y.leaving = true →
      s.Completes (.shingleBlockOpen e) fun t => t = s) ∧
    (∀ r x u, s.on (SH_STAT.ACTIVE e) = true → y.block = none → y.done = none → y.leaving = false →
      (List.range 8).reverse.findSome? (fun p =>
        ((s.engineReady e).filter fun r => !s.openElsewhere e r.queue).find? fun r => r.prio == p) = some r →
      s.takeItem (engineHalf e) r false = (some x, u) →
      s.Completes (.shingleBlockOpen e) fun t => ∃ (v w : State) (b : ShBlock),
        w = u.trace (engineHalf e) 1 x.desc.queue e x.desc.prio x.desc.cls x.desc.course (tfPurlinCycles (s.now - r.readyAt)) ∧
        b.queue = x.desc.queue ∧ b.tasks = [x] ∧ b.words = (w.taskWords x).1 ∧ b.heads = (w.taskWords x).2.1 ∧
        b.limit = min 65536 (w.eff (SH_QCFG.BLKMAX x.desc.queue) * 4096) ∧ b.outq = w.eff (SH_QCFG_OUTQ.OUTQ x.desc.queue) ∧
        b.keyed = w.keyedSource (wfield (b.heads.headD 0) 8 16) ∧
        b.effort = (if b.keyed = true then w.eff SH_EFFORT.KEYED else w.eff SH_EFFORT.STREAM) ∧
        (v.engine e).block = some b ∧ (v.engine e).flush = false ∧ t = v.settle.holdAll) ∧
    ((y.block = none ∨ y.done ≠ none) → s.Completes (.shinglePassDone e) fun t => t = s) ∧
    (∀ b b2 u v c, y.block = some b → y.done = none → b.pass = 1 → s.on (SH_STAT.WAITING e) = false →
      s.extendBlock e 4096 b = (b2, u) →
      v = (u.putEngine e { u.engine e.val with block := some b2, flush := false }).settle.holdAll → c = v.codeBlock e b2 →
      (c.why = 2 ∨ (c.why = 0 ∧ c.win.num = 0) → s.Completes (.shinglePassDone e) fun t => t = v.tryPlace e b2 c) ∧
      (c.why = 1 →
        s.Completes (.shinglePassDone e) fun t =>
          (t.engine e).block = some { b2 with pass := 2 } ∧ t.rd (SH_EVT.NOGAIN e) = 1 ∧
          t.rd (SH_NOGAIN.N e) = min (2 ^ (SH_NOGAIN.N e).w - 1) (v.rd (SH_NOGAIN.N e) + 1) ∧
          t.rd (SH_PASS2.N e) = min (2 ^ (SH_PASS2.N e).w - 1) (v.rd (SH_PASS2.N e) + 1)) ∧
      (c.why = 0 → c.win.num ≠ 0 →
        s.Completes (.shinglePassDone e) fun t =>
          (t.engine e).block = some { b2 with pass := 2 } ∧
          t.rd (SH_PASS2.N e) = min (2 ^ (SH_PASS2.N e).w - 1) (v.rd (SH_PASS2.N e) + 1))) ∧
    (∀ b, y.block = some b → y.done = none → (b.pass ≠ 1 ∨ s.on (SH_STAT.WAITING e) = true) →
      s.Completes (.shinglePassDone e) fun t => t = s.tryPlace e b (s.codeBlock e b)) ∧
    (∀ b c, s.placeContainer e b c = none → s.on (SH_STAT.WAITING e) = true →
      ((s.tryPlace e b c).engine e).block = some b ∧ (s.tryPlace e b c).rd (SH_STAT.WAITING e) = 1 ∧ (s.tryPlace e b c).th = s.th) ∧
    ((y.block = none ∨ y.done = none) → s.Completes (.shingleContainerPush e) fun t => t = s) ∧
    (∀ b d ep, y.block = some b → y.done = some (d, ep) →
      (s.atLimit b.outq = true →
        s.Completes (.shingleContainerPush e) fun t => t = s.wr (SH_STAT.WAITING e) 1) ∧
      (s.atLimit b.outq = false →
        s.Completes (.shingleContainerPush e) fun t => ∃ u v w : State,
          u = (s.wr (SH_STAT.WAITING e) 0).pushQueue b.outq ((s.wr (SH_STAT.WAITING e) 0).fillDesc b.outq d) ep ∧
          (v.engine e).block = none ∧ (v.engine e).done = none ∧ v.th = u.th ∧ v.queues = u.queues ∧
          v.rd (SH_BLOCKS.N e) = min (2 ^ (SH_BLOCKS.N e).w - 1) (u.rd (SH_BLOCKS.N e) + 1) ∧
          w = v.each b.tasks (fun s x => (s.releaseTask x).taskDone x e) ∧ t = (w.engineIdle e).settle.holdAll)) ∧
    (∀ (p : Path) (data : U32), s.Reaches p Addr.SH_FLUSH →
      s.Completes (.shFlush p data) fun t =>
        t.regs = s.regs ∧ t.th = s.th ∧ (t.engine e).block = y.block ∧
        (∀ b, y.block = some b → b.queue = data.toNat % 2 ^ 14 → b.pass = 1 → b.keyed = false → (t.engine e).flush = true) ∧
        (∀ b, y.block = some b → b.queue ≠ data.toNat % 2 ^ 14 → (t.engine e).flush = y.flush))

/-! ## Ridge lanes and control transactions -/

/-- Control transactions (R368 to R375): one that is accepted here is executed and its response waits at its lane group;
a PING answers with IDENT; a malformed request is BAD_REQUEST; a tag that is outstanding is answered without execution,
and one beyond `MAXOUT` waits for no room but is BUSY. -/
def Obligations.ControlTransactionsAreAnswered : Prop :=
  ∀ (s : State) (l : Lane) (tag target : BitVec 16) (addr data mask : U32) (g : Nat),
    (s.Accepts l tag target g →
      (addr.toNat % 4 = 0 →
        (s.Completes (.ctRead l tag target addr) fun t =>
          t = (s.accepted l tag target g).ctRead (.lanes g) tag.toNat addr.toNat) ∧
        (s.Completes (.ctWrite l tag target addr data) fun t =>
          t = (s.accepted l tag target g).ctWrite (.lanes g) tag.toNat addr.toNat data.toNat) ∧
        (s.Completes (.ctRmw l tag target addr data mask) fun t =>
          t = (s.accepted l tag target g).ctRmw (.lanes g) tag.toNat addr.toNat data.toNat mask.toNat)) ∧
      (addr.toNat % 4 ≠ 0 → ∀ c ∈ [Instr.ctRead l tag target addr, .ctWrite l tag target addr data, .ctRmw l tag target addr data mask],
        s.Completes c fun t => ∃ op, t = (s.accepted l tag target g).respond (.lanes g) tag.toNat .badRequest 0 op ∧
          t.rd RG_BADREQ.N = min (2 ^ RG_BADREQ.N.w - 1) ((s.accepted l tag target g).rd RG_BADREQ.N + 1)) ∧
      (s.Completes (.ctPing l tag target) fun t =>
        (t.group g).responses = (s.group g).responses ++
          [(responseWord tag.toNat (s.rd NODE_ID.ID) Status.done.code 0 0 (s.reg Addr.IDENT).toNat (s.rd NODE_ID.ID), true)] ∧
        (∃ x ∈ t.trans, x.tag = tag.toNat ∧ x.group = g ∧ x.answered = true) ∧ t.trans.length = s.trans.length + 1 ∧
        t.rd RG_CTL_STAT.OUT = (s.trans.length + 1) % 2 ^ RG_CTL_STAT.OUT.w ∧ t.th = s.th)) ∧
    (∀ w0 args, s.Accepts l (BitVec.ofNat 16 (wfield w0 0 16)) (BitVec.ofNat 16 (wfield w0 16 16)) g → requestOk w0 args = false →
      s.Completes (.badRequest l w0 args) fun t => ∃ u : State,
        u = s.accepted l (BitVec.ofNat 16 (wfield w0 0 16)) (BitVec.ofNat 16 (wfield w0 16 16)) g ∧
        (t.group g).responses = (s.group g).responses ++
          [(responseWord (wfield w0 0 16) (s.rd NODE_ID.ID) Status.badRequest.code 0 0 0 (wfield w0 32 32), true)] ∧
        t.rd RG_BADREQ.N = min (2 ^ RG_BADREQ.N.w - 1) (u.rd RG_BADREQ.N + 1)) ∧
    (s.rxDecodes l = true → s.laneGroup l = some g → (s.trans.any fun x => x.tag == tag.toNat && x.group == g) = true →
      s.Completes (.ctPing l tag target) fun t =>
        t.trans = s.trans ∧
        (t.group g).responses = (s.group g).responses ++
          [(responseWord tag.toNat (s.rd NODE_ID.ID) Status.duplicate.code 0 0 0 0, false)]) ∧
    (s.rxDecodes l = true → s.laneGroup l = some g → (s.trans.any fun x => x.tag == tag.toNat && x.group == g) = false →
      s.rd RG_CTL_CFG.MAXOUT ≤ s.trans.length → s.rescue = false →
      s.Completes (.ctPing l tag target) fun t => ∃ u : State,
        u.trans = s.trans ∧ u.groups = s.groups ∧ t = u.respondBusy (.lanes g) tag.toNat) ∧
    (s.rxDecodes l = false → s.Completes (.ctPing l tag target) fun t => t = s)

/-- Frames of a lane (R357, R358, R361 to R363, R391): an acknowledgement covers the frames up to it, a RESEND or the
end of the acknowledge time sends again what is not covered; a STATUS frame gives every lane's lock; responses go before
records, on the first free lane; a bad frame is counted; a lane that is not ACTIVE may lose its lock. -/
def Obligations.LaneFramesActOnGroups : Prop :=
  ∀ (s : State) (l : Lane) (g : LaneGroup),
    (∀ gseq i gone fin, s.rxDecodes l = true → s.laneGroup l = some g.val →
      (s.group g).frames.findIdx? (fun f => f.gseq == gseq.toNat && (!f.due || f.resent)) = some i →
      gone = (s.group g).frames.take (i + 1) → fin = (s.group g).tasks.filter (fun x => gone.any fun f => f.gseq == x.lastSeq) →
      s.Completes (.ackFrame l g gseq) fun t => ∃ u v : State,
        (u.group g).frames = (s.group g).frames.drop (i + 1) ∧ u.rd (RG_GRP_ACKED.SEQ g) = gseq.toNat ∧
        (u.group g).tasks = (s.group g).tasks.filter (fun x => !(gone.any fun f => f.gseq == x.lastSeq)) ∧
        v = (u.each fin fun s x => (s.releaseTask x.task).taskDone x.task g).loftDone (fin.flatMap fun x => x.task.descs) ∧
        ((∀ f ∈ gone, f.from_ = none) → t = (v.pump g).settle.holdAll)) ∧
    (∀ gseq : BitVec 24, s.rxDecodes l = true → s.laneGroup l = some g.val →
      (s.group g).frames.findIdx? (fun f => f.gseq == gseq.toNat && (!f.due || f.resent)) = none →
      s.Completes (.ackFrame l g gseq) fun t => t = s.rxFrameOn l) ∧
    (∀ gseq : BitVec 24, s.rxDecodes l = false → s.Completes (.ackFrame l g gseq) fun t => t = s) ∧
    (∀ first last : BitVec 24, s.rxDecodes l = true → s.laneGroup l = some g.val →
      s.Completes (.resendFrame l g first last) fun t => ∃ u : State,
        (u.group g).frames = (s.group g).frames.map (fun f =>
          if seqIn first.toNat last.toNat f.gseq = true ∧ (f.due = false ∨ f.resent = true) then { f with resent := true, due := true }
          else f) ∧ t = u.pump g) ∧
    (∀ locked : U32, s.rxDecodes l = true →
      s.Completes (.beStatusFrame l locked) fun t =>
        ∀ m : Lane, t.rd (RG_LANE_STAT.BE_LOCK m) = b2n (bitAt locked.toNat m) ∧ t.laneState m = s.laneState m) ∧
    ((s.group g).frames = [] ∨ (∃ f fs, (s.group g).frames = f :: fs ∧ f.due = true) →
      s.Completes (.ackTimeout g) fun t => t = s) ∧
    (∀ f fs, (s.group g).frames = f :: fs → f.due = false →
      s.Completes (.ackTimeout g) fun t =>
        t = ((s.advance (f.sentAt + usTf (s.eff (RG_GRP_WIN.ACK_TMO g)))).event (g / 8) (RG_GRP_EVT.ACK_TMO g) (unitId 7 g)).resend g
          fun _ => true) ∧
    (s.laneState l ≠ rgDown → s.laneState l ≠ rgParked →
      s.Completes (.statusSend l) fun t =>
        (t.lane l).out = some (ridgeHeader 2 false false false ((s.laneGroup l).getD 0) 0 1 l,
          [mkWord [(0, 32, (List.range 32).foldl (fun m k => m + s.rd (RG_LANE_STAT.RX_LOCK k) * 2 ^ k) 0)]]) ∧
        (t.lane l).statusAt = t.now ∧ t.rd (RG_FRAMES_TX.N l) = min (2 ^ (RG_FRAMES_TX.N l).w - 1) (s.rd (RG_FRAMES_TX.N l) + 1)) ∧
    (s.laneState l = rgDown ∨ s.laneState l = rgParked → s.Completes (.statusSend l) fun t => t = s) ∧
    ((s.group g).responses = [] → s.Completes (.responseSend g) fun t => t = s) ∧
    (∀ w ends rest (m : Lane), (s.group g).responses = (w, ends) :: rest →
      s.firstFree ((s.allLanes g).filter fun l => s.laneState l == rgReady || s.laneState l == rgActive || s.laneState l == rgSpare)
        = some m.val →
      s.Completes (.responseSend g) fun t =>
        (t.group g).responses = rest ∧ (t.lane m).out = some (ridgeHeader 1 false false false g 0 1 m, [w]) ∧
        t.trans = (if ends = true then s.trans.filter (fun x => !(x.tag == wfield w 0 16 && x.group == g.val)) else s.trans)) ∧
    ((s.group g).responses = [] → ((s.group g).admitted = false ∨ s.eff (RG_GRP_WIN.WINDOW g) ≤ (s.group g).frames.length) →
      s.Completes (.recordSend g) fun t => t = s) ∧
    (∀ (m : Nat) r, (s.group g).responses = [] → s.forwards g = false → (s.group g).admitted = true →
      (s.group g).frames.length < s.eff (RG_GRP_WIN.WINDOW g) → s.firstFree (s.recordLanes g) = some m →
      (s.group g).fwd = [] → (s.groupReady g) = [r] → r.prio < 8 →
      s.Completes (.recordSend g) fun t => t = (s.advance (s.lane m).freeAt).takeRecord g m r) ∧
    (s.rxDecodes l = true →
      s.Completes (.rgBadRx l) fun t =>
        t.rd (RG_LANE_STAT.RX_LOCK l) = 1 ∧ t.rd (RG_BAD_RX.N l) = min (2 ^ (RG_BAD_RX.N l).w - 1) (s.rd (RG_BAD_RX.N l) + 1) ∧
        t.groups = s.groups) ∧
    (s.rxDecodes l = false → s.Completes (.rgBadRx l) fun t => t = s) ∧
    (s.laneState l ≠ rgActive →
      s.Completes (.rxLockLoss l) fun t => t.rd (RG_LANE_STAT.RX_LOCK l) = 0 ∧ t.laneState l = s.laneState l ∧ t.groups = s.groups) ∧
    (s.laneState l = rgActive → s.Completes (.rxLockLoss l) fun t => t = s)

/-- Lane states (R364 to R366, R464): a training lane becomes READY with both locks, or FAILED after eight tries; an
ACTIVE lane that fails, or is named by LANE_SPARE, is FAILED, and its group looks for a replacement; LANE_RETURN trains
a FAILED one. -/
def Obligations.LaneStatesFollowTheTable : Prop :=
  ∀ (s : State) (l : Lane),
    (s.laneState l = rgTrain → s.on (RG_LANE_STAT.BE_LOCK l) = true →
      (s.mg.acts = [] → s.Completes (.laneReady l) fun t =>
        t.laneState l = rgReady ∧ t.rd (RG_LANE_STAT.RX_LOCK l) = 1 ∧ (t.lane l).trainFails = 0) ∧
      (s.Completes (.laneReady l) fun t => ∃ u : State,
        u.laneState l = rgReady ∧ (u.lane l).trainFails = 0 ∧
        t = u.retrainReached 6 l (halfOf 32 l) (Addr.RG_LANE_STAT l) rgReady true)) ∧
    (s.laneState l ≠ rgTrain ∨ s.on (RG_LANE_STAT.BE_LOCK l) = false → s.Completes (.laneReady l) fun t => t = s) ∧
    (s.laneState l = rgTrain →
      ((s.lane l).trainFails < 7 →
        s.Completes (.laneTrainTimeout l) fun t =>
          (t.lane l).trainFails = (s.lane l).trainFails + 1 ∧ (t.lane l).trainAt = t.now ∧ t.regs = s.regs) ∧
      (7 ≤ (s.lane l).trainFails →
        s.Completes (.laneTrainTimeout l) fun t => ∃ u : State,
          u.laneState l = rgFailed ∧ u.rd (RG_LANE_EVT.TRAIN_FAIL l) = 1 ∧ (u.lane l).trainFails = 0 ∧
          t = u.retrainReached 6 l (halfOf 32 l) (Addr.RG_LANE_STAT l) rgFailed false)) ∧
    (s.laneState l ≠ rgTrain → s.Completes (.laneTrainTimeout l) fun t => t = s) ∧
    (∀ lockLost, s.laneState l = rgActive →
      s.Completes (.laneFail l lockLost) fun t =>
        t = (if lockLost = true then s.wr (RG_LANE_STAT.RX_LOCK l) 0 else s).failLane l) ∧
    (∃ u v : State, u.laneState l = rgFailed ∧ u.lanes = s.lanes ∧ u.groups = s.groups ∧
      v = (((u.event (halfOf 32 l) (RG_LANE_EVT.FAIL l) (unitId 6 l)).tally (0x400 + l)).ledgerEvent 0x0D [l]) ∧
      (v.laneGroup l = none →
        s.failLane l = (v.resendLane l).retrainReached 6 l (halfOf 32 l) (Addr.RG_LANE_STAT l) rgFailed false) ∧
      (∀ g, v.laneGroup l = some g → s.failLane l =
        ((v.wakeSpare g).resendLane l).retrainReached 6 l (halfOf 32 l) (Addr.RG_LANE_STAT l) rgFailed false)) ∧
    (∀ lockLost, s.laneState l ≠ rgActive → s.Completes (.laneFail l lockLost) fun t => t = s) ∧
    (∀ r g, s.TakesDir 0x06 r g → r.args = [] → r.data.toNat = l.val →
      (s.laneState l = rgActive →
        s.Completes (.laneSpare r) fun t => t = ((s.taken r g).failLane l).dirDone (carried r 0x06 g) 0) ∧
      (s.laneState l ≠ rgActive →
        s.Completes (.laneSpare r) fun t => t = (s.taken r g).dirWrong (carried r 0x06 g) (Addr.RG_LANE_STAT l))) ∧
    (∀ r g, s.TakesDir 0x07 r g → r.args = [] → r.data.toNat = l.val →
      (s.laneState l = rgFailed →
        s.Completes (.laneReturn r) fun t => ∃ u : State,
          u.laneState l = rgTrain ∧ u.rd (RG_LANE_STAT.BE_LOCK l) = s.rd (RG_LANE_STAT.BE_LOCK l) ∧
          t = u.dirDone (carried r 0x07 g) 0) ∧
      (s.laneState l ≠ rgFailed →
        s.Completes (.laneReturn r) fun t => t = (s.taken r g).dirWrong (carried r 0x07 g) (Addr.RG_LANE_STAT l))) ∧
    (∀ r g, s.TakesDir 0x06 r g → (r.args ≠ [] ∨ 32 ≤ r.data.toNat) →
      s.Completes (.laneSpare r) fun t => t = (s.taken r g).dirBad (carried r 0x06 g))

/-! ## The Hip tree -/

/-- Links (R378 to R381, R383): lock leads to TRAIN; a HELLO makes the link UP and tells of the neighbour; a HELLO goes
out every period; lock loss, silence or a slip loses the neighbour; credits return up to eight; a forwarded item leaves
48 ns after it came, or is dropped and counted. Data frames (R381, R382, R386): one for this node is handled by its kind
and its credit given back; one for another goes on toward it, or without a route is dropped and counted, a request being
answered NO_ROUTE; a link that is not up brings none; a remote transaction without an answer times out. -/
def Obligations.HipLinksAndFrames : Prop :=
  (∀ (s : State) (l : Link),
     (s.hipState l = 0 → s.on (HIP_CTRL.EN l) = true →
       s.Completes (.hipLock l) fun t => t.hipState l = 1 ∧ ∀ a, a ≠ Addr.HIP_STAT l → t.reg a = s.reg a) ∧
     (s.hipState l ≠ 0 ∨ s.on (HIP_CTRL.EN l) = false → s.Completes (.hipLock l) fun t => t = s) ∧
     (∀ data : U64, s.hipState l = 0 → s.Completes (.helloItem l data) fun t => t = s) ∧
     (∀ data : U64, (s.hipState l = 2 ∨ (s.hipState l = 1 ∧ s.mg.acts = [])) → bits data.toNat 0 16 ≠ s.nodeId →
       (s.link l).parent ≠ s.nodeId →
       s.Completes (.helloItem l data) fun t => ∃ u : State,
         u.hipState l = 2 ∧ u.rd (HIP_STAT.NEIGHBOUR l) = bits data.toNat 0 16 ∧ (u.link l).node = bits data.toNat 0 16 ∧
         (u.link l).root = bits data.toNat 16 16 ∧ (u.link l).dist = bits data.toNat 32 8 ∧
         (u.link l).rprio = bits data.toNat 40 4 ∧ (u.link l).parent = bits data.toNat 48 16 ∧ (u.link l).helloAt = s.now ∧
         (s.hipState l = 1 → (u.link l).credits = 8 ∧ u.rd (HIP_EVT.FOUND l) = 1) ∧
         t = u.treeChanged.hipPump l (u.treeChanged.link l).frames) ∧
     (s.hipState l = 2 →
       s.Completes (.helloSend l) fun t => ∃ u v : State,
         u = s.advance ((s.link l).sentAt + helloTf) ∧
         v = (u.setLink l { s.link l with sentAt := u.now }).hipLaunch l
           { kind := kindHello, data := [(u.setLink l { s.link l with sentAt := u.now }).helloData] } ∧
         t = (if s.running = true then v else v.treeDue)) ∧
     (s.hipState l ≠ 2 → s.Completes (.helloSend l) fun t => t = s) ∧
     (s.hipState l = 1 → ∀ c ∈ [Instr.hipSlip l, .hipNeighbourLoss l true],
       s.Completes c fun t =>
         t.hipState l = (if c = .hipSlip l then 1 else 0) ∧ t.rd (HIP_STAT.NEIGHBOUR l) = 0 ∧ (t.link l).node = 0 ∧
         (t.link l).credits = 8 ∧ t.tree = s.tree) ∧
     (s.hipState l = 2 →
       (s.Completes (.hipSlip l) fun t => t = (s.flag (HIP_EVT.SLIP l)).loseNeighbour l 1) ∧
       (s.Completes (.hipNeighbourLoss l true) fun t => t = s.loseNeighbour l 0) ∧
       (s.Completes (.hipNeighbourLoss l false) fun t =>
         t = (s.advance ((s.link l).helloAt + 4 * helloTf)).loseNeighbour l 1)) ∧
     (∀ st : Fin 3, s.hipState l = 2 → s.on (HIP_CTRL.EXPECT l) = false → s.parentLink ≠ some l.val → ∃ u : State,
       u.hipState l = st ∧ u.rd (HIP_EVT.LOST l) = 1 ∧ (u.link l).node = 0 ∧ (u.link l).credits = 8 ∧
       s.loseNeighbour l st = (u.forgetIds l).treeChanged) ∧
     (s.hipState l = 0 → ∀ c ∈ [Instr.hipSlip l, .hipNeighbourLoss l true, .hipNeighbourLoss l false],
       s.Completes c fun t => t = s) ∧
     (∀ n : BitVec 8, (s.hipState l ≠ 2 → s.Completes (.creditItem l n) fun t => t = s) ∧
       (s.hipState l = 2 → (s.link l).frames = [] →
         s.Completes (.creditItem l n) fun t =>
           (t.link l).credits = min 8 ((s.link l).credits + n.toNat) ∧
           t.rd (HIP_ITEMS_RX.N l) = min (2 ^ (HIP_ITEMS_RX.N l).w - 1) (s.rd (HIP_ITEMS_RX.N l) + 1)) ∧
       (s.hipState l = 2 →
         s.Completes (.creditItem l n) fun t => ∃ u : State,
           (u.link l).credits = min 8 ((s.link l).credits + n.toNat) ∧ t = u.hipPump l (s.link l).frames)) ∧
     ((s.link l).items = [] → s.Completes (.hipItemForward l) fun t => t = s) ∧
     (∀ i rest due go, (s.link l).items = i :: rest → due = i.arrAt + nsTf 48 → go = max due (s.link l).freeAt →
       (s.linkUp l = false →
         s.Completes (.hipItemForward l) fun t =>
           (t.link l).items = rest ∧ t.rd (HIP_ITEM_LOST.N l) = min (2 ^ (HIP_ITEM_LOST.N l).w - 1) (s.rd (HIP_ITEM_LOST.N l) + 1)) ∧
       (s.linkUp l = true → s.rd HIP_CFG.FWD_LIMIT < tfNs (go - due) →
         s.Completes (.hipItemForward l) fun t =>
           (t.link l).items = rest ∧ t.rd (HIP_LATE.N l) = min (2 ^ (HIP_LATE.N l).w - 1) (s.rd (HIP_LATE.N l) + 1)) ∧
       (s.linkUp l = true → tfNs (go - due) ≤ s.rd HIP_CFG.FWD_LIMIT →
         s.Completes (.hipItemForward l) fun t =>
           (t.link l).items = rest ∧ (t.link l).out.getLast? = some { i with wait := min 0xFFFF (i.wait + tfNs (go - due)) } ∧
           t.rd (HIP_WAIT_NS.N l) = min (2 ^ (HIP_WAIT_NS.N l).w - 1) (s.rd (HIP_WAIT_NS.N l) + tfNs (go - due)) ∧
           t.rd (HIP_ITEMS_TX.N l) = min (2 ^ (HIP_ITEMS_TX.N l).w - 1) (s.rd (HIP_ITEMS_TX.N l) + 1)))) ∧
  (∀ (s : State) (l : Link) (hdr : HipHdr) (ws : List Word) (e w0 : Word), e = ws.headD 0 → w0 = ws.getD 1 0 →
     (s.linkUp l = false → ∀ c ∈ [Instr.hipRecordFrame l hdr ws, .hipRequestFrame l hdr ws, .hipResponseFrame l hdr ws],
       s.Completes c fun t => t = s) ∧
     (s.linkUp l = true → hdr.dest.toNat = s.nodeId →
       (s.on RG_FWDIN.VALID = false →
         s.Completes (.hipRecordFrame l hdr ws) fun t => t = (s.count (HIP_FWD_REJECT.N l)).giveCredit l) ∧
       (∀ x, s.on RG_FWDIN.VALID = true → x = s.group (s.rd RG_FWDIN.GRP) →
         s.Completes (.hipRecordFrame l hdr ws) fun t => ∃ f : TxFrame,
           f.first = hdr.first ∧ f.last = hdr.last ∧ f.words = ws.tail ∧
           f.from_ = some (hdr.orig.toNat, wfield e 24 4, wfield e 0 24) ∧
           t = (s.setGroup (s.rd RG_FWDIN.GRP) { x with fwd := addForwarded f x.fwd }).giveCredit l) ∧
       (s.Completes (.hipRequestFrame l hdr ws) fun t =>
         t = (s.runRequest (.hip (wfield e 16 16) (wfield e 0 4)) w0 (ws.drop 2)).giveCredit l) ∧
       ((s.trans.any fun x => x.tag == wfield w0 0 16 && x.group == wfield e 0 4 && x.remote && !x.answered) = true →
         s.Completes (.hipResponseFrame l hdr ws) fun t =>
           t = ((s.answerTrans (wfield e 0 4) (wfield w0 0 16)).respondWord (wfield e 0 4) w0 true).giveCredit l) ∧
       ((s.trans.any fun x => x.tag == wfield w0 0 16 && x.group == wfield e 0 4 && x.remote && !x.answered) = false →
         s.Completes (.hipResponseFrame l hdr ws) fun t => t = (s.count RG_LATE_RSP.N).giveCredit l)) ∧
     (∀ k, s.linkUp l = true → hdr.dest.toNat ≠ s.nodeId → s.routeTo hdr.dest.toNat = some k →
       ∀ p ∈ [(Instr.hipRecordFrame l hdr ws, 0), (.hipRequestFrame l hdr ws, 1), (.hipResponseFrame l hdr ws, 2)],
         s.Completes p.1 fun t => t = s.hipFrame k { kind := p.2, hdr := hdr, words := ws, back := some l.val }) ∧
     (s.linkUp l = true → hdr.dest.toNat ≠ s.nodeId → s.routeTo hdr.dest.toNat = none →
       (∀ c ∈ [Instr.hipRecordFrame l hdr ws, .hipResponseFrame l hdr ws],
         s.Completes c fun t => t = (s.count (HIP_FWD_REJECT.N l)).giveCredit l) ∧
       (s.Completes (.hipRequestFrame l hdr ws) fun t =>
         t = (s.respond (.hip (wfield e 16 16) (wfield e 0 4)) (wfield w0 0 16) .noRoute 0 (wfield w0 16 16)).giveCredit l)) ∧
     (∀ ids : List (BitVec 16),
       (s.linkUp l = false → (s.Completes (.announceFrame l ids) fun t => t = s) ∧
         (s.Completes (.withdrawFrame l ids) fun t => t = s)) ∧
       (s.linkUp l = true →
         (∀ id ∈ ids, id = 0xFFFF ∨ (id.toNat ≠ s.nodeId ∧
           (Tab.get 0 s.tree.routes id.toNat = 0 ∨ Tab.get 0 s.tree.routes id.toNat = l.val + 1))) →
         s.Completes (.announceFrame l ids) fun t => ∃ u : State,
           u = { s with tree := u.tree } ∧
           (∀ id ∈ ids, id ≠ 0xFFFF → Tab.get 0 u.tree.routes id.toNat = l.val + 1) ∧
           (∀ n, (∀ id ∈ ids, id.toNat ≠ n) → Tab.get 0 u.tree.routes n = Tab.get 0 s.tree.routes n) ∧
           t = (u.tellParent 3 ((ids.map BitVec.toNat).filter (· != 0xFFFF))).giveCredit l) ∧
       (s.linkUp l = true →
         s.Completes (.withdrawFrame l ids) fun t => ∃ u : State,
           u = { s with tree := u.tree } ∧
           u.tree.routes = s.tree.routes.filter (fun x => !(x.2 == l.val + 1 &&
             ((s.idsOn l).filter fun i => (ids.map BitVec.toNat).contains i).contains x.1)) ∧
           t = (u.tellParent 4 ((s.idsOn l).filter fun i => (ids.map BitVec.toNat).contains i)).giveCredit l)) ∧
     (∀ (fseq : BitVec 24) (g : LaneGroup), s.linkUp l = true → hdr.dest.toNat = s.nodeId →
       s.Completes (.fwdAckFrame l hdr fseq g) fun t =>
         t = (if s.forwards g = true then s.cover g fseq.toNat else s).giveCredit l) ∧
     (∀ (tag : BitVec 16) (g : LaneGroup),
       (s.trans.find? (fun x => x.tag == tag.toNat && x.group == g.val && x.remote && !x.answered) = none →
         s.Completes (.remoteTimeout tag g) fun t => t = s) ∧
       (∀ x, s.trans.find? (fun x => x.tag == tag.toNat && x.group == g.val && x.remote && !x.answered) = some x →
         s.Completes (.remoteTimeout tag g) fun t => ∃ u : State,
           u = s.advance (x.at_ + usTf (s.rd RG_CTL_CFG.REMOTE_TMO)) ∧
           (t.group g).responses = (s.group g).responses ++
             [(responseWord tag.toNat (s.rd NODE_ID.ID) Status.timeOut.code 0 0 0 0, true)] ∧
           t = u.respond (.lanes g) tag.toNat .timeOut 0 0)))

/-! ## Gauge units -/

/-- Jobs (R398, R406, R408, R414 to R416): an input that falls due waits once, or is missed, or is urgent; the next
waiting job starts on a free slice; switching, settling and each conversion follow; the job ends with its reading, a
fault ends one that uses a source, and a diagnostic job judges an open input. -/
def Obligations.GaugeJobsRunTheirPhases : Prop :=
  ∀ (s : State) (h : Half) (j : GaugeInput) (sl : Slice) (raw : U32),
    (s.on (GA_STAT.ACTIVE h) = false ∨ (s.ginput h j).admitted = false → s.Completes (.gaugeDue h j) fun t => t = s) ∧
    (∀ u, s.on (GA_STAT.ACTIVE h) = true → (s.ginput h j).admitted = true →
      u = (s.advance (s.ginput h j).nextDue).setInput h j
        { s.ginput h j with nextDue := (s.ginput h j).nextDue + max 1 (s.gaPeriod h j) } →
      (s.effOn (GA_IN_A.URGENT h j) = false → (∀ d ∈ (s.unit h).due, d.input ≠ j.val) → s.fullCal h = false →
        s.mg.frozen = false →
        s.Completes (.gaugeDue h j) fun t =>
          (t.unit h).due = (s.unit h).due ++ [⟨j, (s.ginput h j).nextDue, 2, 0, false, false⟩] ∧ t.regs = s.regs ∧
          (t.ginput h j).nextDue = (s.ginput h j).nextDue + max 1 (s.gaPeriod h j) ∧ t.now = u.now) ∧
      (s.effOn (GA_IN_A.URGENT h j) = true → (∀ d ∈ (s.unit h).due, d.input ≠ j.val) → s.mg.frozen = false →
        s.Completes (.gaugeDue h j) fun t => t = u.gaUrgent h j) ∧
      ((∀ d ∈ (s.unit h).due, d.input ≠ j.val) → (s.mg.frozen = true ∨ (s.fullCal h = true ∧ s.effOn (GA_IN_A.URGENT h j) = false)) →
        s.Completes (.gaugeDue h j) fun t =>
          t.rd (GA_MISSED.N h) = min (2 ^ (GA_MISSED.N h).w - 1) (s.rd (GA_MISSED.N h) + 1) ∧ t.rd (GA_EVT.MISSED h) = 1 ∧
          (t.unit h).due = (s.unit h).due ∧ (t.unit h).jobs = (s.unit h).jobs)) ∧
    (s.freeSlices h = [] ∨ s.gaNext h = none → s.Completes (.gaugeJobStart h) fun t => t = s) ∧
    (∀ k ks d, s.freeSlices h = k :: ks → s.gaNext h = some d →
      s.Completes (.gaugeJobStart h) fun t => ∃ x : GJob,
        t.gjob h k = some x ∧ x.input = d.input ∧ x.phase = 0 ∧ x.started = s.now ∧ x.raws = [] ∧ x.diag = d.diag ∧
        x.restarts = d.restarts ∧ x.urgent = (d.rank == 0) ∧ (t.unit h).due = (s.unit h).due.erase d ∧
        ∀ m, m ≠ k → t.gjob h m = s.gjob h m) ∧
    (s.gjob h sl = none → ∀ c ∈ [Instr.gaugePhaseEnd h sl, .gaugeConversionDone h sl raw, .gaugeJobEnd h sl false,
        .gaugeJobEnd h sl true, .gaugeExcFault h sl, .gaugeDiagEnd h sl raw],
      s.Completes c fun t => t = s) ∧
    (∀ x, s.gjob h sl = some x →
      (x.phase = 0 → (x.excited = false ∨ s.pins.vexcOk = true) →
        s.Completes (.gaugePhaseEnd h sl) fun t =>
          t.gjob h sl = some { x with phase := 1 } ∧ t.now = (s.advance (x.started + usTf 5)).now) ∧
      (x.phase = 1 → (x.excited = false ∨ s.pins.vexcOk = true) →
        s.Completes (.gaugePhaseEnd h sl) fun t =>
          t.gjob h sl = some { x with phase := 2, sample := t.now } ∧
          t.now = (s.advance (x.started + usTf (5 + 10 * (if x.input < 16 then jobField x.cfgB (GA_IN_B.SETTLE 0 0) else 0)))).now) ∧
      (x.phase = 2 → s.Completes (.gaugePhaseEnd h sl) fun t => t = s) ∧
      (x.phase < 2 → x.excited = true → s.pins.vexcOk = false →
        s.Completes (.gaugePhaseEnd h sl) fun t => ∃ u : State, u = { s with time := u.time } ∧ t = u.gaFault h sl x) ∧
      (x.phase = 2 → x.diag = false → x.raws.length < x.convs →
        (s.Completes (.gaugeConversionDone h sl raw) fun t =>
          t.gjob h sl = some { x with raws := x.raws ++ [raw.toInt] } ∧
          t.rd (GA_CONV.N h) = min (2 ^ (GA_CONV.N h).w - 1) (s.rd (GA_CONV.N h) + 1) ∧
          t.now = (s.advance (x.sample + usTf (4 * (x.raws.length + 1)))).now) ∧
        ∀ compl, s.Completes (.gaugeJobEnd h sl compl) fun t => t = s) ∧
      (x.phase = 2 → x.diag = false → x.convs ≤ x.raws.length → (x.excited = false ∨ s.pins.vexcOk = true) →
        (s.Completes (.gaugeJobEnd h sl false) fun t => t = (s.gaReading h sl x false false).gaAfter h sl x) ∧
        (s.Completes (.gaugeJobEnd h sl true) fun t => t = s.gaJobEnd h sl x x.excited) ∧
        (s.Completes (.gaugeConversionDone h sl raw) fun t => t = s)) ∧
      (x.excited = true → s.Completes (.gaugeExcFault h sl) fun t => t = s.gaFault h sl x) ∧
      (x.excited = false → s.Completes (.gaugeExcFault h sl) fun t => t = s) ∧
      (x.phase = 2 → x.diag = true → s.on (GA_IN_STAT.OPEN h x.input) = true ∨
          10 * raw.toInt ≤ 9 * fullScale (jobField x.cfgA (GA_IN_A.RANGE 0 0)) → x.input < 28 →
        s.Completes (.gaugeDiagEnd h sl raw) fun t =>
          t.gjob h sl = none ∧
          t.rd (GA_IN_STAT.OPEN h x.input) = (if 9 * fullScale (jobField x.cfgA (GA_IN_A.RANGE 0 0)) < 10 * raw.toInt then 1 else 0)) ∧
      (x.phase = 2 → x.diag = true → s.on (GA_IN_STAT.OPEN h x.input) = false → x.input < 28 →
          9 * fullScale (jobField x.cfgA (GA_IN_A.RANGE 0 0)) < 10 * raw.toInt →
        s.Completes (.gaugeDiagEnd h sl raw) fun t => ∃ u : State,
          u.gjob h sl = none ∧ u.rd (GA_IN_STAT.OPEN h x.input) = 1 ∧
          u.rd (GA_OPENS.N h) = min (2 ^ (GA_OPENS.N h).w - 1) (s.rd (GA_OPENS.N h) + 1) ∧
          t = (u.inputNote h x.input (GA_EVT.OPEN h)).gcourse h (u.inputNote h x.input (GA_EVT.OPEN h)).now
            fun c => { c with opens := c.opens + 1 }))

/-- Urgent requests, slices and records (R403 to R409, R419, R463, R464, R512): a request starts its input at once on a
free slice, or marks the job that runs; a slice calibrates, changes place with the oldest, or fails at the second
failure; a full calibration is registered, and ends; the oldest ended course's record closes. -/
def Obligations.GaugeRequestsCalibrationsAndRecords : Prop :=
  ∀ (s : State) (h : Half) (j : GaugeInput),
    (∀ k x, (s.gjobs h).find? (fun x => x.2.input == j.val && !x.2.diag) = some (k, x) →
      (s.gaUrgent h j).gjob h k = some { x with urgent := true } ∧ ((s.gaUrgent h j).unit h).due = (s.unit h).due) ∧
    (∀ k ks, (s.gjobs h).find? (fun x => x.2.input == j.val && !x.2.diag) = none → s.gaHeldBy h j false = none →
      s.freeSlices h = k :: ks → ∃ x : GJob,
        (s.gaUrgent h j).gjob h k = some x ∧ x.input = j.val ∧ x.urgent = true ∧ x.started = s.now ∧ x.phase = 0) ∧
    (∀ data : U32, s.Reaches .mcN (Addr.GA_URGENT h) → data.toNat % 32 = j.val →
      (bitAt data.toNat 31 = true → s.on (GA_STAT.ACTIVE h) = true → (s.ginput h j).admitted = true →
        s.Completes (.gaUrgentGo .mcN h data) fun t => t = s.gaUrgent h j) ∧
      (bitAt data.toNat 31 = false → s.Completes (.gaUrgentGo .mcN h data) fun t => t = s)) ∧
    (∀ data : U32, s.Reaches .ridge (Addr.GA_URGENT h) → bitAt data.toNat 31 = true →
      s.Completes (.gaUrgentGo .ridge h data) fun t => t = s.accErr .ridge (Addr.GA_URGENT h) .denied true) ∧
    (∀ r g, s.TakesDir 0x0C r g → r.args = [] → r.data.toNat = h.val + j.val * 256 →
      (s.on (GA_STAT.ACTIVE h) = false →
        s.Completes (.gaugeUrgent r) fun t => t = (s.taken r g).dirWrong (carried r 0x0C g) (Addr.GA_STAT h)) ∧
      (s.on (GA_STAT.ACTIVE h) = true → (s.ginput h j).admitted = false →
        s.Completes (.gaugeUrgent r) fun t => t = (s.taken r g).dirWrong (carried r 0x0C g) (Addr.GA_IN_A h j)) ∧
      (s.on (GA_STAT.ACTIVE h) = true → (s.ginput h j).admitted = true →
        s.Completes (.gaugeUrgent r) fun t => t = ((s.taken r g).gaUrgent h j).dirDone (carried r 0x0C g) 0)) ∧
    (∀ second n, n = (if second = true then 17 else 16) →
      s.Completes (.gaugeTwarnCross h second) fun t =>
        t = if s.on (GA_STAT.ACTIVE h) = true ∧ (s.ginput h n).admitted = true then s.gaUrgent h n else s) ∧
    (∀ i ppm, i = s.rd (GA_STAT.CAL_SLICE h) → i < 5 → s.fullCal h = false →
      (s.Completes (.sliceCalDone h true ppm) fun t =>
        Tab.get 0 (t.unit h).calAt i = s.now ∧ (t.unit h).calDone = true ∧ (t.unit h).calRetry = false ∧
        t.rd (GA_CALS.N h) = min (2 ^ (GA_CALS.N h).w - 1) (s.rd (GA_CALS.N h) + 1)) ∧
      ((s.unit h).calRetry = false →
        s.Completes (.sliceCalDone h false ppm) fun t => (t.unit h).calRetry = true ∧ t.regs = s.regs) ∧
      ((s.unit h).calRetry = true → s.Completes (.sliceCalDone h false ppm) fun t => t = s.sliceFault h i)) ∧
    (5 ≤ s.rd (GA_STAT.CAL_SLICE h) ∨ s.fullCal h = true → ∀ ok ppm, s.Completes (.sliceCalDone h ok ppm) fun t => t = s) ∧
    (s.converting h = [] ∨ (s.unit h).calDone = false → s.Completes (.sliceRotation h) fun t => t = s) ∧
    (s.converting h ≠ [] → (s.unit h).calDone = true → (∀ i ∈ s.converting h, s.gjob h i = none) →
      s.Completes (.sliceRotation h) fun t =>
        ∃ o ∈ s.converting h, t.rd (GA_STAT.CAL_SLICE h) = o ∧ (t.unit h).calDone = false ∧
          ∀ i ∈ s.converting h, Tab.get 0 (s.unit h).calAt o ≤ Tab.get 0 (s.unit h).calAt i) ∧
    (∀ data : U32, s.Reaches .mcN (Addr.GA_FULLCAL h) →
      (bitAt data.toNat 0 = true → s.Completes (.gaFullcalStart .mcN h data) fun t => t = (s.startFullCal h).2) ∧
      (bitAt data.toNat 0 = false → s.Completes (.gaFullcalStart .mcN h data) fun t => t = s)) ∧
    (∀ r g, s.TakesDir 0x0B r g → r.args = [] →
      (r.data.toNat = h.val →
        s.Completes (.gaugeCal r) fun t => t = State.dirGrant (carried r 0x0B g) ((s.taken r g).startFullCal h)) ∧
      (2 ≤ r.data.toNat → s.Completes (.gaugeCal r) fun t => t = (s.taken r g).dirBad (carried r 0x0B g))) ∧
    (s.on (GA_STAT.ACTIVE h) = false → (s.startFullCal h).1 = .refused 0xE0 h ∧ (s.startFullCal h).2.rd MT_EVT.REFUSED = 1) ∧
    (∀ u : UnitCal, u.unit = h →
      ((s.unit h).fullCal = none → s.Completes (.gaugeFullcalDone u) fun t => t = s) ∧
      (∀ k, (s.unit h).fullCal = some k → s.mg.acts = [] →
        s.Completes (.gaugeFullcalDone u) fun t =>
          (t.unit h).fullCal = none ∧ t.rd (GA_STAT.MAINT h) = 0 ∧ t.rd (GA_EVT.CAL_DONE h) = 1 ∧ t.th = s.th) ∧
      (∀ k, (s.unit h).fullCal = some k →
        s.Completes (.gaugeFullcalDone u) fun t => ∃ v : State,
          (v.unit h).fullCal = none ∧ v.rd (GA_STAT.MAINT h) = 0 ∧ v.rd (GA_EVT.CAL_DONE h) = 1 ∧
          (t = v ∨ ∃ a, v.act (k - 1) = some a ∧ t = v.endAct a h (Addr.GA_EVT h) (GA_EVT.CAL_DONE h).lo [] 0))) ∧
    ((s.unit h).courses = [] → s.Completes (.gaugeRecordClose h) fun t => t = s) ∧
    (∀ c, (s.unit h).courses = [c] →
      (c.final = false → s.Completes (.gaugeRecordClose h) fun t => t = s) ∧
      (c.final = true → (s.unit h).jobs = [] → c.wanted = false →
        s.Completes (.gaugeRecordClose h) fun t =>
          (t.unit h).courses = [] ∧ (t.unit h).skipped = (s.unit h).skipped + 1 ∧ t.regs = s.regs) ∧
      (c.final = true → (s.unit h).jobs = [] → c.wanted = true → s.writerRefuses (612 + h) (s.eff (GA_Q.N h)) = false →
        s.Completes (.gaugeRecordClose h) fun t => t = s.closeGauge h)) ∧
    (∀ c d cs, (s.unit h).courses = c :: d :: cs → (s.unit h).jobs = [] →
      (c.wanted = false ∨ s.writerRefuses (612 + h) (s.eff (GA_Q.N h)) = false) →
      s.Completes (.gaugeRecordClose h) fun t => t = s.closeGauge h)

/-! ## Checks, admission and profiles -/

/-- The consistency check at run time (R451 to R453): the check that waits longest is done; one refused leaves the bit
and records the refusal, one passed sets the bit, and the change of a unit with courses waits for its boundary in RUN. A
write of PROF_CTRL or TRG_CTRL changes no enable bit and queues a check for each that it would change (entry 70). ADMIT
and RETIRE (R464): a run of consecutive units of one kind is checked as one group, which the completion answers; a
malformed run completes BAD_REQUEST, and the first unit refused refuses the whole. -/
def Obligations.ChecksAndUnitGroupsDecideEnables : Prop :=
  (∀ s : State,
     (s.boot.checks = [] ∨ s.inWarm = true → s.Completes .consistencyCheckDone fun t => t = s) ∧
     (∀ k rest u, s.inWarm = false → s.boot.checks = k :: rest → k.answer = none →
       u = { s with boot := { s.boot with checks := rest } } →
       (∀ b, u.decideUnit k.kind k.index k.enable = some b →
         s.Completes .consistencyCheckDone fun t => t = u.refuse b.kind b.index b.reason b.detail) ∧
       (∀ f, u.decideUnit k.kind k.index k.enable = none → enableField k.kind k.index = some f →
         k.kind ∈ [2, 3, 4, 5, 9, 10] →
         s.Completes .consistencyCheckDone fun t =>
           t.rd f = b2n k.enable ∧ t.boot.checks = rest ∧ (∀ a, a ≠ f.addr → t.reg a = s.reg a) ∧
           (s.running = false → t.boot.changes = s.boot.changes) ∧
           (s.running = true → (∀ c ∈ s.boot.changes, c.kind = k.kind → c.index = k.index → c.enable = k.enable) →
             t.boot.changes = s.boot.changes ++ [⟨k.kind, k.index, k.enable⟩]))) ∧
     (∀ (p : Path) (data : U32), s.Reaches p Addr.PROF_CTRL → s.boot.checks = [] →
       s.Completes (.profEnWrite p data) fun t =>
         t.regs = s.regs ∧ t.boot.checks =
           ((List.range 4).filter fun i => bitAt data.toNat i != bitAt (s.rd PROF_CTRL.EN) i).map fun i =>
             { kind := 12, index := i, enable := bitAt data.toNat i }) ∧
     (∀ (p : Path) (data : U32), s.Reaches p Addr.TRG_CTRL → s.boot.checks = [] →
       s.Completes (.trgSrcEnWrite p data) fun t =>
         t.rd TRG_CTRL.SRC_EN = s.rd TRG_CTRL.SRC_EN ∧ (∀ a, a ≠ Addr.TRG_CTRL → t.reg a = s.reg a) ∧
         t.boot.checks =
           ((List.range 5).filter fun i => bitAt data.toNat i != bitAt (s.rd TRG_CTRL.SRC_EN) i).map fun i =>
             { kind := 11, index := i, enable := bitAt data.toNat i })) ∧
  (∀ s : State,
     (∀ (r : DirReq) (g : Nat) (on : Bool) (code : Nat) (c : Instr),
       (on = true ∧ code = 0x04 ∧ c = .admitUnit r) ∨ (on = false ∧ code = 0x05 ∧ c = .retire r) → s.TakesDir code r g →
       (r.args.length ≠ 1 → s.Completes c fun t => t = (s.taken r g).dirBad (carried r code g)) ∧
       (∀ w kind first n, r.args = [w] → kind = r.data.toNat / 2 ^ 24 → first = r.data.toNat % 2 ^ 24 → n = wfield w 0 16 →
         (wfield w 16 112 = 0 → 1 ≤ n → n ≤ 512 → kind ≠ 0 → (∀ i, i < n → (enableField kind (first + i)).isSome = true) →
           s.Completes c fun t =>
             t.regs = (s.taken r g).regs ∧
             t.boot.checks = s.boot.checks ++
               [{ kind := kind, index := first, enable := on, answer := some (.lanes g, r.tag.toNat), count := n }]) ∧
         (wfield w 16 112 ≠ 0 ∨ n = 0 ∨ 512 < n ∨ kind = 0 ∨ (∃ i, i < n ∧ enableField kind (first + i) = none) →
           s.Completes c fun t => t = (s.taken r g).dirBad (carried r code g)))) ∧
     (∀ k rest dst tag u, s.inWarm = false → s.boot.checks = k :: rest → k.answer = some (dst, tag) →
       u = { s with boot := { s.boot with checks := rest } } →
       ((∀ i f, i < k.count → enableField k.kind (k.index + i) = some f → s.rd f = b2n k.enable) →
         s.Completes .consistencyCheckDone fun t =>
           t = u.respond dst tag .done (if s.running = true then u.courseAfter else 0) 0) ∧
       (∀ i f b, i < k.count → enableField k.kind (k.index + i) = some f → s.rd f ≠ b2n k.enable →
         u.decideUnit k.kind (k.index + i) k.enable = some b →
         (∀ j e, j < i → enableField k.kind (k.index + j) = some e → s.rd e = b2n k.enable) →
         s.Completes .consistencyCheckDone fun t =>
           t = (u.refuse b.kind b.index b.reason b.detail).respond dst tag .refused (unitId b.kind b.index)
             (b.reason % 256 + b.detail % 2 ^ 16 * 256)) ∧
       (∀ f, k.count = 1 → enableField k.kind k.index = some f → s.rd f ≠ b2n k.enable →
         u.decideUnit k.kind k.index k.enable = none →
         s.Completes .consistencyCheckDone fun t => ∃ v : State,
           v = u.passUnit k.kind k.index k.enable ∧
           t = v.respond dst tag .done (if v.running = true then v.courseAfter else 0) 0)))

/-- Requests for a profile (R460 to R464): the PROFILE directive and a schedule entry that falls due ask for it; a
profile not enabled is refused, the one in force changes nothing, and another is pending from 1 µs on. -/
def Obligations.ProfileSwitchesAreRequested : Prop :=
  ∀ s : State,
    (∀ r g, s.TakesDir 0x01 r g →
      (2 ≤ r.args.length ∨ bits r.data.toNat 2 29 ≠ 0 ∨ bitAt r.data.toNat 31 ≠ (r.args.length == 1) →
        s.Completes (.profile r) fun t => t = (s.taken r g).dirBad (carried r 0x01 g)) ∧
      (r.args = [] → r.data.toNat < 4 →
        (s.running = false →
          s.Completes (.profile r) fun t => t = (s.taken r g).dirWrong (carried r 0x01 g) Addr.GLOBAL_CTRL) ∧
        (s.running = true → (s.unitOn 12 r.data.toNat = false ∨ (s.prof r.data.toNat).present = false) →
          s.Completes (.profile r) fun t =>
            t = (s.taken r g).dirRefused (carried r 0x01 g) 12 r.data.toNat 0xA3 r.data.toNat) ∧
        (s.running = true → (s.taken r g).profileBad r.data.toNat = none → s.boot.pendProf = none →
          r.data.toNat = s.rd PROF_STAT.CUR →
          s.Completes (.profile r) fun t => t = (s.taken r g).dirDone (carried r 0x01 g) 0) ∧
        (s.running = true → (s.taken r g).profileBad r.data.toNat = none → s.boot.pendProf = none →
          r.data.toNat ≠ s.rd PROF_STAT.CUR →
          s.Completes (.profile r) fun t => ∃ u : State,
            u.boot.pendProf = some (r.data.toNat, s.now + usTf 1) ∧ u.rd PROF_STAT.PEND = r.data.toNat ∧
            u.rd PROF_STAT.SWITCH_PEND = 1 ∧ u.rd PROF_STAT.CUR = s.rd PROF_STAT.CUR ∧
            t = u.dirDone (carried r 0x01 g) u.switchCourse))) ∧
    (∀ (i : Fin 8) (p secs sec : Nat),
      p = bits (s.boot.sched.getD i.val 0).toNat 0 2 → secs = bits (s.boot.sched.getD i.val 0).toNat 4 28 →
      sec = s.rd CAL_SEC.SEC →
      (s.running = false ∨ s.inWarm = true ∨ schedKind (s.boot.sched.getD i.val 0) = 0 ∨
          schedKind (s.boot.sched.getD i.val 0) = 3 →
        s.Completes (.profileSchedule i) fun t => t = s) ∧
      (schedKind (s.boot.sched.getD i.val 0) = 1 → (s.on LG_CAL.VALID = false ∨ sec % 86400 ≠ secs) →
        s.Completes (.profileSchedule i) fun t => t = s) ∧
      (schedKind (s.boot.sched.getD i.val 0) = 2 → Tab.get 0 s.boot.schedDone i.val ≠ 0 →
        s.Completes (.profileSchedule i) fun t => t = s) ∧
      (s.running = true → s.inWarm = false → s.unitOn 12 p = false →
        ((schedKind (s.boot.sched.getD i.val 0) = 1 ∧ s.on LG_CAL.VALID = true ∧ sec % 86400 = secs ∧
            Tab.get 0 s.boot.schedDone i.val ≠ sec + 1) ∨
          (schedKind (s.boot.sched.getD i.val 0) = 2 ∧ Tab.get 0 s.boot.schedDone i.val = 0)) →
        s.Completes (.profileSchedule i) fun t => ∃ u : State,
          u.regs = s.regs ∧ Tab.get 0 u.boot.schedDone i.val ≠ 0 ∧ t = u.refuse 12 p 0xA3 p) ∧
      (s.running = true → s.inWarm = false → s.boot.pendProf = none → p ≠ s.rd PROF_STAT.CUR →
        schedKind (s.boot.sched.getD i.val 0) = 1 → s.on LG_CAL.VALID = true → sec % 86400 = secs →
        Tab.get 0 s.boot.schedDone i.val ≠ sec + 1 →
        ∀ u, u = { s with boot := { s.boot with schedDone := Tab.set 0 s.boot.schedDone i.val (sec + 1) } } →
        u.profileBad p = none →
        s.Completes (.profileSchedule i) fun t =>
          t.boot.pendProf = some (p, s.now + usTf 1) ∧ t.rd PROF_STAT.PEND = p ∧ t.rd PROF_STAT.SWITCH_PEND = 1 ∧
          Tab.get 0 t.boot.schedDone i.val = sec + 1))

/-! ## Image relay and ledger -/

/-- RELAY_OPEN (R464, R466, R499): an image no newer than the copy in force is refused, a power-fail warning makes it
wait; one that is taken holds the copy's memory, clears its sequence and VERIFIED, and erases its first sector. The
pages of a relay (R464, R466, R467): the first erase ends; a page out of order, beyond the image, or without a relay is
refused; page 0 is held; the first page of another sector erases that sector, and no other byte; a page whose read-back
is good changes the bytes given and no other. -/
def Obligations.RelaysOpenAndTakePages : Prop :=
  (∀ (s : State) (r : DirReq) (g : Nat), s.TakesDir 0x15 r g →
     (r.args.length ≠ 1 → s.Completes (.relayOpen r) fun t => t = (s.taken r g).dirBad (carried r 0x15 g)) ∧
     (∀ w, r.args = [w] →
       (wfield w 32 96 ≠ 0 → s.Completes (.relayOpen r) fun t => t = (s.taken r g).dirBad (carried r 0x15 g)) ∧
       (wfield w 32 96 = 0 → s.on LG_STAT.PFAIL_HOLD = true →
         s.Completes (.relayOpen r) fun t => t = (s.taken r g).respondBusy (.lanes g) r.tag.toNat) ∧
       (wfield w 32 96 = 0 → s.on LG_STAT.PFAIL_HOLD = false → r.data.toNat ≤ s.seqInForce →
         s.Completes (.relayOpen r) fun t =>
           t = (s.taken r g).dirRefused (carried r 0x15 g) 0x0D 0x15 0xE5 (s.seqInForce % 2 ^ 16)) ∧
       (wfield w 32 96 = 0 → s.on LG_STAT.PFAIL_HOLD = false → s.seqInForce < r.data.toNat →
           (wfield w 0 32 % 16 ≠ 0 ∨ 0x800000 < wfield w 0 32) →
         s.Completes (.relayOpen r) fun t => t = (s.taken r g).dirBad (carried r 0x15 g)) ∧
       (wfield w 32 96 = 0 → s.on LG_STAT.PFAIL_HOLD = false → s.seqInForce < r.data.toNat →
           wfield w 0 32 % 16 = 0 → wfield w 0 32 ≤ 0x800000 →
         (∀ a, s.holder [(9, b2n s.relayCopy, b2n s.relayCopy)] = some a →
           s.Completes (.relayOpen r) fun t => ∃ u : State,
             u.rd MT_EVT.REFUSED = 1 ∧ u.boot = s.boot ∧ u.mg = s.mg ∧
             t = u.dirRefused (carried r 0x15 g) 0x0D 0x15 0xE1 a.id) ∧
         (s.mg.acts = [] →
           s.Completes (.relayOpen r) fun t =>
             (∃ x a, t.boot.relay = some x ∧ x.copyB = s.relayCopy ∧ x.seq = r.data.toNat ∧ x.length = wfield w 0 32 ∧
               x.page = some (0, []) ∧ x.next = 0 ∧ t.mg.acts = [a] ∧ a.id = x.id ∧ a.code = 3 ∧
               a.res = [(9, b2n s.relayCopy, b2n s.relayCopy)]) ∧
             t.rd RELAY_STAT.OPEN = 1 ∧ t.rd RELAY_STAT.BUSY = 1 ∧ t.rd RELAY_STAT.VERIFIED = 0 ∧
             t.rd (if s.relayCopy = true then IMG_B.SEQ else IMG_A.SEQ) = 0 ∧
             (∀ i, i < 4096 → Tab.get 0xFF (t.imgMem s.relayCopy) i = 0xFF) ∧
             (∀ i, 4096 ≤ i → Tab.get 0xFF (t.imgMem s.relayCopy) i = Tab.get 0xFF (s.imgMem s.relayCopy) i) ∧
             t.imgMem (!s.relayCopy) = s.imgMem (!s.relayCopy))))) ∧
  (∀ s : State,
     (∀ x, s.boot.relay = some x → x.page = some (0, []) →
       s.Completes .relayEraseDone fun t =>
         t.boot.relay = some { x with page := none } ∧ t.rd RELAY_STAT.BUSY = 0 ∧ s.SameNvm t) ∧
     ((∀ x, s.boot.relay = some x → x.page ≠ some (0, [])) → s.Completes .relayEraseDone fun t => t = s) ∧
     (∀ (r : DirReq) (g n : Nat), s.TakesDir 0x16 r g → n = r.data.toNat →
       (r.args = [] ∨ 16 < r.args.length → s.Completes (.relayWrite r) fun t => t = (s.taken r g).dirBad (carried r 0x16 g)) ∧
       (r.args ≠ [] → r.args.length ≤ 16 → s.relayBusy = true →
         s.Completes (.relayWrite r) fun t => t = (s.taken r g).respondBusy (.lanes g) r.tag.toNat) ∧
       (r.args ≠ [] → r.args.length ≤ 16 → s.relayBusy = false → s.boot.relay = none →
         s.Completes (.relayWrite r) fun t =>
           t = (s.taken r g).dirRefused (carried r 0x16 g) 0x0D 0x16 0xE3 (n % 2 ^ 16)) ∧
       (∀ x, r.args ≠ [] → r.args.length ≤ 16 → s.relayBusy = false → s.boot.relay = some x →
         (n < x.next ∨ x.length ≤ 256 * n ∨ x.length < 256 * n + 16 * r.args.length →
           s.Completes (.relayWrite r) fun t => ∃ u : State,
             u.boot.relay = some { x with lastAt := s.now } ∧ s.SameNvm u ∧
             t = u.dirRefused (carried r 0x16 g) 0x0D 0x16 0xE3 (n % 2 ^ 16)) ∧
         (x.next = 0 → n = 0 → 16 * r.args.length ≤ x.length →
           s.Completes (.relayWrite r) fun t =>
             t.boot.relay = some { x with page0 := r.args.flatMap wordBytes, next := 1, lastAt := s.now, pages := x.pages + 1 } ∧
             s.SameNvm t) ∧
         (x.next ≤ n → n ≠ 0 → 256 * n + 16 * r.args.length ≤ x.length →
           s.Completes (.relayWrite r) fun t =>
             t.boot.relay = some { x with
               page := some (n, r.args.flatMap wordBytes), answer := some (.lanes g, r.tag.toNat), lastAt := s.now } ∧
             t.imgMem (!x.copyB) = s.imgMem (!x.copyB) ∧
             (16 ≤ n → x.next = 0 ∨ (x.next - 1) / 16 ≠ n / 16 →
               (∀ i, i / 4096 = n / 16 → Tab.get 0xFF (t.imgMem x.copyB) i = 0xFF) ∧
               ∀ i, i / 4096 ≠ n / 16 → Tab.get 0xFF (t.imgMem x.copyB) i = Tab.get 0xFF (s.imgMem x.copyB) i) ∧
             (n < 16 ∨ (x.next ≠ 0 ∧ (x.next - 1) / 16 = n / 16) → s.SameNvm t)))) ∧
     (∀ ok, ((∀ x, s.boot.relay = some x → x.page = none ∨ x.answer = none ∨ x.closing = true) →
       s.Completes (.relayPageDone ok) fun t => t = s)) ∧
     (∀ x n bytes dst tag, s.boot.relay = some x → x.page = some (n, bytes) → x.answer = some (dst, tag) → x.closing = false →
       (s.Completes (.relayPageDone true) fun t => ∃ u : State,
         u.boot.relay = some { x with page := none, answer := none, next := n + 1, pages := x.pages + 1 } ∧
         u.rd RELAY_STAT.BUSY = 0 ∧ u.imgMem (!x.copyB) = s.imgMem (!x.copyB) ∧
         (∀ i (h : i < bytes.length), Tab.get 0xFF (u.imgMem x.copyB) (256 * n + i) = BitVec.ofNat 8 bytes[i]) ∧
         (∀ i, i < 256 * n ∨ 256 * n + bytes.length ≤ i →
           Tab.get 0xFF (u.imgMem x.copyB) i = Tab.get 0xFF (s.imgMem x.copyB) i) ∧
         t = u.respond dst tag .done 0 0) ∧
       (s.Completes (.relayPageDone false) fun t => ∃ u : State,
         u.boot.relay = some { x with page := none, answer := none } ∧ u.rd RELAY_STAT.BUSY = 0 ∧
         (∀ i, i < 256 * n ∨ 256 * n + bytes.length ≤ i →
           Tab.get 0xFF (u.imgMem x.copyB) i = Tab.get 0xFF (s.imgMem x.copyB) i) ∧
         t = u.dirRefused ⟨0x16, dst, tag, n, []⟩ 0x0D 0x16 0xE3 (n % 2 ^ 16))))

/-- The end of a relay (R449, R464, R468, R469): a close whose check fails is refused and ends it, one that passes
writes the held page 0 and, once that is done, marks the copy verified; a cancel and 10 s of silence end it without page
0. -/
def Obligations.RelaysCloseOrEnd : Prop :=
  ∀ s : State,
    (∀ (r : DirReq) (g : Nat), s.TakesDir 0x17 r g →
      (r.args ≠ [] ∨ r.data ≠ 0 → s.Completes (.relayClose r) fun t => t = (s.taken r g).dirBad (carried r 0x17 g)) ∧
      (r.args = [] → r.data = 0 →
        (s.relayBusy = true →
          s.Completes (.relayClose r) fun t => t = (s.taken r g).respondBusy (.lanes g) r.tag.toNat) ∧
        (s.relayBusy = false → s.boot.relay = none →
          s.Completes (.relayClose r) fun t => t = (s.taken r g).dirRefused (carried r 0x17 g) 0x0D 0x17 0xE3 0) ∧
        (∀ x, s.relayBusy = false → s.boot.relay = some x →
          (∀ e, (s.taken r g).closeCheck x = .error e →
            s.Completes (.relayClose r) fun t => ∃ u : State,
              u.rd RELAY_STAT.FAILED = 1 ∧ s.SameNvm u ∧
              t = (u.dirRefused (carried r 0x17 g) 0x0D 0x17 0xE4 (e.1 % 256 + e.2 % 256 * 256)).endRelay 2 0) ∧
          ((s.taken r g).closeCheck x = .ok () →
            s.Completes (.relayClose r) fun t =>
              t.boot.relay = some { x with
                page := some (0, x.page0), closing := true, answer := some (.lanes g, r.tag.toNat), lastAt := s.now } ∧
              s.SameNvm t)))) ∧
    (∀ ok, ((∀ x, s.boot.relay = some x → x.closing = false ∨ x.answer = none) →
      s.Completes (.relayVerified ok) fun t => t = s)) ∧
    (∀ x dst tag, s.boot.relay = some x → x.closing = true → x.answer = some (dst, tag) →
      (s.Completes (.relayVerified false) fun t => ∃ u : State,
        u.boot.relay = some { x with answer := none, pages := x.pages + 1 } ∧ s.SameNvm u ∧
        t = u.closeFailed ⟨0x17, dst, tag, 0, []⟩ (1, 0)) ∧
      (s.Completes (.relayVerified true) fun t => ∃ u : State,
        u.rd RELAY_STAT.VERIFIED = 1 ∧ u.imgMem (!x.copyB) = s.imgMem (!x.copyB) ∧
        u.rd (if x.copyB = true then IMG_B.SEQ else IMG_A.SEQ) = x.seq % 2 ^ 32 ∧
        (∀ i (h : i < x.page0.length), Tab.get 0xFF (u.imgMem x.copyB) i = BitVec.ofNat 8 x.page0[i]) ∧
        (∀ i, x.page0.length ≤ i → Tab.get 0xFF (u.imgMem x.copyB) i = Tab.get 0xFF (s.imgMem x.copyB) i) ∧
        t = if s.rescue = true then ((u.respond dst tag .done 0 0).endRelay 0 0).leaveRescue
          else (u.respond dst tag .done 0 0).endRelay 0 0)) ∧
    (∀ (r : DirReq) (g : Nat), s.TakesDir 0x18 r g →
      (r.args ≠ [] ∨ r.data ≠ 0 → s.Completes (.relayCancel r) fun t => t = (s.taken r g).dirBad (carried r 0x18 g)) ∧
      (r.args = [] → r.data = 0 → s.boot.relay = none →
        s.Completes (.relayCancel r) fun t => t = (s.taken r g).dirRefused (carried r 0x18 g) 0x0D 0x18 0xE3 0) ∧
      (∀ x, r.args = [] → r.data = 0 → s.boot.relay = some x →
        s.Completes (.relayCancel r) fun t =>
          t = ((s.taken r g).endRelay 1 1000).dirDone (carried r 0x18 g) 0 ∧
          (s.mg.acts = [] → t.boot.relay = none ∧ t.rd RELAY_STAT.OPEN = 0 ∧ s.SameNvm t))) ∧
    ((∀ x, s.boot.relay = some x → x.page ≠ none) → s.Completes .relayIdleTimeout fun t => t = s) ∧
    (∀ x, s.boot.relay = some x → x.page = none →
      s.Completes .relayIdleTimeout fun t =>
        t = (s.advance (x.lastAt + 10 * usTf 1000000)).endRelay 1 1000 ∧
        (s.mg.acts = [] → t.boot.relay = none ∧ t.rd RELAY_STAT.OPEN = 0 ∧ s.SameNvm t))

/-- The ledger (R484, R487 to R491, R495, R499): a commit asks for a DELTA, and a baseline once the head has advanced
far enough; a record is written whole at the head, which moves past it; a warning holds records back and a lap too soon
stretches; a compaction holds the ledger and asks for a baseline. -/
def Obligations.LedgerRecordsAreCommitted : Prop :=
  ∀ s : State,
    (s.running = false → s.Completes .ledgerCommit fun t => t = s) ∧
    (s.running = true → (s.mg.writing.isSome = true ∨ s.on LG_STAT.PFAIL_HOLD = true) →
      s.Completes .ledgerCommit fun t =>
        t.mg.events = [] ∧ t.mg.commitAt = t.now ∧ t.regs = s.regs ∧ t.mg.tally = s.mg.tally ∧
        t.now = (s.advance (s.mg.commitAt + s.commitEvery * usTf 1000000)).now ∧
        (s.mg.waiting = [] → s.mg.sinceBase < 2046 → t.mg.waiting = [⟨1, false, 0, []⟩]) ∧
        (s.mg.waiting = [] → 2046 ≤ s.mg.sinceBase → t.mg.waiting = [⟨1, false, 0, []⟩, ⟨2, false, 0, []⟩])) ∧
    (s.mg.writing = none → (s.mg.waiting = [] ∨ s.on LG_STAT.PFAIL_HOLD = true) →
      s.Completes .ledgerRecordWritten fun t => t = s) ∧
    (∀ r rest, s.mg.writing = none → s.on LG_STAT.PFAIL_HOLD = false → s.mg.waiting = r :: rest → r.kind = 3 →
      s.beginsLap (r.body.length + 1) = true → s.tallyOf 0x0740 ≠ 0 → s.now < s.mg.lapAt + 4800 * usTf 1000000 →
      s.Completes .ledgerRecordWritten fun t => t = s.flag LG_STAT.STRETCHED ∧ t.rd LG_STAT.STRETCHED = 1) ∧
    (∀ r h, s.mg.writing = some r → s.mg.waiting = [] → r.kind ≠ 2 → r.body.length ≤ 63 → h = max 20 (s.rd LG_HEAD.LINE) →
      s.Completes .ledgerRecordWritten fun t =>
        t.mg.writing = none ∧ t.rd LG_STAT.WRITING = 0 ∧
        t.rd LG_HEAD.LINE = logLine h (r.body.length + 1) ∧ t.rd LG_LSEQ.N = (s.rd LG_LSEQ.N + 1) % 2 ^ 32 ∧
        t.rd LG_COMMITS.N = min (2 ^ LG_COMMITS.N.w - 1) (s.rd LG_COMMITS.N + 1) ∧
        t.mg.sinceBase = s.mg.sinceBase + r.body.length + 1 ∧
        t.tallyOf 0x0740 = (if s.beginsLap (r.body.length + 1) = true then min (2 ^ 48 - 1) (s.tallyOf 0x0740 + 1)
          else s.tallyOf 0x0740) ∧
        (∀ i, (r.lines (s.rd LG_LSEQ.N) (s.tallyOf 0 % 2 ^ 32))[i]? = none ∨
          (r.lines (s.rd LG_LSEQ.N) (s.tallyOf 0 % 2 ^ 32))[i]? = some (t.ledgerLine (logLine h i))) ∧
        (∀ n, (∀ i, i ≤ r.body.length → n ≠ logLine h i) → t.ledgerLine n = s.ledgerLine n)) ∧
    (∀ (r : DirReq) (g : Nat), s.TakesDir 0x0F r g →
      (r.args ≠ [] ∨ r.data ≠ 0 → s.Completes (.ledgerCompact r) fun t => t = (s.taken r g).dirBad (carried r 0x0F g)) ∧
      (∀ a, r.args = [] → r.data = 0 → s.holder [(10, 0, 0)] = some a →
        s.Completes (.ledgerCompact r) fun t => ∃ u : State,
          u.rd MT_EVT.REFUSED = 1 ∧ u.mg = s.mg ∧ t = u.dirRefused (carried r 0x0F g) 0x0D 0x0F 0xE1 a.id) ∧
      (r.args = [] → r.data = 0 → s.mg.acts = [] → s.mg.writing.isSome = true → s.mg.waiting = [] →
        s.Completes (.ledgerCompact r) fun t => ∃ (u : State) (a : Activity),
          u.mg.acts = [a] ∧ a.code = 8 ∧ a.res = [(10, 0, 0)] ∧ u.mg.waiting = [⟨2, false, 0, []⟩] ∧
          t = u.dirDone (carried r 0x0F g) a.id))

/-! ## Upkeep -/

/-- Dumps (R464, R498, R504, R505): the directive registers one, unless another activity holds the loft; once it stands
in the loft it is held there under its number, a fatal one being followed by its recovery. Aborts, retrains and the
schedule (R464, R495 to R498, R548): an abort ends the activity it names, which need be registered; a retrain acts on a
unit of its kinds that is not down, and ends by its limit; a scheduled start is refused, tried again or skipped, or
planned for its next period. -/
def Obligations.DumpsAbortsRetrainsAndSchedule : Prop :=
  (∀ s : State,
     (∀ (r : DirReq) (g : Nat), s.TakesDir 0x10 r g →
       (r.args ≠ [] ∨ r.data ≠ 0 → s.Completes (.dump r) fun t => t = (s.taken r g).dirBad (carried r 0x10 g)) ∧
       (∀ a, r.args = [] → r.data = 0 → s.holder [(8, 0, 0)] = some a →
         s.Completes (.dump r) fun t => ∃ u : State,
           u.rd MT_EVT.REFUSED = 1 ∧ u.mg = s.mg ∧ t = u.dirRefused (carried r 0x10 g) 0x0D 0x10 0xE1 a.id) ∧
       (r.args = [] → r.data = 0 → s.mg.acts = [] →
         s.Completes (.dump r) fun t => ∃ (u : State) (d : DumpSt) (a : Activity),
           u.mg.dump = some d ∧ d.fatal = false ∧ d.id = a.id ∧ d.at_ = s.now ∧ d.course = s.course ∧ d.epoch = s.epoch ∧
           u.mg.acts = [a] ∧ a.code = 1 ∧ a.res = [(8, 0, 0)] ∧ u.rd MG_DUMP_STAT.BUSY = 1 ∧
           t = u.dirDone (carried r 0x10 g) a.id)) ∧
     (s.mg.dump = none → s.Completes .dumpDone fun t => t = s) ∧
     (∀ d, s.mg.dump = some d →
       s.Completes .dumpDone fun t => ∃ u : State,
         u.mg.dump = none ∧ u.rd MG_DUMP_STAT.BUSY = 0 ∧ u.rd MG_DUMP_STAT.HELD = 1 ∧
         u.rd MG_DUMP_STAT.NO = min (2 ^ 48 - 1) (s.tallyOf 0x0708 + 1) % 2 ^ 16 ∧
         (d.fatal = false → t = u.settle) ∧
         (d.fatal = true → u.mg.fatal = none → t = u.resumeHalted d.halted) ∧
         (∀ f, d.fatal = true → u.mg.fatal = some f → t = u.recover f d.halted))) ∧
  (∀ s : State,
     (∀ (r : DirReq) (g : Nat), s.TakesDir 0x11 r g →
       (r.args ≠ [] → s.Completes (.maintAbort r) fun t => t = (s.taken r g).dirBad (carried r 0x11 g)) ∧
       (r.args = [] → s.act r.data.toNat = none →
         s.Completes (.maintAbort r) fun t =>
           t = (s.taken r g).dirRefused (carried r 0x11 g) 0x0D 0x11 0xE0 (r.data.toNat % 2 ^ 16)) ∧
       (∀ a, r.args = [] → s.act r.data.toNat = some a →
         (s.Completes (.maintAbort r) fun t =>
           t = ((s.taken r g).abortAct a .directive).dirDone (carried r 0x11 g) r.data.toNat) ∧
         (a.code = 8 → s.Completes (.maintAbort r) fun t => ∃ u : State,
           u.rd MT_EVT.ABORTED = 1 ∧ u.rd MT_ABORTED.N = min (2 ^ MT_ABORTED.N.w - 1) (s.rd MT_ABORTED.N + 1) ∧
           (∀ x ∈ u.mg.waiting, x.kind ≠ 2) ∧ u.mg.acts = s.mg.acts ∧
           t = (u.endAct a 0 Addr.LG_HEAD 0 [] 1).dirDone (carried r 0x11 g) r.data.toNat) ∧
         (a.code = 1 → s.Completes (.maintAbort r) fun t => ∃ u : State,
           u.rd MT_EVT.ABORTED = 1 ∧ u.mg.dump = none ∧ u.rd MG_DUMP_STAT.BUSY = 0 ∧ u.rd MG_DUMP_STAT.HELD = 0 ∧
           t = (u.endAct a 0 Addr.MG_DUMP_STAT MG_DUMP_STAT.BUSY.lo [] 1).dirDone (carried r 0x11 g) r.data.toNat))) ∧
     (∀ (r : DirReq) (g kind i : Nat), s.TakesDir 0x0D r g → kind = r.data.toNat / 2 ^ 24 → i = r.data.toNat % 2 ^ 24 →
       (r.args ≠ [] ∨ (kind ≠ 1 ∧ kind ≠ 6 ∧ kind ≠ 8) →
         s.Completes (.linkRetrain r) fun t => t = (s.taken r g).dirBad (carried r 0x0D g)) ∧
       (r.args = [] → (kind = 1 ∨ kind = 6 ∨ kind = 8) → retrainUnit kind i = none →
         s.Completes (.linkRetrain r) fun t =>
           t = (s.taken r g).dirRefused (carried r 0x0D g) 0x0D 0x0D 0xE0 (i % 2 ^ 16)) ∧
       (∀ res h addr, r.args = [] → retrainUnit kind i = some (res, h, addr) →
         (s.canRetrain kind i = false →
           s.Completes (.linkRetrain r) fun t => t = (s.taken r g).dirWrong (carried r 0x0D g) addr) ∧
         (s.canRetrain kind i = true → s.mg.acts = [] →
           s.Completes (.linkRetrain r) fun t => ∃ (u : State) (a : Activity),
             u.mg.acts = [a] ∧ a.code = 5 ∧ a.res = [res] ∧ a.unit = r.data.toNat ∧
             t = (u.retrain kind i).dirDone (carried r 0x0D g) a.id) ∧
         (kind = 1 → s.evState i ≠ evDark → s.evUp i = false → s.mg.acts = [] →
           s.Completes (.linkRetrain r) fun t => t.evState i = evClocking ∧ t.rd (EV_PAT_STAT.BUSY i) = 0))) ∧
     (∀ id : BitVec 16,
       ((∀ a, s.act id.toNat = some a → a.code ≠ 5) → s.Completes (.linkRetrainTimeout id) fun t => t = s) ∧
       (∀ a res h addr, s.act id.toNat = some a → a.code = 5 → retrainUnit (a.unit / 2 ^ 24) (a.unit % 2 ^ 24) = some (res, h, addr) →
         s.Completes (.linkRetrainTimeout id) fun t => ∃ u : State,
           u = s.advance (a.startAt + usTf 100000) ∧
           t = u.endAct a h addr 0 [u.retrainState (a.unit / 2 ^ 24) (a.unit % 2 ^ 24)] 2)) ∧
     (∀ i : Fin 16,
       (s.running = false ∨ s.inWarm = true ∨ s.on (MT_SCHED_A.EN i) = false →
         s.Completes (.maintSchedule i) fun t => t = s) ∧
       (∀ period due u, s.running = true → s.inWarm = false → s.on (MT_SCHED_A.EN i) = true →
         period = max 1 (s.rd (MT_SCHED_A.PERIOD i)) * usTf 1000000 →
         due = (if Tab.get 0 s.mg.schedAt i = 0 then s.boot.runAt + period else Tab.get 0 s.mg.schedAt i - 1) →
         u = s.advance due →
         (s.rd (MT_SCHED_A.CODE i) = 9 → s.rd (MT_SCHED_B.ARG i) = 0 → s.mg.acts = [] → s.th.scrub = none →
           s.Completes (.maintSchedule i) fun t =>
             (∃ a, t.mg.acts = [a] ∧ a.code = 9) ∧ t.th.scrub.isSome = true ∧
             Tab.get 0 t.mg.schedAt i = s.boot.runAt + ((due - s.boot.runAt) / period + 1) * period + 1) ∧
         (s.rd (MT_SCHED_A.CODE i) = 3 →
           s.Completes (.maintSchedule i) fun t => ∃ v : State,
             v.rd MT_EVT.REFUSED = 1 ∧ v.mg = u.mg ∧ v.time = u.time ∧
             ∃ w, w = v.refuse 0x0E 12288 0xE0 (s.rd (MT_SCHED_B.ARG i) % 2 ^ 16) ∧
             (due + usTf 1000000 < s.boot.runAt + ((due - s.boot.runAt) / period + 1) * period →
               Tab.get 0 t.mg.schedAt i = due + usTf 1000000 + 1 ∧ t.regs = w.regs) ∧
             (s.boot.runAt + ((due - s.boot.runAt) / period + 1) * period ≤ due + usTf 1000000 →
               Tab.get 0 t.mg.schedAt i = s.boot.runAt + ((due - s.boot.runAt) / period + 1) * period + 1 ∧
               t.rd MT_EVT.SKIPPED = 1 ∧
               t.rd MT_SKIPPED.N = min (2 ^ MT_SKIPPED.N.w - 1) (w.rd MT_SKIPPED.N + 1))))))

/-! ## Management cores -/

/-- Heartbeats, takeover and deferrals (R473, R474, R478, R502): a heartbeat shows its core running; 3 ms of silence
stop it, when the other core takes its tenure, or the error is fatal; an item that waits too long is counted and noted
once per level in 100 ms. -/
def Obligations.HeartbeatsAndDeferralsAct : Prop :=
  ∀ (s : State) (h : Half),
    (s.mgmtUp = false → s.Completes (.mcHeartbeat h) fun t => t = s) ∧
    (s.mgmtUp = true →
      s.Completes (.mcHeartbeat h) fun t =>
        t.rd (aliveBit h) = 1 ∧ Tab.get 0 t.mg.beatAt h = t.now ∧ t.rd (aliveBit (1 - h.val)) = s.rd (aliveBit (1 - h.val)) ∧
        (s.on (aliveBit h) = true → t.now = (s.advance (Tab.get 0 s.mg.beatAt h + usTf 1000)).now) ∧
        (s.on (aliveBit h) = false → t.now = s.now)) ∧
    (s.mgmtUp = false ∨ s.on (aliveBit h) = false → s.Completes (.heartbeatSilence h) fun t => t = s) ∧
    (∀ last, s.mgmtUp = true → s.on (aliveBit h) = true → last = Tab.get 0 s.mg.wdogAt h →
      s.on (aliveBit (1 - h.val)) = true →
      (s.hasTenure h = false →
        s.Completes (.heartbeatSilence h) fun t =>
          t.rd (aliveBit h) = 0 ∧ t.rd MG_EVT.WATCHDOG = 1 ∧ t.rd MG_STAT.TENURE = s.rd MG_STAT.TENURE ∧
          Tab.get 0 t.mg.wdogAt h = t.now + 1 ∧
          t.now = (s.advance (Tab.get 0 s.mg.beatAt h + usTf 3000)).now ∧
          (last ≠ 0 → t.now < last - 1 + usTf 1000000 → t.rd (MG_PATCH.OFF h) = 1 ∧ t.patchRam h = []) ∧
          (last = 0 ∨ last - 1 + usTf 1000000 ≤ t.now →
            t.rd (MG_PATCH.OFF h) = s.rd (MG_PATCH.OFF h) ∧ t.patchRam h = s.patchRam h)) ∧
      (s.hasTenure h = true →
        s.Completes (.heartbeatSilence h) fun t => ∃ u : State,
          u.rd MG_STAT.TENURE = 2 - h.val ∧ u.rd TN_LATCH.COPIES = (2 - h.val) * 21 ∧ u.rd MG_EVT.TAKEOVER = 1 ∧
          u.rd (aliveBit h) = 0 ∧ u.mg.request = 0 ∧ u.tallyOf 0x0701 = min (2 ^ 48 - 1) (s.tallyOf 0x0701 + 1) ∧
          t = ((u.warmDirectives 1000).abortWhere Activity.firmware .takeover 1000).watchdog h)) ∧
    (s.mgmtUp = true → s.on (aliveBit h) = true → s.on (aliveBit (1 - h.val)) = false →
      s.Completes (.heartbeatSilence h) fun t => ∃ u : State,
        u.rd (aliveBit h) = 0 ∧ u.mg = s.mg ∧ t = u.fatality { cause := 5, unit := 0, addr := Addr.MG_STAT, immediate := true }) ∧
    (∀ level : Fin 5,
      (s.mgmtUp = false ∨ level = 0 → s.Completes (.mcDeferral h level) fun t => t = s) ∧
      (s.mgmtUp = true → level ≠ 0 → s.Completes (.mcDeferral h level) fun t => ∃ u : State,
        u.rd (MG_DEFER.N level) = min (2 ^ (MG_DEFER.N level).w - 1) (s.rd (MG_DEFER.N level) + 1) ∧
        u.rd MG_EVT.SATURATED = 1 ∧
        (Tab.get 0 s.mg.satAt level ≠ 0 → s.now < Tab.get 0 s.mg.satAt level - 1 + usTf 100000 → t = u) ∧
        (Tab.get 0 s.mg.satAt level = 0 ∨ Tab.get 0 s.mg.satAt level - 1 + usTf 100000 ≤ s.now →
          Tab.get 0 u.mg.satAt level = s.now + 1 ∧
          t = u.note h (Addr.MG_DEFER level) 0 .saturation deviceWide [])))

/-- Tenure (R22, R464, R475, R477, R479, R502, R512): a core asks for it and the holder's grant moves the latch; the
fields are the management cores' alone; a request without a grant is withdrawn; TENURE_MOVE places a request; upset
copies are repaired by their majority or set by rule; a voted register that cannot be repaired is fatal. -/
def Obligations.TenureAndVotersAreKept : Prop :=
  ∀ s : State,
    (∀ (c : U32 → Instr) (p : Path) (data : U32), c = .tnReq p ∨ c = .tnGrant p →
      s.Reaches p Addr.TN_CTRL →
      (p = .ridge → bits data.toNat 0 2 ≠ 0 →
        s.Completes (c data) fun t => t = s.accErr .ridge Addr.TN_CTRL .denied true) ∧
      (bits data.toNat 0 2 = 0 → s.Completes (c data) fun t => t = s) ∧
      (∀ h : Half, pathHalf p = some h.val →
        (bits data.toNat 0 2 = 1 → s.hasTenure h = false → s.mg.request = 0 →
          s.Completes (c data) fun t => t.mg.request = h + 1 ∧ t.mg.requestAt = s.now ∧ t.regs = s.regs) ∧
        (bits data.toNat 0 2 = 1 → s.hasTenure h = true → s.Completes (c data) fun t => t = s) ∧
        (bits data.toNat 0 2 = 2 → s.hasTenure h = true → s.mg.request = 2 - h.val →
          s.Completes (c data) fun t =>
            t.rd MG_STAT.TENURE = 2 - h.val ∧ t.rd TN_LATCH.COPIES = (2 - h.val) * 21 ∧ t.rd MG_EVT.HANDOVER = 1 ∧
            t.mg.request = 0 ∧ t.tallyOf 0x0700 = min (2 ^ 48 - 1) (s.tallyOf 0x0700 + 1)) ∧
        (bits data.toNat 0 2 = 2 → s.hasTenure h = false → s.Completes (c data) fun t => t = s))) ∧
    (s.mg.request = 0 → s.Completes .tenureReqTimeout fun t => t = s) ∧
    (s.mg.request ≠ 0 →
      s.Completes .tenureReqTimeout fun t => ∃ u : State,
        u.mg.request = 0 ∧ u.regs = s.regs ∧ u.now = (s.advance (s.mg.requestAt + usTf 2000)).now ∧
        t = u.event 0 MG_EVT.REQ_WITHDRAWN deviceWide) ∧
    (∀ (r : DirReq) (g : Nat), s.TakesDir 0x14 r g →
      (r.args ≠ [] ∨ 2 ≤ r.data.toNat → s.Completes (.tenureMove r) fun t => t = (s.taken r g).dirBad (carried r 0x14 g)) ∧
      (∀ h : Half, r.args = [] → r.data.toNat = h.val →
        (s.hasTenure h = true → s.Completes (.tenureMove r) fun t => t = (s.taken r g).dirDone (carried r 0x14 g) 0) ∧
        (s.hasTenure h = false → s.on (aliveBit h) = false →
          s.Completes (.tenureMove r) fun t => t = (s.taken r g).dirWrong (carried r 0x14 g) Addr.MG_STAT) ∧
        (s.hasTenure h = false → s.on (aliveBit h) = true → s.mg.request = 0 →
          s.Completes (.tenureMove r) fun t =>
            t.mg.request = h + 1 ∧ t.mg.requestAt = s.now ∧ t.rd MG_STAT.TENURE = s.rd MG_STAT.TENURE))) ∧
    (∀ copies : BitVec 6,
      (s.mgmtUp = false → s.Completes (.tenureDispute copies) fun t => t = s) ∧
      (∀ v, s.mgmtUp = true → latchMajority copies.toNat = some v → v ≠ 3 →
        (copies.toNat = v * 21 → s.Completes (.tenureDispute copies) fun t => t = s) ∧
        (copies.toNat ≠ v * 21 → s.Completes (.tenureDispute copies) fun t =>
          t.rd MG_STAT.TENURE = v ∧ t.rd TN_LATCH.COPIES = v * 21 ∧
          t.tallyOf 0x0102 = min (2 ^ 48 - 1) (s.tallyOf 0x0102 + 1))) ∧
      (∀ h : Half, s.mgmtUp = true → (latchMajority copies.toNat = none ∨ latchMajority copies.toNat = some 3) →
        s.on MG_STAT.MCN_ALIVE = (h == 0) →
        s.Completes (.tenureDispute copies) fun t => ∃ u : State,
          u.rd MG_STAT.TENURE = h + 1 ∧ u.rd TN_LATCH.COPIES = (h + 1) * 21 ∧ u.mg.request ≠ h + 1 ∧
          t = ((u.event 0 MG_EVT.DISPUTE deviceWide).tally 0x0702).ledgerEvent 0x04 [2, h + 1, (h + 1) * 21])) ∧
    (∀ addr : U32,
      (∀ ok, voted addr.toNat = false → controlState addr.toNat = false →
        s.Completes (.voterRepair addr ok) fun t => t = s) ∧
      (voted addr.toNat = true ∨ controlState addr.toNat = true →
        (s.Completes (.voterRepair addr true) fun t =>
          t = s.tally 0x0102 ∧ t.tallyOf 0x0102 = min (2 ^ 48 - 1) (s.tallyOf 0x0102 + 1)) ∧
        (s.Completes (.voterRepair addr false) fun t => ∃ u : State,
          (∀ a, a ≠ addr.toNat → u.reg a = s.reg a) ∧ addr.toNat ∈ u.mg.voterBad ∧
          u.tallyOf 0x0122 = min (2 ^ 48 - 1) (s.tallyOf 0x0122 + 1) ∧
          (controlState addr.toNat = true →
            t = u.fatality { cause := 4, unit := unitId 0 0, addr := addr.toNat, immediate := true, warm := true }) ∧
          (∀ k i, controlState addr.toNat = false → ownerOf addr.toNat = some (k, i) →
            t = u.fatality
              { cause := 3, unit := unitId k i, addr := addr.toNat, immediate := false, units := [(k, i)], warm := false }) ∧
          (controlState addr.toNat = false → ownerOf addr.toNat = none →
            t = u.fatality { cause := 3, unit := unitId 0 0, addr := addr.toNat, immediate := true, warm := true }))))

/-- Patches (R19, R480, R482): writes for the core that does not hold tenure reach its patch RAM; a patch that is asked
for is applied when its head is right and only then; writes that name the holder are ignored and recorded. -/
def Obligations.PatchesAreLoadedAndApplied : Prop :=
  ∀ (s : State) (p : Path) (data : U32),
    (∀ h : Half, s.Reaches p Addr.MG_PATCH_D → s.rd MG_PATCH_A.CORE = h.val →
      (s.hasTenure h = true →
        s.Completes (.mgPatchDWrite p data) fun t => t = s.accErr p Addr.MG_PATCH_D .ignored true) ∧
      (s.hasTenure h = false →
        s.Completes (.mgPatchDWrite p data) fun t =>
          memLoad (t.patchRam h) (s.rd MG_PATCH_A.A / 4 * 4) 4 = data.toNat ∧ t.regs = s.regs ∧
          t.patchRam (1 - h.val) = s.patchRam (1 - h.val) ∧
          (∀ i, i < s.rd MG_PATCH_A.A / 4 * 4 ∨ s.rd MG_PATCH_A.A / 4 * 4 + 4 ≤ i →
            Tab.get 0 (t.patchRam h) i = Tab.get 0 (s.patchRam h) i))) ∧
    (s.Reaches p Addr.MG_PATCH_CTRL →
      (bitAt data.toNat 0 = false → s.Completes (.mgPatchApply p data) fun t => t = s) ∧
      (bitAt data.toNat 0 = true → s.hasTenure (bits data.toNat 1 1) = true →
        s.Completes (.mgPatchApply p data) fun t => t = s.accErr p Addr.MG_PATCH_CTRL .ignored true) ∧
      (bitAt data.toNat 0 = true → s.hasTenure (bits data.toNat 1 1) = false →
        (patchOk (s.patchBytes (bits data.toNat 1 1)) = true →
          s.Completes (.mgPatchApply p data) fun t =>
            t = s.patchCore (bits data.toNat 1 1) (s.patchBytes (bits data.toNat 1 1))) ∧
        (patchOk (s.patchBytes (bits data.toNat 1 1)) = false →
          s.Completes (.mgPatchApply p data) fun t =>
            t.rd MG_EVT.PATCH_FAIL = 1 ∧ t.rd (MG_PATCH.HOOKS (bits data.toNat 1 1)) = 0 ∧
            t.patchRam 0 = s.patchRam 0 ∧ t.patchRam 1 = s.patchRam 1)))

/-! ## Register access and the Soffit port -/

/-- A register write on a path (R12, R18, R19, R510, R511, R513, R516, R524): what stands in its way is recorded and
changes nothing else; each access code acts on its own fields; a course-scoped value waits for the next boundary in RUN.
Reads with an effect (R18, R21, R507, R510, R514, R516, R524): a counter marked RC reads and clears, and no other
register changes; a read of a tally latches its upper half for its own path, a peek nothing. -/
def Obligations.RegisterWritesAndReads : Prop :=
  (∀ (s : State) (p : Path) (addr data : U32) (a : Nat), a = addr.toNat →
     (a % 4 ≠ 0 ∨ s.pins.answered = false → s.Completes (.registerWrite p addr data) fun t => t = s) ∧
     (a % 4 = 0 → s.pins.answered = true → inWindow a = false →
       (regAt a = none → s.Completes (.registerWrite p addr data) fun t => t = s.accErr p a .noAddress true) ∧
       ((regAt a).isSome = true → s.pins.applied = false →
         s.Completes (.registerWrite p addr data) fun t => t = s.accErr p a .ignored true) ∧
       ((regAt a).isSome = true → s.pins.applied = true → p = .ridge → (s.rescue = true ∨ s.inBounds a 0 = false) →
         s.Completes (.registerWrite p addr data) fun t => t = s.accErr p a .denied true) ∧
       ((regAt a).isSome = true → s.pins.applied = true → p ≠ .ridge → s.inWarm = true → enableReg a = true →
         s.Completes (.registerWrite p addr data) fun t => t = s)) ∧
     (s.Reaches p a →
       (a = Addr.IDENT → s.Completes (.registerWrite p addr data) fun t => t = s.accErr p a .ignored true) ∧
       (a = Addr.LG_CNT_SEL → s.Completes (.registerWrite p addr data) fun t =>
         t.rd LG_CNT_SEL.ID = data.toNat % 2 ^ 16 ∧ (∀ b, b ≠ a → t.reg b = s.reg b) ∧ t = { s with regs := t.regs }) ∧
       (a = Addr.TIME_EVT → s.Completes (.registerWrite p addr data) fun t =>
         (∀ f ∈ [TIME_EVT.REF_LOSS, TIME_EVT.RELOCK, TIME_EVT.SYN_LOSS, TIME_EVT.JUMP_BACK, TIME_EVT.JUMP_FWD, TIME_EVT.GLITCH,
             TIME_EVT.ALIGN_DRIFT, TIME_EVT.TRG_OVERFLOW, TIME_EVT.TRG_LATE],
           t.rd f = if bitAt data.toNat f.lo = true then 0 else s.rd f) ∧
         (∀ b, b ≠ a → t.reg b = s.reg b) ∧ t = { s with regs := t.regs }) ∧
       (a = Addr.HIP_PREF → s.running = true →
         s.Completes (.registerWrite p addr data) fun t => t = s.accErr p a .ignored true) ∧
       (a = Addr.HIP_PREF → s.running = false →
         s.Completes (.registerWrite p addr data) fun t =>
           t.rd HIP_PREF.L = data.toNat ∧ (∀ b, b ≠ a → t.reg b = s.reg b) ∧ t = { s with regs := t.regs }) ∧
       (∀ q : QueueNo, a = Addr.PQ_LIM q → s.running = true →
         s.Completes (.registerWrite p addr data) fun t =>
           t.rd (PQ_LIM.TMO q) = bits data.toNat 16 16 ∧ t.eff (PQ_LIM.TMO q) = s.eff (PQ_LIM.TMO q) ∧
           t.rd (PQ_LIM.CAP q) = s.rd (PQ_LIM.CAP q) ∧ (∀ b, b ≠ a → t.reg b = s.reg b)))) ∧
  (∀ (s : State) (p : Path),
     (∀ addr : U32,
       (s.pins.answered = false → s.Completes (.rcCounterRead p addr) fun t => t = s) ∧
       (s.pins.answered = true → regAt addr.toNat = none →
         s.Completes (.rcCounterRead p addr) fun t => t = s.accErr p addr.toNat .noAddress false) ∧
       (s.pins.answered = true → s.pins.applied = false → (regAt addr.toNat).isSome = true → addr.toNat ≠ Addr.IDENT →
         addr.toNat ≠ Addr.BOOT_STAT → addr.toNat ≠ Addr.STRAP → s.Completes (.rcCounterRead p addr) fun t => t = s)) ∧
     (∀ (k : Core) (n : Port), s.pins.answered = true → s.pins.applied = true →
       ∀ f ∈ [RG_BADREQ.N, MT_REFUSED.N, LG_COMMITS.N, NT_SUPP.N, ACC_ERR_CNT.N, RC_EXC.N k, EV_HOLDS.N n],
         s.Completes (.rcCounterRead p (BitVec.ofNat 32 f.addr)) fun t =>
           t.rd f = 0 ∧ (∀ b, b ≠ f.addr → t.reg b = s.reg b) ∧ t = { s with regs := t.regs }) ∧
     (s.pins.answered = false → ∀ consume, s.Completes (.lgCntLoRead p consume) fun t => t = s) ∧
     (s.pins.answered = true → s.pins.applied = true →
       (s.Completes (.lgCntLoRead p false) fun t => t = s) ∧
       (s.Completes (.lgCntLoRead p true) fun t =>
         (t.latchOf p Addr.LG_CNT_HI).toNat =
           s.countSeconds.tallyOf (s.rd LG_CNT_SEL.ID) % 2 ^ 48 / 2 ^ 32 ∧
         (∀ o, o ≠ p → t.latchOf o Addr.LG_CNT_HI = s.latchOf o Addr.LG_CNT_HI) ∧ t = { s with latch := t.latch })))

/-- The TAP (R543): an instruction replaces the one before, nothing else changes, and the pins are driven, held or
floated only while RESET_N is low; every code that is no instruction is BYPASS. DBG_REG (R321, R510, R512, R544): an
access acts only while the instruction is DBG_REG; a peek changes nothing but what the next capture returns, a consume
read clears the counter it returns, an address without a register is status 2, and a write that reaches a management
core's field is status 3 and acts on nothing. -/
def Obligations.SoffitTapAndRegisterPort : Prop :=
  (∀ s : State,
     (∀ x ∈ ([(.tapReset, 0xFF, 0), (.extest, 0x00, 1), (.extestPulse, 0x02, 1), (.extestTrain, 0x03, 1), (.clamp, 0x04, 2),
         (.highz, 0x05, 3), (.dbgReg, 0x20, 0)] : List (Instr × BitVec 8 × Nat)),
       s.Completes x.1 fun t =>
         t.soffit.ir = x.2.1 ∧ t.soffit.boundary = (if s.pins.resetLow = true then x.2.2 else 0) ∧ t.soffit.dr = s.soffit.dr ∧
         t.soffit.sampled = s.soffit.sampled ∧ t = { s with soffit := t.soffit }) ∧
     (s.Completes .samplePreload fun t =>
       t.soffit.ir = 0x01 ∧ t.soffit.boundary = 0 ∧ t.soffit.sampled = true ∧ t.soffit.dr = s.soffit.dr ∧
       t = { s with soffit := t.soffit }) ∧
     (∀ ir : BitVec 8, ir ∉ ([0x00, 0x01, 0x02, 0x03, 0x04, 0x05, 0x20] : List (BitVec 8)) →
       s.Completes (.bypass ir) fun t =>
         t.soffit.ir = ir ∧ t.soffit.boundary = 0 ∧ t.soffit.dr = s.soffit.dr ∧ t = { s with soffit := t.soffit }) ∧
     (∀ ir : BitVec 8, ir ∈ ([0x00, 0x01, 0x02, 0x03, 0x04, 0x05, 0x20] : List (BitVec 8)) →
       s.Completes (.bypass ir) fun t => t = s)) ∧
  (∀ (s : State) (dr : BitVec 72),
     (s.soffit.ir ≠ 0x20 ∨ s.pins.answered = false → s.Completes (.dbgRegUpdate dr) fun t => t = s) ∧
     (∀ a, s.soffit.ir = 0x20 → s.pins.answered = true → a = bits dr.toNat 0 32 →
       (∀ n : Port, s.pins.applied = true → a = Addr.EV_HOLDS n → bitAt dr.toNat 64 = false →
         s.Completes (.dbgRegUpdate dr) fun t =>
           bits t.soffit.dr.toNat 0 32 = a ∧ bits t.soffit.dr.toNat 32 32 = s.rd (EV_HOLDS.N n) ∧
           bits t.soffit.dr.toNat 66 2 = 0 ∧
           t.rd (EV_HOLDS.N n) = (if bitAt dr.toNat 65 = true then 0 else s.rd (EV_HOLDS.N n)) ∧
           (∀ b, b ≠ a → t.reg b = s.reg b) ∧ t = { s with regs := t.regs, soffit := t.soffit }) ∧
       (regAt a = none → inWindow a = false → bitAt dr.toNat 64 = false →
         s.Completes (.dbgRegUpdate dr) fun t =>
           bits t.soffit.dr.toNat 66 2 = 2 ∧ bits t.soffit.dr.toNat 32 32 = 0 ∧
           t.regs = (if bitAt dr.toNat 65 = true then (s.accErr .soffit a .noAddress false).regs else s.regs)) ∧
       (regAt a = none → inWindow a = false → bitAt dr.toNat 64 = true →
         s.Completes (.dbgRegUpdate dr) fun t =>
           bits t.soffit.dr.toNat 66 2 = 2 ∧ t.regs = (s.accErr .soffit a .noAddress true).regs) ∧
       (s.pins.applied = true → a = Addr.TN_CTRL → bitAt dr.toNat 64 = true → bits (bits dr.toNat 32 32) 0 2 ≠ 0 →
         s.Completes (.dbgRegUpdate dr) fun t =>
           bits t.soffit.dr.toNat 66 2 = 3 ∧ t.regs = (s.accErr .soffit a .ignored true).regs ∧ t.mg = s.mg) ∧
       (s.pins.applied = true → a = Addr.LG_CNT_SEL → bitAt dr.toNat 64 = true →
         s.Completes (.dbgRegUpdate dr) fun t =>
           bits t.soffit.dr.toNat 66 2 = 0 ∧ t.rd LG_CNT_SEL.ID = bits dr.toNat 32 16 ∧ (∀ b, b ≠ a → t.reg b = s.reg b))))

/-! ## Every step -/

/-- An invariant of every step, whatever command it runs (R543): the boundary cells drive, hold or float the pins only
while RESET_N is low, and then as the TAP's instruction in force says. -/
def Obligations.EveryStepKeepsPinScanInsideReset : Prop :=
  ∀ s t : State, s.scanOk → step s = .next t → t.scanOk
end

