-- ==== Sys2Proof/Laws/State.lean ====
section
/-! SUPPORT. What each named update of the state leaves: one lemma for each field it does not touch. -/

namespace Sys2Proof.Machine

variable (s : State)

@[simp] theorem State.setReg_pending (a : Nat) (v : U32) : (s.setReg a v).pending = s.pending := rfl
@[simp] theorem State.setReg_staged (a : Nat) (v : U32) : (s.setReg a v).staged = s.staged := rfl
@[simp] theorem State.setReg_latch (a : Nat) (v : U32) : (s.setReg a v).latch = s.latch := rfl
@[simp] theorem State.setReg_winLatch (a : Nat) (v : U32) : (s.setReg a v).winLatch = s.winLatch := rfl
@[simp] theorem State.setReg_time (a : Nat) (v : U32) : (s.setReg a v).time = s.time := rfl
@[simp] theorem State.setReg_tch (a : Nat) (v : U32) : (s.setReg a v).tch = s.tch := rfl
@[simp] theorem State.setReg_ports (a : Nat) (v : U32) : (s.setReg a v).ports = s.ports := rfl
@[simp] theorem State.setReg_acq (a : Nat) (v : U32) : (s.setReg a v).acq = s.acq := rfl
@[simp] theorem State.setReg_th (a : Nat) (v : U32) : (s.setReg a v).th = s.th := rfl
@[simp] theorem State.setReg_queues (a : Nat) (v : U32) : (s.setReg a v).queues = s.queues := rfl
@[simp] theorem State.setReg_purlins (a : Nat) (v : U32) : (s.setReg a v).purlins = s.purlins := rfl
@[simp] theorem State.setReg_cores (a : Nat) (v : U32) : (s.setReg a v).cores = s.cores := rfl
@[simp] theorem State.setReg_engines (a : Nat) (v : U32) : (s.setReg a v).engines = s.engines := rfl
@[simp] theorem State.setReg_lanes (a : Nat) (v : U32) : (s.setReg a v).lanes = s.lanes := rfl
@[simp] theorem State.setReg_groups (a : Nat) (v : U32) : (s.setReg a v).groups = s.groups := rfl
@[simp] theorem State.setReg_trans (a : Nat) (v : U32) : (s.setReg a v).trans = s.trans := rfl
@[simp] theorem State.setReg_notes (a : Nat) (v : U32) : (s.setReg a v).notes = s.notes := rfl
@[simp] theorem State.setReg_links (a : Nat) (v : U32) : (s.setReg a v).links = s.links := rfl
@[simp] theorem State.setReg_tree (a : Nat) (v : U32) : (s.setReg a v).tree = s.tree := rfl
@[simp] theorem State.setReg_gauge (a : Nat) (v : U32) : (s.setReg a v).gauge = s.gauge := rfl
@[simp] theorem State.setReg_boot (a : Nat) (v : U32) : (s.setReg a v).boot = s.boot := rfl
@[simp] theorem State.setReg_mg (a : Nat) (v : U32) : (s.setReg a v).mg = s.mg := rfl
@[simp] theorem State.setReg_pins (a : Nat) (v : U32) : (s.setReg a v).pins = s.pins := rfl
@[simp] theorem State.setReg_soffit (a : Nat) (v : U32) : (s.setReg a v).soffit = s.soffit := rfl
@[simp] theorem State.setReg_freeCtr (a : Nat) (v : U32) : (s.setReg a v).freeCtr = s.freeCtr := rfl

@[simp] theorem State.wr_pending (f : Field) (v : Nat) : (s.wr f v).pending = s.pending := rfl
@[simp] theorem State.wr_staged (f : Field) (v : Nat) : (s.wr f v).staged = s.staged := rfl
@[simp] theorem State.wr_latch (f : Field) (v : Nat) : (s.wr f v).latch = s.latch := rfl
@[simp] theorem State.wr_winLatch (f : Field) (v : Nat) : (s.wr f v).winLatch = s.winLatch := rfl
@[simp] theorem State.wr_time (f : Field) (v : Nat) : (s.wr f v).time = s.time := rfl
@[simp] theorem State.wr_tch (f : Field) (v : Nat) : (s.wr f v).tch = s.tch := rfl
@[simp] theorem State.wr_ports (f : Field) (v : Nat) : (s.wr f v).ports = s.ports := rfl
@[simp] theorem State.wr_acq (f : Field) (v : Nat) : (s.wr f v).acq = s.acq := rfl
@[simp] theorem State.wr_th (f : Field) (v : Nat) : (s.wr f v).th = s.th := rfl
@[simp] theorem State.wr_queues (f : Field) (v : Nat) : (s.wr f v).queues = s.queues := rfl
@[simp] theorem State.wr_purlins (f : Field) (v : Nat) : (s.wr f v).purlins = s.purlins := rfl
@[simp] theorem State.wr_cores (f : Field) (v : Nat) : (s.wr f v).cores = s.cores := rfl
@[simp] theorem State.wr_engines (f : Field) (v : Nat) : (s.wr f v).engines = s.engines := rfl
@[simp] theorem State.wr_lanes (f : Field) (v : Nat) : (s.wr f v).lanes = s.lanes := rfl
@[simp] theorem State.wr_groups (f : Field) (v : Nat) : (s.wr f v).groups = s.groups := rfl
@[simp] theorem State.wr_trans (f : Field) (v : Nat) : (s.wr f v).trans = s.trans := rfl
@[simp] theorem State.wr_notes (f : Field) (v : Nat) : (s.wr f v).notes = s.notes := rfl
@[simp] theorem State.wr_links (f : Field) (v : Nat) : (s.wr f v).links = s.links := rfl
@[simp] theorem State.wr_tree (f : Field) (v : Nat) : (s.wr f v).tree = s.tree := rfl
@[simp] theorem State.wr_gauge (f : Field) (v : Nat) : (s.wr f v).gauge = s.gauge := rfl
@[simp] theorem State.wr_boot (f : Field) (v : Nat) : (s.wr f v).boot = s.boot := rfl
@[simp] theorem State.wr_mg (f : Field) (v : Nat) : (s.wr f v).mg = s.mg := rfl
@[simp] theorem State.wr_pins (f : Field) (v : Nat) : (s.wr f v).pins = s.pins := rfl
@[simp] theorem State.wr_soffit (f : Field) (v : Nat) : (s.wr f v).soffit = s.soffit := rfl
@[simp] theorem State.wr_freeCtr (f : Field) (v : Nat) : (s.wr f v).freeCtr = s.freeCtr := rfl

@[simp] theorem State.count_pending (f : Field) (n : Nat) : (s.count f n).pending = s.pending := rfl
@[simp] theorem State.count_staged (f : Field) (n : Nat) : (s.count f n).staged = s.staged := rfl
@[simp] theorem State.count_latch (f : Field) (n : Nat) : (s.count f n).latch = s.latch := rfl
@[simp] theorem State.count_winLatch (f : Field) (n : Nat) : (s.count f n).winLatch = s.winLatch := rfl
@[simp] theorem State.count_time (f : Field) (n : Nat) : (s.count f n).time = s.time := rfl
@[simp] theorem State.count_tch (f : Field) (n : Nat) : (s.count f n).tch = s.tch := rfl
@[simp] theorem State.count_ports (f : Field) (n : Nat) : (s.count f n).ports = s.ports := rfl
@[simp] theorem State.count_acq (f : Field) (n : Nat) : (s.count f n).acq = s.acq := rfl
@[simp] theorem State.count_th (f : Field) (n : Nat) : (s.count f n).th = s.th := rfl
@[simp] theorem State.count_queues (f : Field) (n : Nat) : (s.count f n).queues = s.queues := rfl
@[simp] theorem State.count_purlins (f : Field) (n : Nat) : (s.count f n).purlins = s.purlins := rfl
@[simp] theorem State.count_cores (f : Field) (n : Nat) : (s.count f n).cores = s.cores := rfl
@[simp] theorem State.count_engines (f : Field) (n : Nat) : (s.count f n).engines = s.engines := rfl
@[simp] theorem State.count_lanes (f : Field) (n : Nat) : (s.count f n).lanes = s.lanes := rfl
@[simp] theorem State.count_groups (f : Field) (n : Nat) : (s.count f n).groups = s.groups := rfl
@[simp] theorem State.count_trans (f : Field) (n : Nat) : (s.count f n).trans = s.trans := rfl
@[simp] theorem State.count_notes (f : Field) (n : Nat) : (s.count f n).notes = s.notes := rfl
@[simp] theorem State.count_links (f : Field) (n : Nat) : (s.count f n).links = s.links := rfl
@[simp] theorem State.count_tree (f : Field) (n : Nat) : (s.count f n).tree = s.tree := rfl
@[simp] theorem State.count_gauge (f : Field) (n : Nat) : (s.count f n).gauge = s.gauge := rfl
@[simp] theorem State.count_boot (f : Field) (n : Nat) : (s.count f n).boot = s.boot := rfl
@[simp] theorem State.count_mg (f : Field) (n : Nat) : (s.count f n).mg = s.mg := rfl
@[simp] theorem State.count_pins (f : Field) (n : Nat) : (s.count f n).pins = s.pins := rfl
@[simp] theorem State.count_soffit (f : Field) (n : Nat) : (s.count f n).soffit = s.soffit := rfl
@[simp] theorem State.count_freeCtr (f : Field) (n : Nat) : (s.count f n).freeCtr = s.freeCtr := rfl

@[simp] theorem State.flag_pending (f : Field) : (s.flag f).pending = s.pending := rfl
@[simp] theorem State.flag_staged (f : Field) : (s.flag f).staged = s.staged := rfl
@[simp] theorem State.flag_latch (f : Field) : (s.flag f).latch = s.latch := rfl
@[simp] theorem State.flag_winLatch (f : Field) : (s.flag f).winLatch = s.winLatch := rfl
@[simp] theorem State.flag_time (f : Field) : (s.flag f).time = s.time := rfl
@[simp] theorem State.flag_tch (f : Field) : (s.flag f).tch = s.tch := rfl
@[simp] theorem State.flag_ports (f : Field) : (s.flag f).ports = s.ports := rfl
@[simp] theorem State.flag_acq (f : Field) : (s.flag f).acq = s.acq := rfl
@[simp] theorem State.flag_th (f : Field) : (s.flag f).th = s.th := rfl
@[simp] theorem State.flag_queues (f : Field) : (s.flag f).queues = s.queues := rfl
@[simp] theorem State.flag_purlins (f : Field) : (s.flag f).purlins = s.purlins := rfl
@[simp] theorem State.flag_cores (f : Field) : (s.flag f).cores = s.cores := rfl
@[simp] theorem State.flag_engines (f : Field) : (s.flag f).engines = s.engines := rfl
@[simp] theorem State.flag_lanes (f : Field) : (s.flag f).lanes = s.lanes := rfl
@[simp] theorem State.flag_groups (f : Field) : (s.flag f).groups = s.groups := rfl
@[simp] theorem State.flag_trans (f : Field) : (s.flag f).trans = s.trans := rfl
@[simp] theorem State.flag_notes (f : Field) : (s.flag f).notes = s.notes := rfl
@[simp] theorem State.flag_links (f : Field) : (s.flag f).links = s.links := rfl
@[simp] theorem State.flag_tree (f : Field) : (s.flag f).tree = s.tree := rfl
@[simp] theorem State.flag_gauge (f : Field) : (s.flag f).gauge = s.gauge := rfl
@[simp] theorem State.flag_boot (f : Field) : (s.flag f).boot = s.boot := rfl
@[simp] theorem State.flag_mg (f : Field) : (s.flag f).mg = s.mg := rfl
@[simp] theorem State.flag_pins (f : Field) : (s.flag f).pins = s.pins := rfl
@[simp] theorem State.flag_soffit (f : Field) : (s.flag f).soffit = s.soffit := rfl
@[simp] theorem State.flag_freeCtr (f : Field) : (s.flag f).freeCtr = s.freeCtr := rfl

@[simp] theorem State.setPort_pending (p : Nat) (x : PortSt) : (s.setPort p x).pending = s.pending := rfl
@[simp] theorem State.setPort_regs (p : Nat) (x : PortSt) : (s.setPort p x).regs = s.regs := rfl
@[simp] theorem State.setPort_staged (p : Nat) (x : PortSt) : (s.setPort p x).staged = s.staged := rfl
@[simp] theorem State.setPort_latch (p : Nat) (x : PortSt) : (s.setPort p x).latch = s.latch := rfl
@[simp] theorem State.setPort_winLatch (p : Nat) (x : PortSt) : (s.setPort p x).winLatch = s.winLatch := rfl
@[simp] theorem State.setPort_time (p : Nat) (x : PortSt) : (s.setPort p x).time = s.time := rfl
@[simp] theorem State.setPort_tch (p : Nat) (x : PortSt) : (s.setPort p x).tch = s.tch := rfl
@[simp] theorem State.setPort_acq (p : Nat) (x : PortSt) : (s.setPort p x).acq = s.acq := rfl
@[simp] theorem State.setPort_th (p : Nat) (x : PortSt) : (s.setPort p x).th = s.th := rfl
@[simp] theorem State.setPort_queues (p : Nat) (x : PortSt) : (s.setPort p x).queues = s.queues := rfl
@[simp] theorem State.setPort_purlins (p : Nat) (x : PortSt) : (s.setPort p x).purlins = s.purlins := rfl
@[simp] theorem State.setPort_cores (p : Nat) (x : PortSt) : (s.setPort p x).cores = s.cores := rfl
@[simp] theorem State.setPort_engines (p : Nat) (x : PortSt) : (s.setPort p x).engines = s.engines := rfl
@[simp] theorem State.setPort_lanes (p : Nat) (x : PortSt) : (s.setPort p x).lanes = s.lanes := rfl
@[simp] theorem State.setPort_groups (p : Nat) (x : PortSt) : (s.setPort p x).groups = s.groups := rfl
@[simp] theorem State.setPort_trans (p : Nat) (x : PortSt) : (s.setPort p x).trans = s.trans := rfl
@[simp] theorem State.setPort_notes (p : Nat) (x : PortSt) : (s.setPort p x).notes = s.notes := rfl
@[simp] theorem State.setPort_links (p : Nat) (x : PortSt) : (s.setPort p x).links = s.links := rfl
@[simp] theorem State.setPort_tree (p : Nat) (x : PortSt) : (s.setPort p x).tree = s.tree := rfl
@[simp] theorem State.setPort_gauge (p : Nat) (x : PortSt) : (s.setPort p x).gauge = s.gauge := rfl
@[simp] theorem State.setPort_boot (p : Nat) (x : PortSt) : (s.setPort p x).boot = s.boot := rfl
@[simp] theorem State.setPort_mg (p : Nat) (x : PortSt) : (s.setPort p x).mg = s.mg := rfl
@[simp] theorem State.setPort_pins (p : Nat) (x : PortSt) : (s.setPort p x).pins = s.pins := rfl
@[simp] theorem State.setPort_soffit (p : Nat) (x : PortSt) : (s.setPort p x).soffit = s.soffit := rfl
@[simp] theorem State.setPort_freeCtr (p : Nat) (x : PortSt) : (s.setPort p x).freeCtr = s.freeCtr := rfl

@[simp] theorem State.setChan_pending (c : Nat) (x : TchSt) : (s.setChan c x).pending = s.pending := rfl
@[simp] theorem State.setChan_regs (c : Nat) (x : TchSt) : (s.setChan c x).regs = s.regs := rfl
@[simp] theorem State.setChan_staged (c : Nat) (x : TchSt) : (s.setChan c x).staged = s.staged := rfl
@[simp] theorem State.setChan_latch (c : Nat) (x : TchSt) : (s.setChan c x).latch = s.latch := rfl
@[simp] theorem State.setChan_winLatch (c : Nat) (x : TchSt) : (s.setChan c x).winLatch = s.winLatch := rfl
@[simp] theorem State.setChan_time (c : Nat) (x : TchSt) : (s.setChan c x).time = s.time := rfl
@[simp] theorem State.setChan_ports (c : Nat) (x : TchSt) : (s.setChan c x).ports = s.ports := rfl
@[simp] theorem State.setChan_acq (c : Nat) (x : TchSt) : (s.setChan c x).acq = s.acq := rfl
@[simp] theorem State.setChan_th (c : Nat) (x : TchSt) : (s.setChan c x).th = s.th := rfl
@[simp] theorem State.setChan_queues (c : Nat) (x : TchSt) : (s.setChan c x).queues = s.queues := rfl
@[simp] theorem State.setChan_purlins (c : Nat) (x : TchSt) : (s.setChan c x).purlins = s.purlins := rfl
@[simp] theorem State.setChan_cores (c : Nat) (x : TchSt) : (s.setChan c x).cores = s.cores := rfl
@[simp] theorem State.setChan_engines (c : Nat) (x : TchSt) : (s.setChan c x).engines = s.engines := rfl
@[simp] theorem State.setChan_lanes (c : Nat) (x : TchSt) : (s.setChan c x).lanes = s.lanes := rfl
@[simp] theorem State.setChan_groups (c : Nat) (x : TchSt) : (s.setChan c x).groups = s.groups := rfl
@[simp] theorem State.setChan_trans (c : Nat) (x : TchSt) : (s.setChan c x).trans = s.trans := rfl
@[simp] theorem State.setChan_notes (c : Nat) (x : TchSt) : (s.setChan c x).notes = s.notes := rfl
@[simp] theorem State.setChan_links (c : Nat) (x : TchSt) : (s.setChan c x).links = s.links := rfl
@[simp] theorem State.setChan_tree (c : Nat) (x : TchSt) : (s.setChan c x).tree = s.tree := rfl
@[simp] theorem State.setChan_gauge (c : Nat) (x : TchSt) : (s.setChan c x).gauge = s.gauge := rfl
@[simp] theorem State.setChan_boot (c : Nat) (x : TchSt) : (s.setChan c x).boot = s.boot := rfl
@[simp] theorem State.setChan_mg (c : Nat) (x : TchSt) : (s.setChan c x).mg = s.mg := rfl
@[simp] theorem State.setChan_pins (c : Nat) (x : TchSt) : (s.setChan c x).pins = s.pins := rfl
@[simp] theorem State.setChan_soffit (c : Nat) (x : TchSt) : (s.setChan c x).soffit = s.soffit := rfl
@[simp] theorem State.setChan_freeCtr (c : Nat) (x : TchSt) : (s.setChan c x).freeCtr = s.freeCtr := rfl

@[simp] theorem State.setQueue_pending (q : Nat) (x : QueueSt) : (s.setQueue q x).pending = s.pending := rfl
@[simp] theorem State.setQueue_regs (q : Nat) (x : QueueSt) : (s.setQueue q x).regs = s.regs := rfl
@[simp] theorem State.setQueue_staged (q : Nat) (x : QueueSt) : (s.setQueue q x).staged = s.staged := rfl
@[simp] theorem State.setQueue_latch (q : Nat) (x : QueueSt) : (s.setQueue q x).latch = s.latch := rfl
@[simp] theorem State.setQueue_winLatch (q : Nat) (x : QueueSt) : (s.setQueue q x).winLatch = s.winLatch := rfl
@[simp] theorem State.setQueue_time (q : Nat) (x : QueueSt) : (s.setQueue q x).time = s.time := rfl
@[simp] theorem State.setQueue_tch (q : Nat) (x : QueueSt) : (s.setQueue q x).tch = s.tch := rfl
@[simp] theorem State.setQueue_ports (q : Nat) (x : QueueSt) : (s.setQueue q x).ports = s.ports := rfl
@[simp] theorem State.setQueue_acq (q : Nat) (x : QueueSt) : (s.setQueue q x).acq = s.acq := rfl
@[simp] theorem State.setQueue_th (q : Nat) (x : QueueSt) : (s.setQueue q x).th = s.th := rfl
@[simp] theorem State.setQueue_purlins (q : Nat) (x : QueueSt) : (s.setQueue q x).purlins = s.purlins := rfl
@[simp] theorem State.setQueue_cores (q : Nat) (x : QueueSt) : (s.setQueue q x).cores = s.cores := rfl
@[simp] theorem State.setQueue_engines (q : Nat) (x : QueueSt) : (s.setQueue q x).engines = s.engines := rfl
@[simp] theorem State.setQueue_lanes (q : Nat) (x : QueueSt) : (s.setQueue q x).lanes = s.lanes := rfl
@[simp] theorem State.setQueue_groups (q : Nat) (x : QueueSt) : (s.setQueue q x).groups = s.groups := rfl
@[simp] theorem State.setQueue_trans (q : Nat) (x : QueueSt) : (s.setQueue q x).trans = s.trans := rfl
@[simp] theorem State.setQueue_notes (q : Nat) (x : QueueSt) : (s.setQueue q x).notes = s.notes := rfl
@[simp] theorem State.setQueue_links (q : Nat) (x : QueueSt) : (s.setQueue q x).links = s.links := rfl
@[simp] theorem State.setQueue_tree (q : Nat) (x : QueueSt) : (s.setQueue q x).tree = s.tree := rfl
@[simp] theorem State.setQueue_gauge (q : Nat) (x : QueueSt) : (s.setQueue q x).gauge = s.gauge := rfl
@[simp] theorem State.setQueue_boot (q : Nat) (x : QueueSt) : (s.setQueue q x).boot = s.boot := rfl
@[simp] theorem State.setQueue_mg (q : Nat) (x : QueueSt) : (s.setQueue q x).mg = s.mg := rfl
@[simp] theorem State.setQueue_pins (q : Nat) (x : QueueSt) : (s.setQueue q x).pins = s.pins := rfl
@[simp] theorem State.setQueue_soffit (q : Nat) (x : QueueSt) : (s.setQueue q x).soffit = s.soffit := rfl
@[simp] theorem State.setQueue_freeCtr (q : Nat) (x : QueueSt) : (s.setQueue q x).freeCtr = s.freeCtr := rfl

@[simp] theorem State.setPurlin_pending (h : Nat) (x : Purlin) : (s.setPurlin h x).pending = s.pending := rfl
@[simp] theorem State.setPurlin_regs (h : Nat) (x : Purlin) : (s.setPurlin h x).regs = s.regs := rfl
@[simp] theorem State.setPurlin_staged (h : Nat) (x : Purlin) : (s.setPurlin h x).staged = s.staged := rfl
@[simp] theorem State.setPurlin_latch (h : Nat) (x : Purlin) : (s.setPurlin h x).latch = s.latch := rfl
@[simp] theorem State.setPurlin_winLatch (h : Nat) (x : Purlin) : (s.setPurlin h x).winLatch = s.winLatch := rfl
@[simp] theorem State.setPurlin_time (h : Nat) (x : Purlin) : (s.setPurlin h x).time = s.time := rfl
@[simp] theorem State.setPurlin_tch (h : Nat) (x : Purlin) : (s.setPurlin h x).tch = s.tch := rfl
@[simp] theorem State.setPurlin_ports (h : Nat) (x : Purlin) : (s.setPurlin h x).ports = s.ports := rfl
@[simp] theorem State.setPurlin_acq (h : Nat) (x : Purlin) : (s.setPurlin h x).acq = s.acq := rfl
@[simp] theorem State.setPurlin_th (h : Nat) (x : Purlin) : (s.setPurlin h x).th = s.th := rfl
@[simp] theorem State.setPurlin_queues (h : Nat) (x : Purlin) : (s.setPurlin h x).queues = s.queues := rfl
@[simp] theorem State.setPurlin_cores (h : Nat) (x : Purlin) : (s.setPurlin h x).cores = s.cores := rfl
@[simp] theorem State.setPurlin_engines (h : Nat) (x : Purlin) : (s.setPurlin h x).engines = s.engines := rfl
@[simp] theorem State.setPurlin_lanes (h : Nat) (x : Purlin) : (s.setPurlin h x).lanes = s.lanes := rfl
@[simp] theorem State.setPurlin_groups (h : Nat) (x : Purlin) : (s.setPurlin h x).groups = s.groups := rfl
@[simp] theorem State.setPurlin_trans (h : Nat) (x : Purlin) : (s.setPurlin h x).trans = s.trans := rfl
@[simp] theorem State.setPurlin_notes (h : Nat) (x : Purlin) : (s.setPurlin h x).notes = s.notes := rfl
@[simp] theorem State.setPurlin_links (h : Nat) (x : Purlin) : (s.setPurlin h x).links = s.links := rfl
@[simp] theorem State.setPurlin_tree (h : Nat) (x : Purlin) : (s.setPurlin h x).tree = s.tree := rfl
@[simp] theorem State.setPurlin_gauge (h : Nat) (x : Purlin) : (s.setPurlin h x).gauge = s.gauge := rfl
@[simp] theorem State.setPurlin_boot (h : Nat) (x : Purlin) : (s.setPurlin h x).boot = s.boot := rfl
@[simp] theorem State.setPurlin_mg (h : Nat) (x : Purlin) : (s.setPurlin h x).mg = s.mg := rfl
@[simp] theorem State.setPurlin_pins (h : Nat) (x : Purlin) : (s.setPurlin h x).pins = s.pins := rfl
@[simp] theorem State.setPurlin_soffit (h : Nat) (x : Purlin) : (s.setPurlin h x).soffit = s.soffit := rfl
@[simp] theorem State.setPurlin_freeCtr (h : Nat) (x : Purlin) : (s.setPurlin h x).freeCtr = s.freeCtr := rfl

@[simp] theorem State.setCore_pending (k : Nat) (x : CoreSt) : (s.setCore k x).pending = s.pending := rfl
@[simp] theorem State.setCore_regs (k : Nat) (x : CoreSt) : (s.setCore k x).regs = s.regs := rfl
@[simp] theorem State.setCore_staged (k : Nat) (x : CoreSt) : (s.setCore k x).staged = s.staged := rfl
@[simp] theorem State.setCore_latch (k : Nat) (x : CoreSt) : (s.setCore k x).latch = s.latch := rfl
@[simp] theorem State.setCore_winLatch (k : Nat) (x : CoreSt) : (s.setCore k x).winLatch = s.winLatch := rfl
@[simp] theorem State.setCore_time (k : Nat) (x : CoreSt) : (s.setCore k x).time = s.time := rfl
@[simp] theorem State.setCore_tch (k : Nat) (x : CoreSt) : (s.setCore k x).tch = s.tch := rfl
@[simp] theorem State.setCore_ports (k : Nat) (x : CoreSt) : (s.setCore k x).ports = s.ports := rfl
@[simp] theorem State.setCore_acq (k : Nat) (x : CoreSt) : (s.setCore k x).acq = s.acq := rfl
@[simp] theorem State.setCore_th (k : Nat) (x : CoreSt) : (s.setCore k x).th = s.th := rfl
@[simp] theorem State.setCore_queues (k : Nat) (x : CoreSt) : (s.setCore k x).queues = s.queues := rfl
@[simp] theorem State.setCore_purlins (k : Nat) (x : CoreSt) : (s.setCore k x).purlins = s.purlins := rfl
@[simp] theorem State.setCore_engines (k : Nat) (x : CoreSt) : (s.setCore k x).engines = s.engines := rfl
@[simp] theorem State.setCore_lanes (k : Nat) (x : CoreSt) : (s.setCore k x).lanes = s.lanes := rfl
@[simp] theorem State.setCore_groups (k : Nat) (x : CoreSt) : (s.setCore k x).groups = s.groups := rfl
@[simp] theorem State.setCore_trans (k : Nat) (x : CoreSt) : (s.setCore k x).trans = s.trans := rfl
@[simp] theorem State.setCore_notes (k : Nat) (x : CoreSt) : (s.setCore k x).notes = s.notes := rfl
@[simp] theorem State.setCore_links (k : Nat) (x : CoreSt) : (s.setCore k x).links = s.links := rfl
@[simp] theorem State.setCore_tree (k : Nat) (x : CoreSt) : (s.setCore k x).tree = s.tree := rfl
@[simp] theorem State.setCore_gauge (k : Nat) (x : CoreSt) : (s.setCore k x).gauge = s.gauge := rfl
@[simp] theorem State.setCore_boot (k : Nat) (x : CoreSt) : (s.setCore k x).boot = s.boot := rfl
@[simp] theorem State.setCore_mg (k : Nat) (x : CoreSt) : (s.setCore k x).mg = s.mg := rfl
@[simp] theorem State.setCore_pins (k : Nat) (x : CoreSt) : (s.setCore k x).pins = s.pins := rfl
@[simp] theorem State.setCore_soffit (k : Nat) (x : CoreSt) : (s.setCore k x).soffit = s.soffit := rfl
@[simp] theorem State.setCore_freeCtr (k : Nat) (x : CoreSt) : (s.setCore k x).freeCtr = s.freeCtr := rfl

@[simp] theorem State.setEngine_pending (e : Nat) (x : EngineSt) : (s.setEngine e x).pending = s.pending := rfl
@[simp] theorem State.setEngine_regs (e : Nat) (x : EngineSt) : (s.setEngine e x).regs = s.regs := rfl
@[simp] theorem State.setEngine_staged (e : Nat) (x : EngineSt) : (s.setEngine e x).staged = s.staged := rfl
@[simp] theorem State.setEngine_latch (e : Nat) (x : EngineSt) : (s.setEngine e x).latch = s.latch := rfl
@[simp] theorem State.setEngine_winLatch (e : Nat) (x : EngineSt) : (s.setEngine e x).winLatch = s.winLatch := rfl
@[simp] theorem State.setEngine_time (e : Nat) (x : EngineSt) : (s.setEngine e x).time = s.time := rfl
@[simp] theorem State.setEngine_tch (e : Nat) (x : EngineSt) : (s.setEngine e x).tch = s.tch := rfl
@[simp] theorem State.setEngine_ports (e : Nat) (x : EngineSt) : (s.setEngine e x).ports = s.ports := rfl
@[simp] theorem State.setEngine_acq (e : Nat) (x : EngineSt) : (s.setEngine e x).acq = s.acq := rfl
@[simp] theorem State.setEngine_th (e : Nat) (x : EngineSt) : (s.setEngine e x).th = s.th := rfl
@[simp] theorem State.setEngine_queues (e : Nat) (x : EngineSt) : (s.setEngine e x).queues = s.queues := rfl
@[simp] theorem State.setEngine_purlins (e : Nat) (x : EngineSt) : (s.setEngine e x).purlins = s.purlins := rfl
@[simp] theorem State.setEngine_cores (e : Nat) (x : EngineSt) : (s.setEngine e x).cores = s.cores := rfl
@[simp] theorem State.setEngine_lanes (e : Nat) (x : EngineSt) : (s.setEngine e x).lanes = s.lanes := rfl
@[simp] theorem State.setEngine_groups (e : Nat) (x : EngineSt) : (s.setEngine e x).groups = s.groups := rfl
@[simp] theorem State.setEngine_trans (e : Nat) (x : EngineSt) : (s.setEngine e x).trans = s.trans := rfl
@[simp] theorem State.setEngine_notes (e : Nat) (x : EngineSt) : (s.setEngine e x).notes = s.notes := rfl
@[simp] theorem State.setEngine_links (e : Nat) (x : EngineSt) : (s.setEngine e x).links = s.links := rfl
@[simp] theorem State.setEngine_tree (e : Nat) (x : EngineSt) : (s.setEngine e x).tree = s.tree := rfl
@[simp] theorem State.setEngine_gauge (e : Nat) (x : EngineSt) : (s.setEngine e x).gauge = s.gauge := rfl
@[simp] theorem State.setEngine_boot (e : Nat) (x : EngineSt) : (s.setEngine e x).boot = s.boot := rfl
@[simp] theorem State.setEngine_mg (e : Nat) (x : EngineSt) : (s.setEngine e x).mg = s.mg := rfl
@[simp] theorem State.setEngine_pins (e : Nat) (x : EngineSt) : (s.setEngine e x).pins = s.pins := rfl
@[simp] theorem State.setEngine_soffit (e : Nat) (x : EngineSt) : (s.setEngine e x).soffit = s.soffit := rfl
@[simp] theorem State.setEngine_freeCtr (e : Nat) (x : EngineSt) : (s.setEngine e x).freeCtr = s.freeCtr := rfl

@[simp] theorem State.setLane_pending (l : Nat) (x : LaneSt) : (s.setLane l x).pending = s.pending := rfl
@[simp] theorem State.setLane_regs (l : Nat) (x : LaneSt) : (s.setLane l x).regs = s.regs := rfl
@[simp] theorem State.setLane_staged (l : Nat) (x : LaneSt) : (s.setLane l x).staged = s.staged := rfl
@[simp] theorem State.setLane_latch (l : Nat) (x : LaneSt) : (s.setLane l x).latch = s.latch := rfl
@[simp] theorem State.setLane_winLatch (l : Nat) (x : LaneSt) : (s.setLane l x).winLatch = s.winLatch := rfl
@[simp] theorem State.setLane_time (l : Nat) (x : LaneSt) : (s.setLane l x).time = s.time := rfl
@[simp] theorem State.setLane_tch (l : Nat) (x : LaneSt) : (s.setLane l x).tch = s.tch := rfl
@[simp] theorem State.setLane_ports (l : Nat) (x : LaneSt) : (s.setLane l x).ports = s.ports := rfl
@[simp] theorem State.setLane_acq (l : Nat) (x : LaneSt) : (s.setLane l x).acq = s.acq := rfl
@[simp] theorem State.setLane_th (l : Nat) (x : LaneSt) : (s.setLane l x).th = s.th := rfl
@[simp] theorem State.setLane_queues (l : Nat) (x : LaneSt) : (s.setLane l x).queues = s.queues := rfl
@[simp] theorem State.setLane_purlins (l : Nat) (x : LaneSt) : (s.setLane l x).purlins = s.purlins := rfl
@[simp] theorem State.setLane_cores (l : Nat) (x : LaneSt) : (s.setLane l x).cores = s.cores := rfl
@[simp] theorem State.setLane_engines (l : Nat) (x : LaneSt) : (s.setLane l x).engines = s.engines := rfl
@[simp] theorem State.setLane_groups (l : Nat) (x : LaneSt) : (s.setLane l x).groups = s.groups := rfl
@[simp] theorem State.setLane_trans (l : Nat) (x : LaneSt) : (s.setLane l x).trans = s.trans := rfl
@[simp] theorem State.setLane_notes (l : Nat) (x : LaneSt) : (s.setLane l x).notes = s.notes := rfl
@[simp] theorem State.setLane_links (l : Nat) (x : LaneSt) : (s.setLane l x).links = s.links := rfl
@[simp] theorem State.setLane_tree (l : Nat) (x : LaneSt) : (s.setLane l x).tree = s.tree := rfl
@[simp] theorem State.setLane_gauge (l : Nat) (x : LaneSt) : (s.setLane l x).gauge = s.gauge := rfl
@[simp] theorem State.setLane_boot (l : Nat) (x : LaneSt) : (s.setLane l x).boot = s.boot := rfl
@[simp] theorem State.setLane_mg (l : Nat) (x : LaneSt) : (s.setLane l x).mg = s.mg := rfl
@[simp] theorem State.setLane_pins (l : Nat) (x : LaneSt) : (s.setLane l x).pins = s.pins := rfl
@[simp] theorem State.setLane_soffit (l : Nat) (x : LaneSt) : (s.setLane l x).soffit = s.soffit := rfl
@[simp] theorem State.setLane_freeCtr (l : Nat) (x : LaneSt) : (s.setLane l x).freeCtr = s.freeCtr := rfl

@[simp] theorem State.setGroup_pending (g : Nat) (x : GroupSt) : (s.setGroup g x).pending = s.pending := rfl
@[simp] theorem State.setGroup_regs (g : Nat) (x : GroupSt) : (s.setGroup g x).regs = s.regs := rfl
@[simp] theorem State.setGroup_staged (g : Nat) (x : GroupSt) : (s.setGroup g x).staged = s.staged := rfl
@[simp] theorem State.setGroup_latch (g : Nat) (x : GroupSt) : (s.setGroup g x).latch = s.latch := rfl
@[simp] theorem State.setGroup_winLatch (g : Nat) (x : GroupSt) : (s.setGroup g x).winLatch = s.winLatch := rfl
@[simp] theorem State.setGroup_time (g : Nat) (x : GroupSt) : (s.setGroup g x).time = s.time := rfl
@[simp] theorem State.setGroup_tch (g : Nat) (x : GroupSt) : (s.setGroup g x).tch = s.tch := rfl
@[simp] theorem State.setGroup_ports (g : Nat) (x : GroupSt) : (s.setGroup g x).ports = s.ports := rfl
@[simp] theorem State.setGroup_acq (g : Nat) (x : GroupSt) : (s.setGroup g x).acq = s.acq := rfl
@[simp] theorem State.setGroup_th (g : Nat) (x : GroupSt) : (s.setGroup g x).th = s.th := rfl
@[simp] theorem State.setGroup_queues (g : Nat) (x : GroupSt) : (s.setGroup g x).queues = s.queues := rfl
@[simp] theorem State.setGroup_purlins (g : Nat) (x : GroupSt) : (s.setGroup g x).purlins = s.purlins := rfl
@[simp] theorem State.setGroup_cores (g : Nat) (x : GroupSt) : (s.setGroup g x).cores = s.cores := rfl
@[simp] theorem State.setGroup_engines (g : Nat) (x : GroupSt) : (s.setGroup g x).engines = s.engines := rfl
@[simp] theorem State.setGroup_lanes (g : Nat) (x : GroupSt) : (s.setGroup g x).lanes = s.lanes := rfl
@[simp] theorem State.setGroup_trans (g : Nat) (x : GroupSt) : (s.setGroup g x).trans = s.trans := rfl
@[simp] theorem State.setGroup_notes (g : Nat) (x : GroupSt) : (s.setGroup g x).notes = s.notes := rfl
@[simp] theorem State.setGroup_links (g : Nat) (x : GroupSt) : (s.setGroup g x).links = s.links := rfl
@[simp] theorem State.setGroup_tree (g : Nat) (x : GroupSt) : (s.setGroup g x).tree = s.tree := rfl
@[simp] theorem State.setGroup_gauge (g : Nat) (x : GroupSt) : (s.setGroup g x).gauge = s.gauge := rfl
@[simp] theorem State.setGroup_boot (g : Nat) (x : GroupSt) : (s.setGroup g x).boot = s.boot := rfl
@[simp] theorem State.setGroup_mg (g : Nat) (x : GroupSt) : (s.setGroup g x).mg = s.mg := rfl
@[simp] theorem State.setGroup_pins (g : Nat) (x : GroupSt) : (s.setGroup g x).pins = s.pins := rfl
@[simp] theorem State.setGroup_soffit (g : Nat) (x : GroupSt) : (s.setGroup g x).soffit = s.soffit := rfl
@[simp] theorem State.setGroup_freeCtr (g : Nat) (x : GroupSt) : (s.setGroup g x).freeCtr = s.freeCtr := rfl

@[simp] theorem State.setLink_pending (i : Nat) (x : LinkSt) : (s.setLink i x).pending = s.pending := rfl
@[simp] theorem State.setLink_regs (i : Nat) (x : LinkSt) : (s.setLink i x).regs = s.regs := rfl
@[simp] theorem State.setLink_staged (i : Nat) (x : LinkSt) : (s.setLink i x).staged = s.staged := rfl
@[simp] theorem State.setLink_latch (i : Nat) (x : LinkSt) : (s.setLink i x).latch = s.latch := rfl
@[simp] theorem State.setLink_winLatch (i : Nat) (x : LinkSt) : (s.setLink i x).winLatch = s.winLatch := rfl
@[simp] theorem State.setLink_time (i : Nat) (x : LinkSt) : (s.setLink i x).time = s.time := rfl
@[simp] theorem State.setLink_tch (i : Nat) (x : LinkSt) : (s.setLink i x).tch = s.tch := rfl
@[simp] theorem State.setLink_ports (i : Nat) (x : LinkSt) : (s.setLink i x).ports = s.ports := rfl
@[simp] theorem State.setLink_acq (i : Nat) (x : LinkSt) : (s.setLink i x).acq = s.acq := rfl
@[simp] theorem State.setLink_th (i : Nat) (x : LinkSt) : (s.setLink i x).th = s.th := rfl
@[simp] theorem State.setLink_queues (i : Nat) (x : LinkSt) : (s.setLink i x).queues = s.queues := rfl
@[simp] theorem State.setLink_purlins (i : Nat) (x : LinkSt) : (s.setLink i x).purlins = s.purlins := rfl
@[simp] theorem State.setLink_cores (i : Nat) (x : LinkSt) : (s.setLink i x).cores = s.cores := rfl
@[simp] theorem State.setLink_engines (i : Nat) (x : LinkSt) : (s.setLink i x).engines = s.engines := rfl
@[simp] theorem State.setLink_lanes (i : Nat) (x : LinkSt) : (s.setLink i x).lanes = s.lanes := rfl
@[simp] theorem State.setLink_groups (i : Nat) (x : LinkSt) : (s.setLink i x).groups = s.groups := rfl
@[simp] theorem State.setLink_trans (i : Nat) (x : LinkSt) : (s.setLink i x).trans = s.trans := rfl
@[simp] theorem State.setLink_notes (i : Nat) (x : LinkSt) : (s.setLink i x).notes = s.notes := rfl
@[simp] theorem State.setLink_tree (i : Nat) (x : LinkSt) : (s.setLink i x).tree = s.tree := rfl
@[simp] theorem State.setLink_gauge (i : Nat) (x : LinkSt) : (s.setLink i x).gauge = s.gauge := rfl
@[simp] theorem State.setLink_boot (i : Nat) (x : LinkSt) : (s.setLink i x).boot = s.boot := rfl
@[simp] theorem State.setLink_mg (i : Nat) (x : LinkSt) : (s.setLink i x).mg = s.mg := rfl
@[simp] theorem State.setLink_pins (i : Nat) (x : LinkSt) : (s.setLink i x).pins = s.pins := rfl
@[simp] theorem State.setLink_soffit (i : Nat) (x : LinkSt) : (s.setLink i x).soffit = s.soffit := rfl
@[simp] theorem State.setLink_freeCtr (i : Nat) (x : LinkSt) : (s.setLink i x).freeCtr = s.freeCtr := rfl

@[simp] theorem State.setUnit_pending (h : Nat) (x : UnitSt) : (s.setUnit h x).pending = s.pending := rfl
@[simp] theorem State.setUnit_regs (h : Nat) (x : UnitSt) : (s.setUnit h x).regs = s.regs := rfl
@[simp] theorem State.setUnit_staged (h : Nat) (x : UnitSt) : (s.setUnit h x).staged = s.staged := rfl
@[simp] theorem State.setUnit_latch (h : Nat) (x : UnitSt) : (s.setUnit h x).latch = s.latch := rfl
@[simp] theorem State.setUnit_winLatch (h : Nat) (x : UnitSt) : (s.setUnit h x).winLatch = s.winLatch := rfl
@[simp] theorem State.setUnit_time (h : Nat) (x : UnitSt) : (s.setUnit h x).time = s.time := rfl
@[simp] theorem State.setUnit_tch (h : Nat) (x : UnitSt) : (s.setUnit h x).tch = s.tch := rfl
@[simp] theorem State.setUnit_ports (h : Nat) (x : UnitSt) : (s.setUnit h x).ports = s.ports := rfl
@[simp] theorem State.setUnit_acq (h : Nat) (x : UnitSt) : (s.setUnit h x).acq = s.acq := rfl
@[simp] theorem State.setUnit_th (h : Nat) (x : UnitSt) : (s.setUnit h x).th = s.th := rfl
@[simp] theorem State.setUnit_queues (h : Nat) (x : UnitSt) : (s.setUnit h x).queues = s.queues := rfl
@[simp] theorem State.setUnit_purlins (h : Nat) (x : UnitSt) : (s.setUnit h x).purlins = s.purlins := rfl
@[simp] theorem State.setUnit_cores (h : Nat) (x : UnitSt) : (s.setUnit h x).cores = s.cores := rfl
@[simp] theorem State.setUnit_engines (h : Nat) (x : UnitSt) : (s.setUnit h x).engines = s.engines := rfl
@[simp] theorem State.setUnit_lanes (h : Nat) (x : UnitSt) : (s.setUnit h x).lanes = s.lanes := rfl
@[simp] theorem State.setUnit_groups (h : Nat) (x : UnitSt) : (s.setUnit h x).groups = s.groups := rfl
@[simp] theorem State.setUnit_trans (h : Nat) (x : UnitSt) : (s.setUnit h x).trans = s.trans := rfl
@[simp] theorem State.setUnit_notes (h : Nat) (x : UnitSt) : (s.setUnit h x).notes = s.notes := rfl
@[simp] theorem State.setUnit_links (h : Nat) (x : UnitSt) : (s.setUnit h x).links = s.links := rfl
@[simp] theorem State.setUnit_tree (h : Nat) (x : UnitSt) : (s.setUnit h x).tree = s.tree := rfl
@[simp] theorem State.setUnit_boot (h : Nat) (x : UnitSt) : (s.setUnit h x).boot = s.boot := rfl
@[simp] theorem State.setUnit_mg (h : Nat) (x : UnitSt) : (s.setUnit h x).mg = s.mg := rfl
@[simp] theorem State.setUnit_pins (h : Nat) (x : UnitSt) : (s.setUnit h x).pins = s.pins := rfl
@[simp] theorem State.setUnit_soffit (h : Nat) (x : UnitSt) : (s.setUnit h x).soffit = s.soffit := rfl
@[simp] theorem State.setUnit_freeCtr (h : Nat) (x : UnitSt) : (s.setUnit h x).freeCtr = s.freeCtr := rfl

@[simp] theorem State.setWriter_pending (w : Nat) (x : WriterSt) : (s.setWriter w x).pending = s.pending := rfl
@[simp] theorem State.setWriter_regs (w : Nat) (x : WriterSt) : (s.setWriter w x).regs = s.regs := rfl
@[simp] theorem State.setWriter_staged (w : Nat) (x : WriterSt) : (s.setWriter w x).staged = s.staged := rfl
@[simp] theorem State.setWriter_latch (w : Nat) (x : WriterSt) : (s.setWriter w x).latch = s.latch := rfl
@[simp] theorem State.setWriter_winLatch (w : Nat) (x : WriterSt) : (s.setWriter w x).winLatch = s.winLatch := rfl
@[simp] theorem State.setWriter_time (w : Nat) (x : WriterSt) : (s.setWriter w x).time = s.time := rfl
@[simp] theorem State.setWriter_tch (w : Nat) (x : WriterSt) : (s.setWriter w x).tch = s.tch := rfl
@[simp] theorem State.setWriter_ports (w : Nat) (x : WriterSt) : (s.setWriter w x).ports = s.ports := rfl
@[simp] theorem State.setWriter_acq (w : Nat) (x : WriterSt) : (s.setWriter w x).acq = s.acq := rfl
@[simp] theorem State.setWriter_queues (w : Nat) (x : WriterSt) : (s.setWriter w x).queues = s.queues := rfl
@[simp] theorem State.setWriter_purlins (w : Nat) (x : WriterSt) : (s.setWriter w x).purlins = s.purlins := rfl
@[simp] theorem State.setWriter_cores (w : Nat) (x : WriterSt) : (s.setWriter w x).cores = s.cores := rfl
@[simp] theorem State.setWriter_engines (w : Nat) (x : WriterSt) : (s.setWriter w x).engines = s.engines := rfl
@[simp] theorem State.setWriter_lanes (w : Nat) (x : WriterSt) : (s.setWriter w x).lanes = s.lanes := rfl
@[simp] theorem State.setWriter_groups (w : Nat) (x : WriterSt) : (s.setWriter w x).groups = s.groups := rfl
@[simp] theorem State.setWriter_trans (w : Nat) (x : WriterSt) : (s.setWriter w x).trans = s.trans := rfl
@[simp] theorem State.setWriter_notes (w : Nat) (x : WriterSt) : (s.setWriter w x).notes = s.notes := rfl
@[simp] theorem State.setWriter_links (w : Nat) (x : WriterSt) : (s.setWriter w x).links = s.links := rfl
@[simp] theorem State.setWriter_tree (w : Nat) (x : WriterSt) : (s.setWriter w x).tree = s.tree := rfl
@[simp] theorem State.setWriter_gauge (w : Nat) (x : WriterSt) : (s.setWriter w x).gauge = s.gauge := rfl
@[simp] theorem State.setWriter_boot (w : Nat) (x : WriterSt) : (s.setWriter w x).boot = s.boot := rfl
@[simp] theorem State.setWriter_mg (w : Nat) (x : WriterSt) : (s.setWriter w x).mg = s.mg := rfl
@[simp] theorem State.setWriter_pins (w : Nat) (x : WriterSt) : (s.setWriter w x).pins = s.pins := rfl
@[simp] theorem State.setWriter_soffit (w : Nat) (x : WriterSt) : (s.setWriter w x).soffit = s.soffit := rfl
@[simp] theorem State.setWriter_freeCtr (w : Nat) (x : WriterSt) : (s.setWriter w x).freeCtr = s.freeCtr := rfl

@[simp] theorem State.setTally_pending (id v : Nat) : (s.setTally id v).pending = s.pending := rfl
@[simp] theorem State.setTally_regs (id v : Nat) : (s.setTally id v).regs = s.regs := rfl
@[simp] theorem State.setTally_staged (id v : Nat) : (s.setTally id v).staged = s.staged := rfl
@[simp] theorem State.setTally_latch (id v : Nat) : (s.setTally id v).latch = s.latch := rfl
@[simp] theorem State.setTally_winLatch (id v : Nat) : (s.setTally id v).winLatch = s.winLatch := rfl
@[simp] theorem State.setTally_time (id v : Nat) : (s.setTally id v).time = s.time := rfl
@[simp] theorem State.setTally_tch (id v : Nat) : (s.setTally id v).tch = s.tch := rfl
@[simp] theorem State.setTally_ports (id v : Nat) : (s.setTally id v).ports = s.ports := rfl
@[simp] theorem State.setTally_acq (id v : Nat) : (s.setTally id v).acq = s.acq := rfl
@[simp] theorem State.setTally_th (id v : Nat) : (s.setTally id v).th = s.th := rfl
@[simp] theorem State.setTally_queues (id v : Nat) : (s.setTally id v).queues = s.queues := rfl
@[simp] theorem State.setTally_purlins (id v : Nat) : (s.setTally id v).purlins = s.purlins := rfl
@[simp] theorem State.setTally_cores (id v : Nat) : (s.setTally id v).cores = s.cores := rfl
@[simp] theorem State.setTally_engines (id v : Nat) : (s.setTally id v).engines = s.engines := rfl
@[simp] theorem State.setTally_lanes (id v : Nat) : (s.setTally id v).lanes = s.lanes := rfl
@[simp] theorem State.setTally_groups (id v : Nat) : (s.setTally id v).groups = s.groups := rfl
@[simp] theorem State.setTally_trans (id v : Nat) : (s.setTally id v).trans = s.trans := rfl
@[simp] theorem State.setTally_notes (id v : Nat) : (s.setTally id v).notes = s.notes := rfl
@[simp] theorem State.setTally_links (id v : Nat) : (s.setTally id v).links = s.links := rfl
@[simp] theorem State.setTally_tree (id v : Nat) : (s.setTally id v).tree = s.tree := rfl
@[simp] theorem State.setTally_gauge (id v : Nat) : (s.setTally id v).gauge = s.gauge := rfl
@[simp] theorem State.setTally_boot (id v : Nat) : (s.setTally id v).boot = s.boot := rfl
@[simp] theorem State.setTally_pins (id v : Nat) : (s.setTally id v).pins = s.pins := rfl
@[simp] theorem State.setTally_soffit (id v : Nat) : (s.setTally id v).soffit = s.soffit := rfl
@[simp] theorem State.setTally_freeCtr (id v : Nat) : (s.setTally id v).freeCtr = s.freeCtr := rfl

@[simp] theorem State.draw_pending : s.draw.2.pending = s.pending := rfl
@[simp] theorem State.draw_regs : s.draw.2.regs = s.regs := rfl
@[simp] theorem State.draw_staged : s.draw.2.staged = s.staged := rfl
@[simp] theorem State.draw_latch : s.draw.2.latch = s.latch := rfl
@[simp] theorem State.draw_winLatch : s.draw.2.winLatch = s.winLatch := rfl
@[simp] theorem State.draw_time : s.draw.2.time = s.time := rfl
@[simp] theorem State.draw_tch : s.draw.2.tch = s.tch := rfl
@[simp] theorem State.draw_ports : s.draw.2.ports = s.ports := rfl
@[simp] theorem State.draw_acq : s.draw.2.acq = s.acq := rfl
@[simp] theorem State.draw_th : s.draw.2.th = s.th := rfl
@[simp] theorem State.draw_queues : s.draw.2.queues = s.queues := rfl
@[simp] theorem State.draw_purlins : s.draw.2.purlins = s.purlins := rfl
@[simp] theorem State.draw_cores : s.draw.2.cores = s.cores := rfl
@[simp] theorem State.draw_engines : s.draw.2.engines = s.engines := rfl
@[simp] theorem State.draw_lanes : s.draw.2.lanes = s.lanes := rfl
@[simp] theorem State.draw_groups : s.draw.2.groups = s.groups := rfl
@[simp] theorem State.draw_trans : s.draw.2.trans = s.trans := rfl
@[simp] theorem State.draw_notes : s.draw.2.notes = s.notes := rfl
@[simp] theorem State.draw_links : s.draw.2.links = s.links := rfl
@[simp] theorem State.draw_tree : s.draw.2.tree = s.tree := rfl
@[simp] theorem State.draw_gauge : s.draw.2.gauge = s.gauge := rfl
@[simp] theorem State.draw_boot : s.draw.2.boot = s.boot := rfl
@[simp] theorem State.draw_mg : s.draw.2.mg = s.mg := rfl
@[simp] theorem State.draw_pins : s.draw.2.pins = s.pins := rfl
@[simp] theorem State.draw_soffit : s.draw.2.soffit = s.soffit := rfl

@[simp] theorem State.stage_pending (a : Nat) (v : U32) : (s.stage a v).pending = s.pending := rfl
@[simp] theorem State.stage_latch (a : Nat) (v : U32) : (s.stage a v).latch = s.latch := rfl
@[simp] theorem State.stage_winLatch (a : Nat) (v : U32) : (s.stage a v).winLatch = s.winLatch := rfl
@[simp] theorem State.stage_time (a : Nat) (v : U32) : (s.stage a v).time = s.time := rfl
@[simp] theorem State.stage_tch (a : Nat) (v : U32) : (s.stage a v).tch = s.tch := rfl
@[simp] theorem State.stage_ports (a : Nat) (v : U32) : (s.stage a v).ports = s.ports := rfl
@[simp] theorem State.stage_acq (a : Nat) (v : U32) : (s.stage a v).acq = s.acq := rfl
@[simp] theorem State.stage_th (a : Nat) (v : U32) : (s.stage a v).th = s.th := rfl
@[simp] theorem State.stage_queues (a : Nat) (v : U32) : (s.stage a v).queues = s.queues := rfl
@[simp] theorem State.stage_purlins (a : Nat) (v : U32) : (s.stage a v).purlins = s.purlins := rfl
@[simp] theorem State.stage_cores (a : Nat) (v : U32) : (s.stage a v).cores = s.cores := rfl
@[simp] theorem State.stage_engines (a : Nat) (v : U32) : (s.stage a v).engines = s.engines := rfl
@[simp] theorem State.stage_lanes (a : Nat) (v : U32) : (s.stage a v).lanes = s.lanes := rfl
@[simp] theorem State.stage_groups (a : Nat) (v : U32) : (s.stage a v).groups = s.groups := rfl
@[simp] theorem State.stage_trans (a : Nat) (v : U32) : (s.stage a v).trans = s.trans := rfl
@[simp] theorem State.stage_notes (a : Nat) (v : U32) : (s.stage a v).notes = s.notes := rfl
@[simp] theorem State.stage_links (a : Nat) (v : U32) : (s.stage a v).links = s.links := rfl
@[simp] theorem State.stage_tree (a : Nat) (v : U32) : (s.stage a v).tree = s.tree := rfl
@[simp] theorem State.stage_gauge (a : Nat) (v : U32) : (s.stage a v).gauge = s.gauge := rfl
@[simp] theorem State.stage_boot (a : Nat) (v : U32) : (s.stage a v).boot = s.boot := rfl
@[simp] theorem State.stage_mg (a : Nat) (v : U32) : (s.stage a v).mg = s.mg := rfl
@[simp] theorem State.stage_pins (a : Nat) (v : U32) : (s.stage a v).pins = s.pins := rfl
@[simp] theorem State.stage_soffit (a : Nat) (v : U32) : (s.stage a v).soffit = s.soffit := rfl
@[simp] theorem State.stage_freeCtr (a : Nat) (v : U32) : (s.stage a v).freeCtr = s.freeCtr := rfl

/-! A register reads the same whatever else of the state changes. -/

@[simp] theorem State.rd_with_pending (x : List Instr) (f : Field) : ({ s with pending := x } : State).rd f = s.rd f := rfl
@[simp] theorem State.reg_with_pending (x : List Instr) (a : Nat) : ({ s with pending := x } : State).reg a = s.reg a := rfl
@[simp] theorem State.eff_with_pending (x : List Instr) (f : Field) : ({ s with pending := x } : State).eff f = s.eff f := rfl
@[simp] theorem State.rd_with_staged (x : Tab (Option U32)) (f : Field) : ({ s with staged := x } : State).rd f = s.rd f := rfl
@[simp] theorem State.reg_with_staged (x : Tab (Option U32)) (a : Nat) : ({ s with staged := x } : State).reg a = s.reg a := rfl
@[simp] theorem State.rd_with_latch (x : Tab U32) (f : Field) : ({ s with latch := x } : State).rd f = s.rd f := rfl
@[simp] theorem State.reg_with_latch (x : Tab U32) (a : Nat) : ({ s with latch := x } : State).reg a = s.reg a := rfl
@[simp] theorem State.eff_with_latch (x : Tab U32) (f : Field) : ({ s with latch := x } : State).eff f = s.eff f := rfl
@[simp] theorem State.rd_with_winLatch (x : Tab (Option (Nat × Word × Bool))) (f : Field) : ({ s with winLatch := x } : State).rd f = s.rd f := rfl
@[simp] theorem State.reg_with_winLatch (x : Tab (Option (Nat × Word × Bool))) (a : Nat) : ({ s with winLatch := x } : State).reg a = s.reg a := rfl
@[simp] theorem State.eff_with_winLatch (x : Tab (Option (Nat × Word × Bool))) (f : Field) : ({ s with winLatch := x } : State).eff f = s.eff f := rfl
@[simp] theorem State.rd_with_time (x : TimeSt) (f : Field) : ({ s with time := x } : State).rd f = s.rd f := rfl
@[simp] theorem State.reg_with_time (x : TimeSt) (a : Nat) : ({ s with time := x } : State).reg a = s.reg a := rfl
@[simp] theorem State.eff_with_time (x : TimeSt) (f : Field) : ({ s with time := x } : State).eff f = s.eff f := rfl
@[simp] theorem State.rd_with_tch (x : Tab TchSt) (f : Field) : ({ s with tch := x } : State).rd f = s.rd f := rfl
@[simp] theorem State.reg_with_tch (x : Tab TchSt) (a : Nat) : ({ s with tch := x } : State).reg a = s.reg a := rfl
@[simp] theorem State.eff_with_tch (x : Tab TchSt) (f : Field) : ({ s with tch := x } : State).eff f = s.eff f := rfl
@[simp] theorem State.rd_with_ports (x : Tab PortSt) (f : Field) : ({ s with ports := x } : State).rd f = s.rd f := rfl
@[simp] theorem State.reg_with_ports (x : Tab PortSt) (a : Nat) : ({ s with ports := x } : State).reg a = s.reg a := rfl
@[simp] theorem State.eff_with_ports (x : Tab PortSt) (f : Field) : ({ s with ports := x } : State).eff f = s.eff f := rfl
@[simp] theorem State.rd_with_acq (x : AcqSt) (f : Field) : ({ s with acq := x } : State).rd f = s.rd f := rfl
@[simp] theorem State.reg_with_acq (x : AcqSt) (a : Nat) : ({ s with acq := x } : State).reg a = s.reg a := rfl
@[simp] theorem State.eff_with_acq (x : AcqSt) (f : Field) : ({ s with acq := x } : State).eff f = s.eff f := rfl
@[simp] theorem State.rd_with_th (x : ThatchSt) (f : Field) : ({ s with th := x } : State).rd f = s.rd f := rfl
@[simp] theorem State.reg_with_th (x : ThatchSt) (a : Nat) : ({ s with th := x } : State).reg a = s.reg a := rfl
@[simp] theorem State.eff_with_th (x : ThatchSt) (f : Field) : ({ s with th := x } : State).eff f = s.eff f := rfl
@[simp] theorem State.rd_with_queues (x : Tab QueueSt) (f : Field) : ({ s with queues := x } : State).rd f = s.rd f := rfl
@[simp] theorem State.reg_with_queues (x : Tab QueueSt) (a : Nat) : ({ s with queues := x } : State).reg a = s.reg a := rfl
@[simp] theorem State.eff_with_queues (x : Tab QueueSt) (f : Field) : ({ s with queues := x } : State).eff f = s.eff f := rfl
@[simp] theorem State.rd_with_purlins (x : Tab Purlin) (f : Field) : ({ s with purlins := x } : State).rd f = s.rd f := rfl
@[simp] theorem State.reg_with_purlins (x : Tab Purlin) (a : Nat) : ({ s with purlins := x } : State).reg a = s.reg a := rfl
@[simp] theorem State.eff_with_purlins (x : Tab Purlin) (f : Field) : ({ s with purlins := x } : State).eff f = s.eff f := rfl
@[simp] theorem State.rd_with_cores (x : Tab CoreSt) (f : Field) : ({ s with cores := x } : State).rd f = s.rd f := rfl
@[simp] theorem State.reg_with_cores (x : Tab CoreSt) (a : Nat) : ({ s with cores := x } : State).reg a = s.reg a := rfl
@[simp] theorem State.eff_with_cores (x : Tab CoreSt) (f : Field) : ({ s with cores := x } : State).eff f = s.eff f := rfl
@[simp] theorem State.rd_with_engines (x : Tab EngineSt) (f : Field) : ({ s with engines := x } : State).rd f = s.rd f := rfl
@[simp] theorem State.reg_with_engines (x : Tab EngineSt) (a : Nat) : ({ s with engines := x } : State).reg a = s.reg a := rfl
@[simp] theorem State.eff_with_engines (x : Tab EngineSt) (f : Field) : ({ s with engines := x } : State).eff f = s.eff f := rfl
@[simp] theorem State.rd_with_lanes (x : Tab LaneSt) (f : Field) : ({ s with lanes := x } : State).rd f = s.rd f := rfl
@[simp] theorem State.reg_with_lanes (x : Tab LaneSt) (a : Nat) : ({ s with lanes := x } : State).reg a = s.reg a := rfl
@[simp] theorem State.eff_with_lanes (x : Tab LaneSt) (f : Field) : ({ s with lanes := x } : State).eff f = s.eff f := rfl
@[simp] theorem State.rd_with_groups (x : Tab GroupSt) (f : Field) : ({ s with groups := x } : State).rd f = s.rd f := rfl
@[simp] theorem State.reg_with_groups (x : Tab GroupSt) (a : Nat) : ({ s with groups := x } : State).reg a = s.reg a := rfl
@[simp] theorem State.eff_with_groups (x : Tab GroupSt) (f : Field) : ({ s with groups := x } : State).eff f = s.eff f := rfl
@[simp] theorem State.rd_with_trans (x : List Trans) (f : Field) : ({ s with trans := x } : State).rd f = s.rd f := rfl
@[simp] theorem State.reg_with_trans (x : List Trans) (a : Nat) : ({ s with trans := x } : State).reg a = s.reg a := rfl
@[simp] theorem State.eff_with_trans (x : List Trans) (f : Field) : ({ s with trans := x } : State).eff f = s.eff f := rfl
@[simp] theorem State.rd_with_notes (x : Tab Nat) (f : Field) : ({ s with notes := x } : State).rd f = s.rd f := rfl
@[simp] theorem State.reg_with_notes (x : Tab Nat) (a : Nat) : ({ s with notes := x } : State).reg a = s.reg a := rfl
@[simp] theorem State.eff_with_notes (x : Tab Nat) (f : Field) : ({ s with notes := x } : State).eff f = s.eff f := rfl
@[simp] theorem State.rd_with_links (x : Tab LinkSt) (f : Field) : ({ s with links := x } : State).rd f = s.rd f := rfl
@[simp] theorem State.reg_with_links (x : Tab LinkSt) (a : Nat) : ({ s with links := x } : State).reg a = s.reg a := rfl
@[simp] theorem State.eff_with_links (x : Tab LinkSt) (f : Field) : ({ s with links := x } : State).eff f = s.eff f := rfl
@[simp] theorem State.rd_with_tree (x : TreeSt) (f : Field) : ({ s with tree := x } : State).rd f = s.rd f := rfl
@[simp] theorem State.reg_with_tree (x : TreeSt) (a : Nat) : ({ s with tree := x } : State).reg a = s.reg a := rfl
@[simp] theorem State.eff_with_tree (x : TreeSt) (f : Field) : ({ s with tree := x } : State).eff f = s.eff f := rfl
@[simp] theorem State.rd_with_gauge (x : Tab UnitSt) (f : Field) : ({ s with gauge := x } : State).rd f = s.rd f := rfl
@[simp] theorem State.reg_with_gauge (x : Tab UnitSt) (a : Nat) : ({ s with gauge := x } : State).reg a = s.reg a := rfl
@[simp] theorem State.eff_with_gauge (x : Tab UnitSt) (f : Field) : ({ s with gauge := x } : State).eff f = s.eff f := rfl
@[simp] theorem State.rd_with_boot (x : BootSt) (f : Field) : ({ s with boot := x } : State).rd f = s.rd f := rfl
@[simp] theorem State.reg_with_boot (x : BootSt) (a : Nat) : ({ s with boot := x } : State).reg a = s.reg a := rfl
@[simp] theorem State.eff_with_boot (x : BootSt) (f : Field) : ({ s with boot := x } : State).eff f = s.eff f := rfl
@[simp] theorem State.rd_with_mg (x : MgmtSt) (f : Field) : ({ s with mg := x } : State).rd f = s.rd f := rfl
@[simp] theorem State.reg_with_mg (x : MgmtSt) (a : Nat) : ({ s with mg := x } : State).reg a = s.reg a := rfl
@[simp] theorem State.eff_with_mg (x : MgmtSt) (f : Field) : ({ s with mg := x } : State).eff f = s.eff f := rfl
@[simp] theorem State.rd_with_pins (x : PinSt) (f : Field) : ({ s with pins := x } : State).rd f = s.rd f := rfl
@[simp] theorem State.reg_with_pins (x : PinSt) (a : Nat) : ({ s with pins := x } : State).reg a = s.reg a := rfl
@[simp] theorem State.eff_with_pins (x : PinSt) (f : Field) : ({ s with pins := x } : State).eff f = s.eff f := rfl
@[simp] theorem State.rd_with_soffit (x : SoffitSt) (f : Field) : ({ s with soffit := x } : State).rd f = s.rd f := rfl
@[simp] theorem State.reg_with_soffit (x : SoffitSt) (a : Nat) : ({ s with soffit := x } : State).reg a = s.reg a := rfl
@[simp] theorem State.eff_with_soffit (x : SoffitSt) (f : Field) : ({ s with soffit := x } : State).eff f = s.eff f := rfl
@[simp] theorem State.rd_with_freeCtr (x : Nat) (f : Field) : ({ s with freeCtr := x } : State).rd f = s.rd f := rfl
@[simp] theorem State.reg_with_freeCtr (x : Nat) (a : Nat) : ({ s with freeCtr := x } : State).reg a = s.reg a := rfl
@[simp] theorem State.eff_with_freeCtr (x : Nat) (f : Field) : ({ s with freeCtr := x } : State).eff f = s.eff f := rfl

end Sys2Proof.Machine
end

