-- ==== Sys2Proof/Laws/Tab.lean ====
section
/-! SUPPORT. Sparse tables: reading after writing, and the canonical form. -/

namespace Sys2Proof.Machine

variable {α : Type}

@[simp] theorem Tab.get_nil (d : α) (i : Nat) : Tab.get d [] i = d := rfl

theorem Tab.get_insert (d x : α) (t : Tab α) (i j : Nat) :
    Tab.get d (Tab.insert x t i) j = if j = i then x else Tab.get d t j := by
  induction t with
  | nil => simp [Tab.insert, Tab.get]
  | cons kv t ih =>
    obtain ⟨k, v⟩ := kv
    by_cases hk : i = k
    · subst hk
      by_cases hj : j = i <;> simp [Tab.insert, Tab.get, hj]
    · by_cases hl : i < k
      · by_cases hj : j = i <;> simp [Tab.insert, Tab.get, hk, hl, hj]
      · by_cases hj : j = k
        · have h : ¬ j = i := fun e => hk (e.symm.trans hj)
          subst hj; simp [Tab.insert, Tab.get, hk, hl, h]
        · simp [Tab.insert, Tab.get, hk, hl, hj, ih]

theorem Tab.get_erase (d : α) (t : Tab α) (i j : Nat) :
    Tab.get d (Tab.erase t i) j = if j = i then d else Tab.get d t j := by
  induction t with
  | nil => simp [Tab.erase, Tab.get]
  | cons kv t ih =>
    obtain ⟨k, v⟩ := kv
    simp only [Tab.erase] at ih
    by_cases hk : k = i
    · subst hk
      by_cases hj : j = k
      · simpa [Tab.erase, Tab.get, hj] using ih.trans (by simp [hj])
      · simpa [Tab.erase, Tab.get, hj] using ih
    · by_cases hj : j = k
      · subst hj; simp [Tab.erase, Tab.get, hk]
      · simpa [Tab.erase, Tab.get, hk, hj] using ih

variable [DecidableEq α]

/-- A read after a write gives the value written at its key, and what stood there at every other. -/
theorem Tab.get_set (d x : α) (t : Tab α) (i j : Nat) :
    Tab.get d (Tab.set d t i x) j = if j = i then x else Tab.get d t j := by
  unfold Tab.set
  by_cases hx : x = d
  · subst hx; simp [Tab.get_erase]
  · simp [hx, Tab.get_insert]

@[simp] theorem Tab.get_set_same (d x : α) (t : Tab α) (i : Nat) : Tab.get d (Tab.set d t i x) i = x := by
  simp [Tab.get_set]

/-- At another key nothing changes, whatever the unlisted values are. -/
theorem Tab.get_set_ne (d e x : α) (t : Tab α) {i j : Nat} (h : j ≠ i) :
    Tab.get e (Tab.set d t i x) j = Tab.get e t j := by
  unfold Tab.set
  split
  · simp [Tab.get_erase, h]
  · simp [Tab.get_insert, h]

theorem Tab.wfFrom_mono (d : Nat → α) (t : Tab α) {l m : Nat} (h : l ≤ m)
    (w : Tab.wfFrom d (some m) t = true) : Tab.wfFrom d (some l) t = true := by
  cases t with
  | nil => rfl
  | cons kv t =>
    simp only [Tab.wfFrom, Bool.and_eq_true, decide_eq_true_eq] at w ⊢
    exact ⟨⟨by omega, w.1.2⟩, w.2⟩

theorem Tab.wfFrom_none (d : Nat → α) (t : Tab α) {l : Nat}
    (w : Tab.wfFrom d (some l) t = true) : Tab.wfFrom d none t = true := by
  cases t with
  | nil => rfl
  | cons kv t =>
    simp only [Tab.wfFrom, Bool.and_eq_true, decide_eq_true_eq] at w ⊢
    exact ⟨⟨trivial, w.1.2⟩, w.2⟩

theorem Tab.wfFrom_filter (d : Nat → α) (p : Nat × α → Bool) (t : Tab α) (lo : Option Nat)
    (w : Tab.wfFrom d lo t = true) : Tab.wfFrom d lo (t.filter p) = true := by
  induction t generalizing lo with
  | nil => rfl
  | cons kv t ih =>
    obtain ⟨k, v⟩ := kv
    simp only [Tab.wfFrom, Bool.and_eq_true] at w
    by_cases hp : p (k, v) = true
    · simp only [List.filter_cons, hp, if_true, Tab.wfFrom, Bool.and_eq_true]
      exact ⟨w.1, ih _ w.2⟩
    · simp only [List.filter_cons, hp, if_false, Bool.false_eq_true]
      cases lo with
      | none => exact Tab.wfFrom_none d _ (ih _ w.2)
      | some l =>
        have hl : l < k := by simpa using w.1.1
        exact Tab.wfFrom_mono d _ (by omega) (ih _ w.2)

/-- Whether a key lies above a lower limit, when there is one. -/
def Tab.above (lo : Option Nat) (k : Nat) : Bool :=
  match lo with
  | none => true
  | some l => decide (l < k)

theorem Tab.wfFrom_cons (d : Nat → α) (lo : Option Nat) (k : Nat) (v : α) (t : Tab α) :
    Tab.wfFrom d lo ((k, v) :: t) = (Tab.above lo k && decide (v ≠ d k) && Tab.wfFrom d (some k) t) := by
  cases lo <;> rfl

theorem Tab.wfFrom_insert (d : Nat → α) (t : Tab α) (lo : Option Nat) (i : Nat) (x : α) (hx : x ≠ d i)
    (hi : Tab.above lo i = true) (w : Tab.wfFrom d lo t = true) :
    Tab.wfFrom d lo (Tab.insert x t i) = true := by
  induction t generalizing lo with
  | nil => simp [Tab.insert, Tab.wfFrom_cons, Tab.wfFrom, hi, hx]
  | cons kv t ih =>
    obtain ⟨k, v⟩ := kv
    rw [Tab.wfFrom_cons, Bool.and_eq_true, Bool.and_eq_true] at w
    by_cases hk : i = k
    · subst hk
      simp [Tab.insert, Tab.wfFrom_cons, hi, hx, w.2]
    · by_cases hlt : i < k
      · simp only [Tab.insert, hk, hlt, if_true, if_false, Tab.wfFrom_cons, Bool.and_eq_true]
        exact ⟨⟨hi, by simpa using hx⟩, ⟨by simpa [Tab.above] using hlt, w.1.2⟩, w.2⟩
      · simp only [Tab.insert, hk, hlt, if_false, Tab.wfFrom_cons, Bool.and_eq_true]
        exact ⟨w.1, ih (some k) (by simp only [Tab.above, decide_eq_true_eq]; omega) w.2⟩

/-- Every write keeps the canonical form. -/
theorem Tab.wf_set (d : Nat → α) (t : Tab α) (i : Nat) (x : α) (w : Tab.wf d t = true) :
    Tab.wf d (Tab.set (d i) t i x) = true := by
  unfold Tab.set Tab.wf
  by_cases hx : x = d i
  · simp only [hx, if_true]; exact Tab.wfFrom_filter d _ t none w
  · simp only [hx, if_false]
    exact Tab.wfFrom_insert d t none i x hx rfl w

/-- So does a write of many keys. -/
theorem Tab.wf_setAll (d : α) (ks : List Nat) (x : α) (t : Tab α) (w : Tab.wf (fun _ => d) t = true) :
    Tab.wf (fun _ => d) (Tab.setAll d t ks x) = true := by
  unfold Tab.setAll
  induction ks generalizing t with
  | nil => exact w
  | cons k ks ih => exact ih _ (Tab.wf_set (fun _ => d) t k x w)

/-- The keys of a canonical table rise strictly. -/
theorem Tab.keys_above (d : Nat → α) (t : Tab α) (l : Nat) (w : Tab.wfFrom d (some l) t = true) :
    ∀ kv ∈ t, l < kv.1 := by
  induction t generalizing l with
  | nil => intro kv h; cases h
  | cons kv t ih =>
    intro x hx
    simp only [Tab.wfFrom, Bool.and_eq_true, decide_eq_true_eq] at w
    cases hx with
    | head => exact w.1.1
    | tail _ h => exact Nat.lt_trans w.1.1 (ih _ w.2 x h)

end Sys2Proof.Machine
end

