-- ==== Sys2Proof/Laws/Ops.lean ====
section
/-! SUPPORT. What the named operations over registers, units and time give back. -/

namespace Sys2Proof.Machine

/-! ## Bit fields -/

theorem bits_lt (v lo w : Nat) : bits v lo w < 2 ^ w := Nat.mod_lt _ (Nat.two_pow_pos w)

theorem bits_mod (v lo w n : Nat) (h : lo + w ≤ n) : bits (v % 2 ^ n) lo w = bits v lo w := by
  unfold bits
  obtain ⟨k, rfl⟩ := Nat.exists_eq_add_of_le h
  rw [Nat.pow_add, Nat.pow_add, Nat.mul_assoc, Nat.mod_mul_right_div_self, Nat.mod_mul_right_mod]

/-- The bits below, of and above a field. -/
theorem split_bits (v lo w : Nat) :
    v = v % 2 ^ lo + bits v lo w * 2 ^ lo + v / 2 ^ (lo + w) * 2 ^ (lo + w) := by
  unfold bits
  have h1 := Nat.div_add_mod v (2 ^ lo)
  have h2 := Nat.div_add_mod (v / 2 ^ lo) (2 ^ w)
  rw [Nat.div_div_eq_div_mul, ← Nat.pow_add] at h2
  have h3 : 2 ^ lo * (2 ^ w * (v / 2 ^ (lo + w)) + v / 2 ^ lo % 2 ^ w) + v % 2 ^ lo = v := by rw [h2]; exact h1
  rw [Nat.mul_add, ← Nat.mul_assoc, ← Nat.pow_add] at h3
  rw [Nat.mul_comm (v / 2 ^ lo % 2 ^ w), Nat.mul_comm (v / 2 ^ (lo + w))]
  omega

theorem setBits_eq (v lo w x : Nat) :
    setBits v lo w x = v % 2 ^ lo + (x % 2 ^ w) * 2 ^ lo + v / 2 ^ (lo + w) * 2 ^ (lo + w) := by
  have h := split_bits v lo w
  unfold setBits
  omega

/-- A field just written reads as the value's low bits. -/
theorem bits_setBits_same (v lo w x : Nat) : bits (setBits v lo w x) lo w = x % 2 ^ w := by
  rw [setBits_eq, bits, Nat.pow_add]
  have hp := Nat.two_pow_pos lo
  have e : v % 2 ^ lo + x % 2 ^ w * 2 ^ lo + v / (2 ^ lo * 2 ^ w) * (2 ^ lo * 2 ^ w)
      = v % 2 ^ lo + (x % 2 ^ w + 2 ^ w * (v / (2 ^ lo * 2 ^ w))) * 2 ^ lo := by
    rw [Nat.add_mul, Nat.add_assoc, Nat.mul_comm (v / (2 ^ lo * 2 ^ w)), Nat.mul_comm (2 ^ lo) (2 ^ w),
      Nat.mul_assoc (2 ^ w), Nat.mul_comm (2 ^ lo), ← Nat.mul_assoc (2 ^ w)]
  rw [e, Nat.add_mul_div_right _ _ hp, Nat.div_eq_of_lt (Nat.mod_lt _ hp), Nat.zero_add,
    Nat.add_mul_mod_self_left, Nat.mod_mod]

/-- A field apart from the one written keeps its value. -/
theorem bits_setBits_other (v lo w x lo' w' : Nat) (h : lo' + w' ≤ lo ∨ lo + w ≤ lo') :
    bits (setBits v lo w x) lo' w' = bits v lo' w' := by
  apply Nat.eq_of_testBit_eq
  intro i
  by_cases hi : i < w'
  · have key : ∀ j, (j < lo ∨ lo + w ≤ j) → (setBits v lo w x).testBit j = v.testBit j := by
      intro j hj
      rw [setBits_eq]
      cases hj with
      | inl hj =>
        have e : v % 2 ^ lo + x % 2 ^ w * 2 ^ lo + v / 2 ^ (lo + w) * 2 ^ (lo + w)
            = 2 ^ lo * (x % 2 ^ w + v / 2 ^ (lo + w) * 2 ^ w) + v % 2 ^ lo := by
          have e1 : v / 2 ^ (lo + w) * 2 ^ (lo + w) = 2 ^ lo * (v / 2 ^ (lo + w) * 2 ^ w) := by
            rw [Nat.mul_left_comm, ← Nat.pow_add]
          rw [e1, Nat.mul_add, Nat.mul_comm (2 ^ lo) (x % 2 ^ w)]
          omega
        rw [e, Nat.testBit_two_pow_mul_add _ (Nat.mod_lt _ (Nat.two_pow_pos lo)), if_pos hj, Nat.testBit_mod_two_pow]
        simp [hj]
      | inr hj =>
        have hlt : v % 2 ^ lo + x % 2 ^ w * 2 ^ lo < 2 ^ (lo + w) := by
          have a := Nat.mod_lt v (Nat.two_pow_pos lo)
          have b := Nat.mod_lt x (Nat.two_pow_pos w)
          have c : (x % 2 ^ w + 1) * 2 ^ lo ≤ 2 ^ w * 2 ^ lo := Nat.mul_le_mul_right _ b
          rw [Nat.add_mul, Nat.one_mul] at c
          rw [Nat.pow_add, Nat.mul_comm (2 ^ lo) (2 ^ w)]
          omega
        rw [Nat.add_comm, Nat.mul_comm, Nat.testBit_two_pow_mul_add _ hlt, if_neg (by omega), Nat.testBit_div_two_pow]
        congr 1; omega
    simp only [bits, Nat.testBit_mod_two_pow, Nat.testBit_div_two_pow, hi, decide_true, Bool.true_and]
    exact key _ (by omega)
  · simp [bits, Nat.testBit_mod_two_pow, hi]

/-! ## Registers -/

theorem State.reg_setReg (s : State) (a b : Nat) (v : U32) :
    (s.setReg a v).reg b = if b = a then v else s.reg b := by
  unfold State.reg State.setReg
  by_cases h : b = a
  · subst h; simp
  · simp [h, Tab.get_set_ne _ _ _ _ h]

@[simp] theorem State.reg_setReg_same (s : State) (a : Nat) (v : U32) : (s.setReg a v).reg a = v := by
  simp [State.reg_setReg]

theorem State.reg_setReg_ne (s : State) {a b : Nat} (v : U32) (h : b ≠ a) : (s.setReg a v).reg b = s.reg b := by
  simp [State.reg_setReg, h]

theorem State.reg_wr_ne (s : State) (f : Field) (v : Nat) {b : Nat} (h : b ≠ f.addr) : (s.wr f v).reg b = s.reg b :=
  State.reg_setReg_ne s _ h

/-- A register reads the same wherever the register file is the same. -/
theorem State.rd_congr {s t : State} (h : s.regs = t.regs) (f : Field) : s.rd f = t.rd f := by
  unfold State.rd State.reg; rw [h]

theorem State.reg_congr {s t : State} (h : s.regs = t.regs) (a : Nat) : s.reg a = t.reg a := by
  unfold State.reg; rw [h]

/-- A field just written reads as the value's low bits (R14). -/
theorem State.rd_wr_same (s : State) (f : Field) (v : Nat) (h : f.lo + f.w ≤ 32) : (s.wr f v).rd f = v % 2 ^ f.w := by
  unfold State.rd State.wr
  rw [State.reg_setReg_same, BitVec.toNat_ofNat, bits_mod _ _ _ _ h, bits_setBits_same]

/-- A field of another register, or of other bits, keeps its value. -/
theorem State.rd_wr_other (s : State) (f g : Field) (v : Nat) (hg : g.lo + g.w ≤ 32)
    (h : g.addr ≠ f.addr ∨ g.lo + g.w ≤ f.lo ∨ f.lo + f.w ≤ g.lo) : (s.wr f v).rd g = s.rd g := by
  unfold State.rd
  by_cases ha : g.addr = f.addr
  · rw [ha]
    unfold State.wr
    rw [State.reg_setReg_same, BitVec.toNat_ofNat, bits_mod _ _ _ _ hg,
      bits_setBits_other _ _ _ _ _ _ (by cases h with | inl h => exact absurd ha h | inr h => exact h)]
  · rw [State.reg_wr_ne s f v ha]

theorem State.rd_lt (s : State) (f : Field) : s.rd f < 2 ^ f.w := bits_lt _ _ _

/-- A counter counts, or stays at its largest value (R21). -/
theorem State.rd_count (s : State) (f : Field) (n : Nat) (h : f.lo + f.w ≤ 32) :
    (s.count f n).rd f = min (2 ^ f.w - 1) (s.rd f + n) := by
  unfold State.count
  rw [State.rd_wr_same _ _ _ h, Nat.mod_eq_of_lt]
  have := Nat.two_pow_pos f.w
  omega

theorem State.rd_count_other (s : State) (f g : Field) (n : Nat) (hg : g.lo + g.w ≤ 32)
    (h : g.addr ≠ f.addr ∨ g.lo + g.w ≤ f.lo ∨ f.lo + f.w ≤ g.lo) : (s.count f n).rd g = s.rd g :=
  State.rd_wr_other s f g _ hg h

theorem State.rd_flag_other (s : State) (f g : Field) (hg : g.lo + g.w ≤ 32)
    (h : g.addr ≠ f.addr ∨ g.lo + g.w ≤ f.lo ∨ f.lo + f.w ≤ g.lo) : (s.flag f).rd g = s.rd g :=
  State.rd_wr_other s f g 1 hg h

/-- An event bit that is set reads 1. -/
theorem State.rd_flag (s : State) (f : Field) (h : f.lo + f.w ≤ 32) (hw : 1 ≤ f.w) : (s.flag f).rd f = 1 := by
  unfold State.flag
  rw [State.rd_wr_same _ _ _ h, Nat.mod_eq_of_lt (Nat.one_lt_two_pow (by omega))]

/-- Until the next boundary the old value of a staged register stays in force (R12). -/
theorem State.effReg_stage (s : State) (a : Nat) (v : U32) : (s.stage a v).effReg a = s.effReg a := by
  simp [State.stage, State.effReg, State.setReg]

/-- A register written reads back as written, in force or not (R12). -/
theorem State.reg_stage (s : State) (a b : Nat) (v : U32) :
    (s.stage a v).reg b = if b = a then v else s.reg b := by
  have h := State.reg_setReg s a b v
  simpa [State.stage, State.reg] using h

/-! ## Units -/

@[simp] theorem State.port_setPort_same (s : State) (p : Nat) (x : PortSt) : (s.setPort p x).port p = x := by
  simp [State.setPort, State.port]

theorem State.port_setPort_ne (s : State) {p q : Nat} (x : PortSt) (h : q ≠ p) : (s.setPort p x).port q = s.port q := by
  simp [State.setPort, State.port, Tab.get_set_ne _ _ _ _ h]

@[simp] theorem State.chan_setChan_same (s : State) (c : Nat) (x : TchSt) : (s.setChan c x).chan c = x := by
  simp [State.setChan, State.chan]

theorem State.chan_setChan_ne (s : State) {c d : Nat} (x : TchSt) (h : d ≠ c) : (s.setChan c x).chan d = s.chan d := by
  simp [State.setChan, State.chan, Tab.get_set_ne _ _ _ _ h]

@[simp] theorem State.queue_setQueue_same (s : State) (q : Nat) (x : QueueSt) : (s.setQueue q x).queue q = x := by
  simp [State.setQueue, State.queue]

theorem State.queue_setQueue_ne (s : State) {q r : Nat} (x : QueueSt) (h : r ≠ q) :
    (s.setQueue q x).queue r = s.queue r := by
  simp [State.setQueue, State.queue, Tab.get_set_ne _ _ _ _ h]

@[simp] theorem State.core_setCore_same (s : State) (k : Nat) (x : CoreSt) : (s.setCore k x).core k = x := by
  simp [State.setCore, State.core]

theorem State.core_setCore_ne (s : State) {k m : Nat} (x : CoreSt) (h : m ≠ k) : (s.setCore k x).core m = s.core m := by
  simp [State.setCore, State.core, Tab.get_set_ne _ _ _ _ h]

@[simp] theorem State.engine_setEngine_same (s : State) (e : Nat) (x : EngineSt) : (s.setEngine e x).engine e = x := by
  simp [State.setEngine, State.engine]

@[simp] theorem State.lane_setLane_same (s : State) (l : Nat) (x : LaneSt) : (s.setLane l x).lane l = x := by
  simp [State.setLane, State.lane]

theorem State.lane_setLane_ne (s : State) {l m : Nat} (x : LaneSt) (h : m ≠ l) : (s.setLane l x).lane m = s.lane m := by
  simp [State.setLane, State.lane, Tab.get_set_ne _ _ _ _ h]

@[simp] theorem State.group_setGroup_same (s : State) (g : Nat) (x : GroupSt) : (s.setGroup g x).group g = x := by
  simp [State.setGroup, State.group]

theorem State.group_setGroup_ne (s : State) {g k : Nat} (x : GroupSt) (h : k ≠ g) :
    (s.setGroup g x).group k = s.group k := by
  simp [State.setGroup, State.group, Tab.get_set_ne _ _ _ _ h]

@[simp] theorem State.link_setLink_same (s : State) (i : Nat) (x : LinkSt) : (s.setLink i x).link i = x := by
  simp [State.setLink, State.link]

theorem State.link_setLink_ne (s : State) {i j : Nat} (x : LinkSt) (h : j ≠ i) : (s.setLink i x).link j = s.link j := by
  simp [State.setLink, State.link, Tab.get_set_ne _ _ _ _ h]

@[simp] theorem State.unit_setUnit_same (s : State) (h : Nat) (x : UnitSt) : (s.setUnit h x).unit h = x := by
  simp [State.setUnit, State.unit]

theorem State.unit_setUnit_ne (s : State) {h k : Nat} (x : UnitSt) (e : k ≠ h) : (s.setUnit h x).unit k = s.unit k := by
  simp [State.setUnit, State.unit, Tab.get_set_ne _ _ _ _ e]

@[simp] theorem State.writer_setWriter_same (s : State) (w : Nat) (x : WriterSt) : (s.setWriter w x).writer w = x := by
  simp [State.setWriter, State.writer]

/-! ## Time -/

/-- Device time never goes back, and reaches a later instant while it runs (R11, R52). -/
theorem State.now_advance (s : State) (t : Nat) :
    (s.advance t).now = if s.time.runs then max s.now t else s.now := by
  unfold State.advance State.now
  by_cases hr : s.time.runs <;> by_cases ht : s.time.d < t <;> simp [hr, ht] <;> omega

/-- Moving time changes nothing but device time. -/
theorem State.advance_eq (s : State) (t : Nat) : ∃ d, s.advance t = { s with time := { s.time with d := d } } := by
  unfold State.advance
  split
  · exact ⟨_, rfl⟩
  · exact ⟨s.time.d, rfl⟩

@[simp] theorem State.advance_regs (s : State) (t : Nat) : (s.advance t).regs = s.regs := by
  obtain ⟨d, h⟩ := s.advance_eq t; rw [h]

@[simp] theorem State.advance_reg (s : State) (t a : Nat) : (s.advance t).reg a = s.reg a := by
  simp [State.reg]

@[simp] theorem State.advance_rd (s : State) (t : Nat) (f : Field) : (s.advance t).rd f = s.rd f := by
  simp [State.rd]

end Sys2Proof.Machine
end

