-- ==== Sys2Proof/Laws/Access.lean ====
section
/-! SUPPORT. What a register write on a path and a directive's arrival come to. -/

namespace Sys2Proof.Machine

/-- A write that reaches its register is its meaning's, and an access error where that ignores it (R516, R524). -/
theorem State.writeAs_of_reaches (s : State) (p : Path) (a : Nat) (h : State → Status × State) (w : s.Reaches p a) :
    s.writeAs p a h =
      if (h s).1.recorded then ((h s).1, (h s).2.accErr p a (h s).1 true) else ((h s).1, (h s).2) := by
  have hn : (regAt a).isNone = false := by
    have := w.register
    cases e : regAt a <;> simp_all
  have hr : ¬(p = .ridge ∧ (s.rescue = true ∨ (!s.inBounds a 0) = true)) := by
    rintro ⟨e, o⟩
    have := w.ridge e
    simp_all
  have he : (s.inWarm && enableReg a) = false := by
    have := w.enable
    cases hi : s.inWarm <;> cases hh : enableReg a <;> simp_all
  unfold State.writeAs
  simp only [w.answered, hn, w.applied, he, Bool.not_true, Bool.false_eq_true, if_false, if_neg hr]

/-- A write that its meaning carries out. -/
theorem State.writeRow_of_reaches (s : State) (p : Path) (a : Nat) (h : State → Status × State) (w : s.Reaches p a)
    (d : (h s).1.recorded = false) : s.writeRow p a h = .next (h s).2 := by
  simp [State.writeRow, State.writeAs_of_reaches s p a h w, d]

theorem State.accepted_eq (s : State) (l : Lane) (tag target : BitVec 16) (g : Nat) :
    ∃ ts n, s.accepted l tag target g =
      ({ (s.rxFrameOn l).count RG_REQ.N with trans := ts } : State).wr RG_CTL_STAT.OUT n :=
  ⟨_, _, rfl⟩

/-- The arrival of a transaction touches no register but the lane's and the transaction counters. -/
theorem State.rd_accepted (s : State) (l : Lane) (tag target : BitVec 16) (g : Nat) (f : Field) (hf : f.lo + f.w ≤ 32)
    (h1 : f.addr ≠ Addr.RG_CTL_STAT) (h2 : f.addr ≠ Addr.RG_REQ) (h3 : f.addr ≠ Addr.RG_FRAMES_RX l)
    (h4 : f.addr ≠ Addr.RG_LANE_STAT l) : (s.accepted l tag target g).rd f = s.rd f := by
  obtain ⟨ts, n, e⟩ := s.accepted_eq l tag target g
  rw [e, State.rd_wr_other _ RG_CTL_STAT.OUT f n hf (.inl h1)]
  rw [State.rd_with_trans, State.rd_count_other _ RG_REQ.N f _ hf (.inl h2)]
  unfold State.rxFrameOn
  rw [State.rd_count_other _ (RG_FRAMES_RX.N l) f _ hf (.inl h3),
      State.rd_flag_other _ (RG_LANE_STAT.RX_LOCK l) f hf (.inl h4)]

/-- A register below the Ridge's blocks is not touched by a transaction's arrival. -/
theorem State.rd_accepted_low (s : State) (l : Lane) (tag target : BitVec 16) (g : Nat) (f : Field)
    (hf : f.lo + f.w ≤ 32) (h : f.addr < 0x700000) : (s.accepted l tag target g).rd f = s.rd f := by
  refine State.rd_accepted s l tag target g f hf ?_ ?_ ?_ ?_ <;>
    (intro e; rw [e] at h; revert h; simp only [Addr.RG_CTL_STAT, Addr.RG_REQ, Addr.RG_FRAMES_RX, Addr.RG_LANE_STAT]; omega)

/-- The lane's own registers and the request counter aside, nothing changes when a frame comes. -/
theorem State.rd_rx (s : State) (l : Lane) (f : Field) (hf : f.lo + f.w ≤ 32)
    (h2 : f.addr ≠ Addr.RG_REQ) (h3 : f.addr ≠ Addr.RG_FRAMES_RX l)
    (h4 : f.addr ≠ Addr.RG_LANE_STAT l) : ((s.rxFrameOn l).count RG_REQ.N).rd f = s.rd f := by
  rw [State.rd_count_other _ RG_REQ.N f _ hf (.inl h2)]
  unfold State.rxFrameOn
  rw [State.rd_count_other _ (RG_FRAMES_RX.N l) f _ hf (.inl h3),
      State.rd_flag_other _ (RG_LANE_STAT.RX_LOCK l) f hf (.inl h4)]

theorem State.laneGroup_rx (s : State) (l : Lane) (m : Nat) :
    ((s.rxFrameOn l).count RG_REQ.N).laneGroup m = s.laneGroup m := by
  unfold State.laneGroup
  refine congrFun (congrArg List.find? (funext fun g => ?_)) _
  have hl := l.isLt
  rw [State.rd_rx s l (RG_GRP_CTRL.LANES g) (by simp [RG_GRP_CTRL.LANES]), State.rd_rx s l (RG_GRP_SPARE.MASK g) (by simp [RG_GRP_SPARE.MASK])]
  all_goals
    simp only [RG_GRP_CTRL.LANES, RG_GRP_SPARE.MASK, Addr.RG_GRP_CTRL, Addr.RG_GRP_SPARE, Addr.RG_REQ, Addr.RG_FRAMES_RX,
      Addr.RG_LANE_STAT]
    omega

theorem State.rescue_rx (s : State) (l : Lane) : ((s.rxFrameOn l).count RG_REQ.N).rescue = s.rescue := by
  have hl := l.isLt
  unfold State.rescue
  rw [State.rd_rx s l BOOT_STAT.STAGE (by decide)]
  all_goals
    simp only [BOOT_STAT.STAGE, Addr.BOOT_STAT, Addr.RG_REQ, Addr.RG_FRAMES_RX, Addr.RG_LANE_STAT]
    omega

theorem State.rescue_accepted (s : State) (l : Lane) (tag target : BitVec 16) (g : Nat) :
    (s.accepted l tag target g).rescue = s.rescue := by
  unfold State.rescue
  rw [State.rd_accepted_low s l tag target g BOOT_STAT.STAGE (by decide) (by decide)]

theorem State.inWarm_accepted (s : State) (l : Lane) (tag target : BitVec 16) (g : Nat) :
    (s.accepted l tag target g).inWarm = s.inWarm := by
  unfold State.inWarm
  rw [State.rd_accepted_low s l tag target g BOOT_STAT.STAGE (by decide) (by decide)]

@[simp] theorem State.boot_accepted (s : State) (l : Lane) (tag target : BitVec 16) (g : Nat) :
    (s.accepted l tag target g).boot = s.boot := by
  obtain ⟨ts, n, e⟩ := s.accepted_eq l tag target g
  rw [e]; simp [State.rxFrameOn]

@[simp] theorem State.mg_accepted (s : State) (l : Lane) (tag target : BitVec 16) (g : Nat) :
    (s.accepted l tag target g).mg = s.mg := by
  obtain ⟨ts, n, e⟩ := s.accepted_eq l tag target g
  rw [e]; simp [State.rxFrameOn]

@[simp] theorem State.time_accepted (s : State) (l : Lane) (tag target : BitVec 16) (g : Nat) :
    (s.accepted l tag target g).time = s.time := by
  obtain ⟨ts, n, e⟩ := s.accepted_eq l tag target g
  rw [e]; simp [State.rxFrameOn]

@[simp] theorem State.ports_accepted (s : State) (l : Lane) (tag target : BitVec 16) (g : Nat) :
    (s.accepted l tag target g).ports = s.ports := by
  obtain ⟨ts, n, e⟩ := s.accepted_eq l tag target g
  rw [e]; simp [State.rxFrameOn]

/-- A transaction that the node accepts is executed here (R373). -/
theorem State.arrive_of_accepts (s : State) (l : Lane) (tag target : BitVec 16) (g : Nat) (ws : List Word)
    (h : s.Accepts l tag target g) :
    s.arrive l tag.toNat target.toNat ws = .here (.lanes g) (s.accepted l tag target g) := by
  have hl := l.isLt
  have htr : ((s.rxFrameOn l).count RG_REQ.N).trans = s.trans := by simp [State.rxFrameOn]
  have hmax : ((s.rxFrameOn l).count RG_REQ.N).rd RG_CTL_CFG.MAXOUT = s.rd RG_CTL_CFG.MAXOUT := by
    refine State.rd_rx s l _ (by decide) ?_ ?_ ?_ <;>
      (simp only [RG_CTL_CFG.MAXOUT, Addr.RG_CTL_CFG, Addr.RG_REQ, Addr.RG_FRAMES_RX, Addr.RG_LANE_STAT]; omega)
  have hid : ((s.rxFrameOn l).count RG_REQ.N).rd NODE_ID.ID = s.rd NODE_ID.ID := by
    refine State.rd_rx s l _ (by decide) ?_ ?_ ?_ <;>
      (simp only [NODE_ID.ID, Addr.NODE_ID, Addr.RG_REQ, Addr.RG_FRAMES_RX, Addr.RG_LANE_STAT]; omega)
  have hroom : ¬(s.rd RG_CTL_CFG.MAXOUT ≤ s.trans.length ∧ (!s.rescue) = true) := by
    rintro ⟨a, b⟩
    cases h.room with
    | inl x => omega
    | inr x => simp [x] at b
  have hhere : (target.toNat == 0xFFFF || target.toNat == s.rd NODE_ID.ID) = true := by
    cases h.here with
    | inl x => simp [x]
    | inr x => simp [x]
  unfold State.arrive State.accepted
  have hroom' : ¬(((s.rxFrameOn l).count RG_REQ.N).rd RG_CTL_CFG.MAXOUT
      ≤ ((s.rxFrameOn l).count RG_REQ.N).trans.length ∧ (!((s.rxFrameOn l).count RG_REQ.N).rescue) = true) := by
    rw [hmax, htr, State.rescue_rx]; exact hroom
  simp only [h.receives, Bool.not_true, Bool.false_eq_true, if_false, State.laneGroup_rx, h.group]
  rw [htr, h.fresh, if_neg (by simp), ← htr, if_neg hroom', hid, hhere, if_pos rfl]
  rfl

/-- A directive that its node takes is its meaning's, or BAD_REQUEST with a wrong number of arguments (R463). -/
theorem State.directive_of_takes (s : State) (code : Nat) (r : DirReq) (g : Nat) (argw : Nat → Bool)
    (body : Dir → State → State) (h : s.TakesDir code r g) :
    s.directive code r argw body =
      if argw r.args.length then body (carried r code g) (s.taken r g) else (s.taken r g).dirBad (carried r code g) := by
  unfold State.directive
  simp only [s.arrive_of_accepts r.lane r.tag r.target g _ h.arrives]
  unfold State.runDir carried
  have h1 : (s.taken r g).inWarm = false := by rw [State.inWarm_accepted]; exact h.notWarm
  have h2 : ¬(32 ≤ (s.taken r g).mg.dirs.length) := by rw [State.mg_accepted]; exact Nat.not_le.mpr h.core
  have h3 : (s.taken r g).dirAllowed code = true := by
    unfold State.dirAllowed; rw [State.rescue_accepted, State.boot_accepted]; exact h.allowed
  simp only [h1, Bool.false_eq_true, if_false, if_neg h2, h3, Bool.not_true]
  cases argw r.args.length <;> rfl

end Sys2Proof.Machine
end

