-- ==== Sys2Proof/Laws/Core.lean ====
section
/-! SUPPORT. The registers of a rafter core: what a write of one leaves in each. -/

namespace Sys2Proof.Machine

theorem CoreSt.reg_setReg (c : CoreSt) (d n : Nat) (v : U32) (h : d ≠ 0) :
    (c.setReg d v).reg n = if n = d then v else c.reg n := by
  simp only [CoreSt.reg, CoreSt.setReg, h, if_false]
  by_cases hn : n = 0
  · subst hn; simp [Ne.symm h]
  · simp only [hn, if_false]; exact Tab.get_set 0 v c.g d n

theorem CoreSt.csrAt_setCsr (c : CoreSt) (n m : Nat) (v : U32) :
    (c.setCsr n v).csrAt m = if m = n then v else c.csrAt m := by
  simp only [CoreSt.csrAt, CoreSt.setCsr]
  by_cases h : m = n
  · subst h; simp
  · simp only [h, if_false]; exact Tab.get_set_ne _ _ v c.csr h

@[simp] theorem CoreSt.setCsr_g (c : CoreSt) (n : Nat) (v : U32) : (c.setCsr n v).g = c.g := rfl
@[simp] theorem CoreSt.setCsr_pc (c : CoreSt) (n : Nat) (v : U32) : (c.setCsr n v).pc = c.pc := rfl
@[simp] theorem CoreSt.setCsr_exl (c : CoreSt) (n : Nat) (v : U32) : (c.setCsr n v).exl = c.exl := rfl
@[simp] theorem CoreSt.setCsr_slot (c : CoreSt) (n : Nat) (v : U32) : (c.setCsr n v).slot = c.slot := rfl
@[simp] theorem CoreSt.setCsr_imem (c : CoreSt) (n : Nat) (v : U32) : (c.setCsr n v).imem = c.imem := rfl
@[simp] theorem CoreSt.setCsr_dmem (c : CoreSt) (n : Nat) (v : U32) : (c.setCsr n v).dmem = c.dmem := rfl
@[simp] theorem CoreSt.setCsr_task (c : CoreSt) (n : Nat) (v : U32) : (c.setCsr n v).task = c.task := rfl

theorem CoreSt.setReg_frame (c : CoreSt) (d : Nat) (v : U32) : c.setReg d v = { c with g := (c.setReg d v).g } := by
  unfold CoreSt.setReg; split <;> rfl

theorem State.core_setCore (s : State) (k : Nat) (x : CoreSt) : (s.setCore k x).core k = x := by
  simp [State.core, State.setCore]

end Sys2Proof.Machine
end

