-- ==== Sys2Proof/Laws/Memory.lean ====
section
/-! SUPPORT. The addressed memories: a read after a write, that a write leaves every other place, and that every operation
on them keeps the canonical form. -/

namespace Sys2Proof.Machine

variable {α : Type} [DecidableEq α]

theorem Tab.wf_filter (d : Nat → α) (p : Nat × α → Bool) (t : Tab α) (w : Tab.wf d t = true) : Tab.wf d (t.filter p) = true :=
  Tab.wfFrom_filter d p t none w

/-- A fold of writes keeps the canonical form. -/
theorem Tab.wf_foldl {β : Type} (d : Nat → α) (key : β → Nat) (val : β → α) (xs : List β) (t : Tab α) (w : Tab.wf d t = true) :
    Tab.wf d (xs.foldl (fun m x => Tab.set (d (key x)) m (key x) (val x)) t) = true := by
  induction xs generalizing t with
  | nil => exact w
  | cons x xs ih => exact ih _ (Tab.wf_set d t (key x) (val x) w)

/-! ## Registers -/

theorem State.regs_wf_setReg (s : State) (a : Nat) (v : U32) (w : Tab.wf regReset s.regs = true) :
    Tab.wf regReset (s.setReg a v).regs = true := Tab.wf_set regReset s.regs a v w

theorem State.regs_wf_wr (s : State) (f : Field) (v : Nat) (w : Tab.wf regReset s.regs = true) :
    Tab.wf regReset (s.wr f v).regs = true := s.regs_wf_setReg f.addr _ w

/-! ## The store -/

theorem State.tword_setTWord (s : State) (a b : Nat) (x : Option TWord) :
    (s.setTWord a x).tword b = if b = a then x else s.tword b := by
  simp only [State.tword, State.setTWord]
  exact Tab.get_set none x s.th.words a b

theorem State.tword_storeWord (s : State) (a b : Nat) (d : Word) (p : Bool) :
    (s.storeWord a d p).tword b = if b = a then some ⟨d, p⟩ else s.tword b := s.tword_setTWord a b _

/-- A good word that is stored reads back. -/
theorem State.loadWord_storeWord (s : State) (a : Nat) (d : Word) : (s.storeWord a d).loadWord a = (d, false) := by
  simp [State.loadWord, State.tword_storeWord]

theorem State.loadWord_storeWord_ne (s : State) {a b : Nat} (d : Word) (p : Bool) (h : b ≠ a) :
    (s.storeWord a d p).loadWord b = s.loadWord b := by
  simp [State.loadWord, State.tword_storeWord, h]

theorem State.storeOk_setTWord (s : State) (a : Nat) (x : Option TWord) (w : s.storeOk = true) :
    (s.setTWord a x).storeOk = true := Tab.wf_set (fun _ => none) s.th.words a x w

theorem State.storeOk_storeWord (s : State) (a : Nat) (d : Word) (p : Bool) (w : s.storeOk = true) :
    (s.storeWord a d p).storeOk = true := s.storeOk_setTWord a _ w

theorem State.storeOk_recycle (s : State) (b : Nat) (w : s.storeOk = true) : (s.recycle b).storeOk = true :=
  Tab.wf_filter _ _ s.th.words w

/-! ## Local memories of the cores -/

theorem memByte_setMemByte (m : List Host.Cell) (a b v : Nat) :
    memByte (setMemByte m a v) b = if b = a then v % 256 else memByte m b := by
  simp only [memByte, setMemByte, Tab.get_set]
  split <;> simp

theorem wf_setMemByte (m : List Host.Cell) (a v : Nat) (w : Tab.wf (fun _ => (0 : BitVec 8)) m = true) :
    Tab.wf (fun _ => (0 : BitVec 8)) (setMemByte m a v) = true := Tab.wf_set (fun _ => 0) m a _ w

theorem wf_memStore (m : List Host.Cell) (a n v : Nat) (w : Tab.wf (fun _ => (0 : BitVec 8)) m = true) :
    Tab.wf (fun _ => (0 : BitVec 8)) (memStore m a n v) = true :=
  Tab.wf_foldl (fun _ => (0 : BitVec 8)) (fun i => a + i) (fun i => BitVec.ofNat 8 (v / 2 ^ (8 * i))) (List.range n) m w

/-! ## Image memories and ledger -/

theorem State.imgMem_setImgMem (s : State) (b : Bool) (m : List Host.Cell) : (s.setImgMem b m).imgMem b = m := by
  cases b <;> rfl

theorem State.imgMem_setImgMem_not (s : State) (b : Bool) (m : List Host.Cell) :
    (s.setImgMem b m).imgMem (!b) = s.imgMem (!b) := by cases b <;> rfl

theorem State.img_wf_eraseSector (s : State) (b : Bool) (n : Nat) (w : Tab.wf (fun _ => (0xFF : BitVec 8)) (s.imgMem b) = true) :
    Tab.wf (fun _ => (0xFF : BitVec 8)) ((s.eraseSector b n).imgMem b) = true := by
  rw [State.eraseSector, State.imgMem_setImgMem]; exact Tab.wf_filter _ _ _ w

theorem State.img_wf_programBytes (s : State) (b : Bool) (a : Nat) (bs : List Nat)
    (w : Tab.wf (fun _ => (0xFF : BitVec 8)) (s.imgMem b) = true) :
    Tab.wf (fun _ => (0xFF : BitVec 8)) ((s.programBytes b a bs).imgMem b) = true := by
  rw [State.programBytes, State.imgMem_setImgMem]
  exact Tab.wf_foldl (fun _ => (0xFF : BitVec 8)) (fun (x : Nat × Nat) => a + x.2) (fun x => BitVec.ofNat 8 x.1) bs.zipIdx _ w

theorem State.ledgerLine_setLedgerLine (s : State) (i j : Nat) (w : Word) :
    (s.setLedgerLine i w).ledgerLine j = if j = i then w else s.ledgerLine j := by
  simp only [State.ledgerLine, State.setLedgerLine]
  exact Tab.get_set 0 w s.mg.ledger i j

theorem State.ledger_wf_setLedgerLine (s : State) (i : Nat) (x : Word) (w : Tab.wf (fun _ => (0 : Word)) s.mg.ledger = true) :
    Tab.wf (fun _ => (0 : Word)) (s.setLedgerLine i x).mg.ledger = true := Tab.wf_set (fun _ => 0) s.mg.ledger i x w

/-! ## Reset -/

/-- Every addressed memory of the reset state is canonical. -/
theorem memoryOk_reset : State.reset.memoryOk = true := by decide +kernel

end Sys2Proof.Machine
end

