-- ==== Sys2Proof/WellFormed.lean ====
section
/-! DEFINITION. What a well-formed command is: the limits the spec sets on its operands beyond their types. exec is
total on ill-formed commands too. -/

namespace Sys2Proof

/-- No number twice. -/
def distinct {n : Nat} : List (Fin n) → Bool
  | [] => true
  | x :: xs => !(xs.contains x) && distinct xs

/-- A directive carries at most 16 argument words (R369). -/
def DirReq.wf (r : DirReq) : Bool := decide (r.args.length ≤ 16)

/-- A calibration gives each code of a source at most one current (R401). -/
def UnitCal.wf (u : UnitCal) : Bool := distinct (u.pA.map (·.1))

/-- A data frame of the Hip carries 1 to 512 words, and no fewer than its kind needs (R381). -/
def frameWords (ws : List Word) (least : Nat) : Bool := decide (least ≤ ws.length ∧ ws.length ≤ 512)

/-- The node ids of one routing announcement fill 1 to 512 words of eight (R381). -/
def announceIds (ids : List (BitVec 16)) : Bool := decide (1 ≤ ids.length ∧ ids.length ≤ 4096)

/-- The instruction-register codes that select something other than BYPASS (R543). -/
def selecting : List Nat := [0, 1, 2, 3, 4, 5, 0x20]

/-- A well-formed command. -/
def Instr.wf : Instr → Bool
  | .powerGoodRise _ => true
  | .powerGoodFall => true
  | .resetNAssert => true
  | .pllLock => true
  | .imageReadDone => true
  | .startupCalibrationDone chans units => distinct (chans.map (·.chan)) && distinct (units.map (·.unit)) && units.all UnitCal.wf
  | .runEntry => true
  | .runWrite _ data => data.getLsbD 0
  | .warmReset r => DirReq.wf r
  | .warmResetEnd => true
  | .unitReset r => DirReq.wf r
  | .thermalTrip _ => true
  | .nvmGraceEnd => true
  | .pfailAssert => true
  | .pfailRelease => true
  | .vexcLow => true
  | .courseBoundary => true
  | .dorlorFrame _ _ _ => true
  | .synLoss => true
  | .refLoss => true
  | .pllRelock => true
  | .flTriggerWord _ _ => true
  | .flSyncWord _ _ => true
  | .profileWord _ _ => true
  | .badTriggerWord _ => true
  | .triggerWordAct => true
  | .flTrgIdle => true
  | .flTrgLaunch => true
  | .hipAlignExchange => true
  | .timeProbeItem _ _ _ _ => true
  | .timeReplyItem _ _ _ _ _ => true
  | .tsetItem _ _ _ _ => true
  | .setTime r => DirReq.wf r
  | .flCompWrite _ _ => true
  | .timeLoRead _ _ => true
  | .tinTransition _ _ _ _ _ => true
  | .holdoffEnd _ => true
  | .tchWindowOpen _ => true
  | .tchWindowClose _ => true
  | .calPairDone _ _ _ _ => true
  | .idleCalibrationStart _ _ => true
  | .timesEntryTake _ => true
  | .timesRecordClose _ => true
  | .timingRecal r => DirReq.wf r
  | .recalGroupDone g chans => distinct (chans.map (·.chan)) && chans.all (fun x => x.chan.val / 8 == g.val)
  | .stStart _ _ _ => true
  | .stAbort _ _ _ => true
  | .selfTestDone _ _ _ => true
  | .tchEnWrite _ _ _ => true
  | .ev3Codeword _ corrected _ _ => decide (corrected ≤ 16)
  | .sampleFrame _ _ _ _ _ => true
  | .hitFrame _ _ _ _ _ => true
  | .replyFrame _ _ _ _ _ => true
  | .statusFrame _ _ _ _ _ => true
  | .trainFrame _ _ _ _ _ _ => true
  | .frameReduction _ => true
  | .evCourseClose _ => true
  | .holdRepeat _ => true
  | .trainingSend _ => true
  | .evTriggerCmd _ => true
  | .evCmdDrop _ => true
  | .feRead _ _ _ _ _ => true
  | .feWrite _ _ _ _ _ _ => true
  | .feRmw _ _ _ _ _ _ _ => true
  | .relayIssue _ => true
  | .relayTimeout _ => true
  | .evClockingDone _ => true
  | .evLock _ => true
  | .evAlignTimeout _ => true
  | .evTrainTimeout _ => true
  | .evSwapTimeout _ => true
  | .evLockLoss _ => true
  | .evAdmitTimeout _ => true
  | .evEnWrite _ _ _ => true
  | .evEqWrite _ _ _ _ => true
  | .evPatStart _ _ _ => true
  | .evPatStop _ _ _ => true
  | .evPatInjOne _ _ _ => true
  | .evPatBitsRead _ _ _ => true
  | .clusterClose _ => true
  | .primFrameLaunch => true
  | .primDeadline _ => true
  | .hipPrimItem _ _ _ _ _ => true
  | .hipDecItem _ _ _ _ => true
  | .trigger r => DirReq.wf r
  | .autoTrigger _ => true
  | .triggerAccept => true
  | .triggerAct => true
  | .markWrite _ => true
  | .circWindowPush _ _ => true
  | .primsRecordClose _ => true
  | .bundleRecycle _ => true
  | .fifoPush _ _ _ => true
  | .fifoRead _ _ => true
  | .fifoMark _ => true
  | .fifoRewind _ => true
  | .fifoRelease _ => true
  | .arbiterWindow => true
  | .starvation _ _ => true
  | .bankRead _ _ _ => true
  | .thWeightWrite _ _ _ _ => true
  | .windowRead _ _ _ _ => true
  | .windowWrite _ _ _ _ => true
  | .thScrubStart _ _ => true
  | .thScrubAbort _ _ => true
  | .scrub r => DirReq.wf r
  | .scrubPassDone => true
  | .thMigStart _ _ => true
  | .bankMigrate r => DirReq.wf r
  | .migrationDone => true
  | .lockBreak _ => true
  | .queueWaitTimeout _ => true
  | .dispatch _ => true
  | .lendOffer _ => true
  | .lendAccept _ => true
  | .qgroupEnWrite _ _ _ => true
  | .drainTimeout _ => true
  | .pdFlagSet _ _ _ => true
  | .pdCoreTasksRead _ _ _ => true
  | .add _ _ _ _ => true
  | .sub _ _ _ _ => true
  | .addc _ _ _ _ => true
  | .subc _ _ _ _ => true
  | .andR _ _ _ _ => true
  | .orR _ _ _ _ => true
  | .xorR _ _ _ _ => true
  | .sll _ _ _ _ => true
  | .srl _ _ _ _ => true
  | .sra _ _ _ _ => true
  | .slt _ _ _ _ => true
  | .sltu _ _ _ _ => true
  | .mul _ _ _ _ => true
  | .mulhs _ _ _ _ => true
  | .mulhu _ _ _ _ => true
  | .minR _ _ _ _ => true
  | .maxR _ _ _ _ => true
  | .absd _ _ _ _ => true
  | .clz _ _ _ => true
  | .jr _ _ => true
  | .jalr _ _ _ => true
  | .addi _ _ _ _ => true
  | .andi _ _ _ _ => true
  | .ori _ _ _ _ => true
  | .xori _ _ _ _ => true
  | .slli _ _ _ _ => true
  | .srli _ _ _ _ => true
  | .srai _ _ _ _ => true
  | .slti _ _ _ _ => true
  | .sltiu _ _ _ _ => true
  | .lui _ _ _ => true
  | .ldw _ _ _ _ => true
  | .ldh _ _ _ _ => true
  | .ldhu _ _ _ _ => true
  | .ldb _ _ _ _ => true
  | .ldbu _ _ _ _ => true
  | .ldq _ _ _ _ => true
  | .stw _ _ _ _ => true
  | .sth _ _ _ _ => true
  | .stb _ _ _ _ => true
  | .stq _ _ _ _ => true
  | .beq _ _ _ _ => true
  | .bne _ _ _ _ => true
  | .blt _ _ _ _ => true
  | .bge _ _ _ _ => true
  | .bltu _ _ _ _ => true
  | .bgeu _ _ _ _ => true
  | .j _ _ => true
  | .jal _ _ => true
  | .loop _ _ _ _ _ => true
  | .mac _ _ _ _ => true
  | .msu _ _ _ _ => true
  | .macd _ _ _ _ => true
  | .macp _ _ _ => true
  | .aclr _ _ => true
  | .ald _ _ _ => true
  | .aadd _ _ _ _ => true
  | .asub _ _ _ _ => true
  | .ashr _ _ _ => true
  | .ashl _ _ _ => true
  | .mval _ _ _ => true
  | .mvah _ _ _ => true
  | .take _ _ => true
  | .doneT _ _ _ => true
  | .push _ _ _ => true
  | .alloc _ _ _ => true
  | .lock _ _ _ _ => true
  | .rls _ _ _ => true
  | .mfc _ _ _ => true
  | .mtc _ _ _ => true
  | .rete _ => true
  | .trap _ _ => true
  | .sync _ => true
  | .storeDrain _ => true
  | .imemScrub _ _ _ => true
  | .dbgHalt _ _ _ => true
  | .dbgResume _ _ _ => true
  | .dbgStep _ _ _ => true
  | .dbgForce _ _ _ => true
  | .dbgAccGo _ _ _ => true
  | .rcMemdAccess _ _ _ _ => true
  | .rcEnWrite _ _ _ => true
  | .coreRefresh r => DirReq.wf r
  | .coreProgramLoaded _ _ => true
  | .shingleBlockOpen _ => true
  | .shinglePassDone _ => true
  | .shingleContainerPush _ => true
  | .shFlush _ _ => true
  | .shEnWrite _ _ _ => true
  | .ctRead _ _ _ _ => true
  | .ctWrite _ _ _ _ _ => true
  | .ctRmw _ _ _ _ _ _ => true
  | .ctPing _ _ _ => true
  | .ackFrame _ _ _ => true
  | .resendFrame _ _ _ _ => true
  | .beStatusFrame _ _ => true
  | .ackTimeout _ => true
  | .statusSend _ => true
  | .recordSend _ => true
  | .responseSend _ => true
  | .laneReady _ => true
  | .laneTrainTimeout _ => true
  | .laneFail _ _ => true
  | .laneSpare r => DirReq.wf r
  | .laneReturn r => DirReq.wf r
  | .rgLaneEnWrite _ _ _ => true
  | .rgGrpEnWrite _ _ _ => true
  | .hipLock _ => true
  | .helloItem _ _ => true
  | .helloSend _ => true
  | .hipNeighbourLoss _ _ => true
  | .hipSlip _ => true
  | .creditItem _ _ => true
  | .hipRecordFrame _ _ words => frameWords words 1
  | .hipRequestFrame _ _ words => frameWords words 2
  | .hipResponseFrame _ _ words => frameWords words 2
  | .announceFrame _ ids => announceIds ids
  | .withdrawFrame _ ids => announceIds ids
  | .fwdAckFrame _ _ _ _ => true
  | .hipItemForward _ => true
  | .remoteTimeout _ _ => true
  | .hipEnWrite _ _ _ => true
  | .gaugeDue _ _ => true
  | .gaugeJobStart _ => true
  | .gaugePhaseEnd _ _ => true
  | .gaugeConversionDone _ _ _ => true
  | .gaugeJobEnd _ _ _ => true
  | .gaugeExcFault _ _ => true
  | .gaugeDiagEnd _ _ _ => true
  | .gaUrgentGo _ _ _ => true
  | .gaugeUrgent r => DirReq.wf r
  | .gaugeTwarnCross _ _ => true
  | .sliceCalDone _ _ _ => true
  | .sliceRotation _ => true
  | .gaFullcalStart _ _ _ => true
  | .gaugeCal r => DirReq.wf r
  | .gaugeFullcalDone u => UnitCal.wf u
  | .gaugeRecordClose _ => true
  | .gaEnWrite _ _ _ => true
  | .gaInputEnWrite _ _ _ _ => true
  | .profile r => DirReq.wf r
  | .profileSchedule _ => true
  | .profEnWrite _ _ => true
  | .trgSrcEnWrite _ _ => true
  | .consistencyCheckDone => true
  | .admitUnit r => DirReq.wf r
  | .retire r => DirReq.wf r
  | .linkRetrain r => DirReq.wf r
  | .ledgerCompact r => DirReq.wf r
  | .dump r => DirReq.wf r
  | .dumpDone => true
  | .maintAbort r => DirReq.wf r
  | .tenureMove r => DirReq.wf r
  | .relayOpen r => DirReq.wf r
  | .relayWrite r => DirReq.wf r
  | .relayPageDone _ => true
  | .relayClose r => DirReq.wf r
  | .relayCancel r => DirReq.wf r
  | .relayIdleTimeout => true
  | .mcHeartbeat _ => true
  | .heartbeatSilence _ => true
  | .tnReq _ _ => true
  | .tnGrant _ _ => true
  | .tenureReqTimeout => true
  | .tenureDispute _ => true
  | .voterRepair addr _ => decide (addr.toNat % 4 = 0)
  | .mcDeferral _ level => decide (level.val ≠ 0)
  | .ledgerCommit => true
  | .maintSchedule _ => true
  | .mgPatchApply _ _ => true
  | .mgPatchDWrite _ _ => true
  | .registerWrite _ addr _ => decide (addr.toNat % 4 = 0)
  | .rcCounterRead _ addr => decide (addr.toNat % 4 = 0)
  | .lgCntLoRead _ _ => true
  | .tapReset => true
  | .extest => true
  | .samplePreload => true
  | .extestPulse => true
  | .extestTrain => true
  | .clamp => true
  | .highz => true
  | .bypass ir => !(selecting.contains ir.toNat)
  | .dbgReg => true
  | .dbgRegUpdate _ => true
  | .resetNRelease _ => true
  | .vexcReturn => true
  | .flTrgActive => true
  | .linkRetrainTimeout _ => true
  | .ledgerRecordWritten => true
  | .relayVerified _ => true
  | .relayEraseDone => true
  | .rgBadRx _ => true
  | .badRequest _ _ args => decide (args.length ≤ 16)
  | .illegalInstruction _ _ => true
  | .rxLockLoss _ => true

end Sys2Proof
end

