-- ==== Sys2Proof/Tests/Slice0.lean ====
section
/-! SUPPORT. Tests: small checks against the spec's own examples, and for each statement with hypotheses a state that
meets them (`witness_<statement>`, clause by clause). -/

namespace Sys2Proof.Tests

open Sys2Proof.Machine

set_option Elab.async false

/-! ## States to start from -/

/-- A state with some registers set. -/
def put (s : State) (rs : List (Nat × Nat)) : State := rs.foldl (fun s r => s.setReg r.1 (BitVec.ofNat 32 r.2)) s

/-- Registers are answered and the image is applied. -/
def live : State := { State.reset with pins := { answered := true, applied := true } }

/-- In RUN, with device time running. -/
def inRun : State := { put live [(Addr.BOOT_STAT, 9), (Addr.GLOBAL_CTRL, 1)] with time := { runs := true } }

/-- In a warm reset. -/
def inWarmReset : State := put inRun [(Addr.BOOT_STAT, 11)]

/-- Lane 0 is ACTIVE in group 0, and every directive is allowed. -/
def heard : State :=
  { put inRun [(Addr.RG_LANE_STAT 0, 3), (Addr.RG_GRP_CTRL 0, 0x10001), (Addr.RG_CTL_CFG, 256)] with
    boot := { dirMask := BitVec.ofNat _ 0x1FFFFFF } }

/-- A directive that comes on lane 0 for this node. -/
def req (data : U32) (args : List Word) : DirReq := ⟨0, 1, 0xFFFF, data, args⟩

/-- What `State.TakesDir` asks, as a truth value. -/
def takesB (s : State) (code : Nat) (r : DirReq) (g : Nat) : Bool :=
  s.rxDecodes r.lane && s.laneGroup r.lane == some g && !(s.trans.any fun t => t.tag == r.tag.toNat && t.group == g) &&
  (decide (s.trans.length < s.rd RG_CTL_CFG.MAXOUT) || s.rescue) &&
  (r.target == 0xFFFF || decide (r.target.toNat = s.rd NODE_ID.ID)) && !s.inWarm && decide (s.mg.dirs.length < 32) &&
  s.dirAllowed code

theorem takes_of {s : State} {code : Nat} {r : DirReq} {g : Nat} (h : takesB s code r g = true) : s.TakesDir code r g := by
  simp only [takesB, Bool.and_eq_true, Bool.or_eq_true, Bool.not_eq_true', decide_eq_true_eq, beq_iff_eq] at h
  obtain ⟨⟨⟨⟨⟨⟨⟨h1, h2⟩, h3⟩, h4⟩, h5⟩, h6⟩, h7⟩, h8⟩ := h
  exact ⟨⟨h1, h2, h3, h4, h5⟩, h6, h7, h8⟩

/-- What `State.Reaches` asks, as a truth value. -/
def reachesB (s : State) (p : Path) (a : Nat) : Bool :=
  s.pins.answered && s.pins.applied && (regAt a).isSome && (p != .ridge || (!s.rescue && s.inBounds a 0)) &&
  !(s.inWarm && enableReg a)

theorem reaches_of {s : State} {p : Path} {a : Nat} (h : reachesB s p a = true) : s.Reaches p a := by
  simp only [reachesB, Bool.and_eq_true, Bool.or_eq_true, Bool.not_eq_true', bne_iff_ne, ne_eq] at h
  obtain ⟨⟨⟨⟨h1, h2⟩, h3⟩, h4⟩, h5⟩ := h
  refine ⟨h1, h2, h3, fun e => ?_, ?_⟩
  · rcases h4 with h | h
    · exact absurd e h
    · exact h
  · cases hw : s.inWarm <;> simp_all


/-! ## The queue, reset and power -/

theorem witness_StepRunsFrontCommand : ∃ (s : State) (c : Instr) (rest : List Instr), s.pending = c :: rest :=
  ⟨{ State.reset with pending := [.pllLock] }, .pllLock, [], rfl⟩

theorem witness_IdleAndEveryStepGoesOn : inRun.pending = [] ∧ inRun.time.runs = true := by decide +kernel

theorem witness_PowerResetPinsAndThermalTrip :
    (let s := { State.reset with pins := { powerGood := false } }
     s.pins.powerGood = false ∧ s.pins.resetLow = false) ∧
    (let s := { live with pins := { powerGood := true } }
     s.pins.powerGood = true ∧ s.pins.resetLow = false) ∧
    (let s := { live with pins := { powerGood := true, resetLow := true } }
     s.pins.resetLow = true ∧ s.pins.powerGood = true) ∧
    (let s := put { live with pins := { powerGood := true } } [(Addr.LG_STAT, 1)]
     s.pins.powerGood = true ∧ s.pins.thermTrip = false ∧ s.pins.resetLow = false ∧ s.rd LG_STAT.VALID = 1 ∧
     s.mg.writing = none) ∧
    (let s := { live with mg := { grace := true } }
     s.mg.grace = true) := by decide +kernel

theorem witness_SupplyWarningsAct :
    (live.pins.pfailLow = false ∧ live.rd LG_STAT.VALID = 0) ∧
    (let s := put live [(Addr.LG_STAT, 1)]
     s.pins.pfailLow = false ∧ s.rd LG_STAT.VALID = 1) ∧
    (let s := { live with pins := { pfailLow := true } }
     s.pins.pfailLow = true) ∧
    (live.excitedJobs 0 = [] ∧ live.excitedJobs 1 = []) := by decide +kernel

/-! ## Start-up, CONFIG and RUN -/

theorem witness_StartupStepsInOrder :
    (State.reset.released = true ∧ State.reset.pins.refOk = true ∧ State.reset.time.runs = false ∧
      State.reset.rd BOOT_STAT.STAGE = 0) ∧
    (let s := put live [(Addr.BOOT_STAT, 3)]
     s.rd BOOT_STAT.STAGE = 3 ∧ (s.copyImage false).toOption.isNone = true ∧ (s.copyImage true).toOption.isNone = true) ∧
    (put live [(Addr.BOOT_STAT, 6)]).rd BOOT_STAT.STAGE = 6 ∧
    (let s := put live [(Addr.BOOT_STAT, 7)]
     s.rd BOOT_STAT.STAGE = 7 ∧ s.timeReady = false) := by decide +kernel

theorem witness_RunIsEntered :
    (let s := put live [(Addr.BOOT_STAT, 7), (Addr.TIME_CFG, 2)]
     s.rd BOOT_STAT.STAGE = 7 ∧ s.timeReady = true) ∧
    (reachesB (put live [(Addr.BOOT_STAT, 8)]) .soffit Addr.GLOBAL_CTRL = true ∧
      (put live [(Addr.BOOT_STAT, 8)]).rd BOOT_STAT.STAGE = 8) ∧
    (let s := put live [(Addr.BOOT_STAT, 7)]
     reachesB s .soffit Addr.GLOBAL_CTRL = true ∧ s.rd BOOT_STAT.STAGE ≠ 8) := by decide +kernel

/-! ## Device time and the flashing bus -/

theorem witness_CourseBoundaryCountsTheCourse :
    (inWarmReset.running = true ∧ inWarmReset.time.runs = true ∧ inWarmReset.inWarm = true) ∧
    (inRun.running = true ∧ inRun.time.runs = true ∧ inRun.inWarm = false ∧ inRun.mg.fatalDue = none ∧ inRun.staged = [] ∧
      inRun.boot.pendProf = none ∧ inRun.time.switch = none ∧ inRun.time.causes = 0 ∧
      coarseWrap inRun.time.courseAt (inRun.boundaryFrom (inRun.time.courseAt + 1)) = false) := by decide +kernel

theorem witness_DorlorFramesAndHoldover :
    (inRun.time.runs = true ∧ dorlorValid false 0 = false) ∧
    (dorlorValid true 0xA907000000000000EEA8 = true ∧ dorlorField 0xA907000000000000EEA8 116 4 ≠ 1) ∧
    (put inRun [(Addr.TIME_STAT, 4)]).rd TIME_STAT.SYN_LOCK = 1 ∧
    (inRun.pins.refOk = true ∧ { inRun with pins := { refOk := false } }.pins.refOk = false) := by decide +kernel

/-- R68's layout, each word with its check. -/
theorem witness_TriggerLineIsReadAndDriven :
    trgKind 0x10000000 = .bad ∧ trgKind 0x20000558 = .sync ∧ trgKind 0x141234F8 = .trigger ∧ trgKind 0x31000591 = .profile ∧
    inRun.rd TIME_CFG.FL_PROFILE = 0 ∧
    (let x : TrgWord := { kind := 2, cls := 0, id := 5, dAct := 0, actAt := 0 }
     let s := { inRun with time := { runs := true, words := [x] } }
     s.nextWord = some x ∧ x.kind = 2) ∧
    (let s := { put inRun [(Addr.TIME_CFG, 0x20)] with time := { runs := true, driver := [(4, 9, 0)] } }
     s.rd TIME_CFG.FL_DRIVER = 1 ∧ s.time.driver = (4, 9, 0) :: []) := by decide +kernel

theorem witness_HipAlignmentExchanges :
    (let s := { put inRun [(Addr.TIME_CFG, 1), (Addr.HIP_STAT 0, 2), (Addr.TIME_STAT, 8), (Addr.TREE_STAT, 0)] with
       time := { runs := true, probes := [(3, 100)] } }
     s.alignLink = some 0 ∧ s.linkUp 0 = true ∧ s.rd TIME_STAT.ALIGNED = 1 ∧
     (s.time.probes.find? fun p => p.1 == 3) = some (3, 100) ∧ s.time.exch.length < 255 ∧
     s.now ≤ s.deviceOf 1000 ∧ toSigned 64 5 ≠ 0) := by decide +kernel

theorem witness_TimeRegistersAndSetTime :
    (takesB heard 0x02 (req 0 [0]) 0 = true ∧ heard.rd TIME_CFG.SOURCE ≠ 2) ∧
    (takesB (put heard [(Addr.TIME_CFG, 2)]) 0x02 (req 0 [0]) 0 = true ∧
      (put heard [(Addr.TIME_CFG, 2)]).rd TIME_CFG.SOURCE = 2) ∧
    (reachesB inRun .soffit Addr.FL_COMP = true ∧ inRun.running = true ∧ inRun.rd TIME_CFG.SOURCE = 0) ∧
    inRun.pins.answered = true := by decide +kernel

/-! ## Timing channels -/

/-- Queue `q` is in service, with room for 64 descriptors. -/
def openQueue (q : Nat) (s : State) : State :=
  ((s.setReg (Addr.PQ_LIM q) 64).setReg (Addr.PD_QGEN (q / 64)) 1).setQueue q { s.queue q with admitted := true }

/-- Channel 0 in service for both edges, its records on queue 9,216. -/
def timing (c : TchSt) : State :=
  (openQueue 9216 (put inRun [(Addr.TCH_CTRL 0, 5), (Addr.TCH_QUEUE 0, 9216)])).setChan 0 { c with admitted := true }

/-- Course 0 of epoch 0, open. -/
def course0 : TchCourse := { course := 0, epoch := 0, dCourse := 0 }

theorem witness_TransitionsAndHoldoffEndsMakeEntries :
    (let u := ((timing {}).advance ((timing {}).unwrap 0)).wr (TCH_STAT.LEVEL 0) 1 |>.wr TGATE_LVL.LVL 0
     u.rd (TCH_CTRL.EN 0) = 1 ∧ captures (u.rd (TCH_CTRL.EDGE 0)) true = true ∧ u.judge 0 0 0 = .accepted) ∧
    (let s := put (timing {}) [(Addr.TCH_CTRL 0, 0x15)]
     s.rd (TCH_CTRL.EN 0) = 1 ∧ captures (s.rd (TCH_CTRL.EDGE 0)) false = true ∧ s.judge 0 0 0 = .disarmed) ∧
    (let s := (timing {}).setChan 0 {}
     s.rd (TCH_CTRL.EN 0) = 1 ∧ s.judge 0 0 0 = .outOfService) ∧
    (let s := put (timing { lastTick := 11, lastLevel := true }) [(Addr.TCH_HOLD 0, 20)]
     let k := (s.chan 0).lastTick - 1 + s.eff (TCH_HOLD.TC 0)
     let u := s.advance (k * tcTf)
     k = 30 ∧ s.rd (TCH_CTRL.EN 0) = 1 ∧ s.rd (TCH_CTRL.EDGE 0) = 2 ∧ (s.chan 0).lastTick ≠ 0 ∧ s.now ≤ k * tcTf ∧
     u.on (TCH_STAT.LEVEL 0) ≠ (s.chan 0).lastLevel ∧ u.judge 0 k (u.rd TGATE_LVL.LVL) = .accepted) := by decide +kernel

theorem witness_TriggerWindowsOpenAndClose :
    (let s := timing { windows := [(1024, 4096, false)] }
     (s.chan 0).nextWindow = some (1024, 4096, false)) ∧
    (let s := timing { openUntil := some 4096 }
     (s.chan 0).openUntil = some 4096) := by decide +kernel

/-- The limits of R93 at their edges: g = 900 and 1,300, off = 0 and 600; 899 fails. -/
theorem witness_CalibrationPairsAndRecalibration :
    (let s := timing { i0 := { calibrating := true } }
     ((s.chan 0).interp 0).calibrating = true ∧ 900 ≤ 1800 - 900 ∧ 1800 - 900 ≤ 1300 ∧ 1800 ≤ 2 * 900 ∧
     2 * 900 - 1800 ≤ 600 ∧ 3200 - 1900 ≤ 1300 ∧ 2 * 1900 - 3200 ≤ 600 ∧ 1799 < 900 + 900 ∧
     ((s.chan 0).interp 0).fails ≠ 2) ∧
    (let s := timing {}
     s.chanInService 0 = true ∧ s.rd (faultBit 0 0) = 0 ∧ ((s.chan 0).interp 0).calibrating = false ∧
     ((s.chan 0).interp (1 - 0)).calibrating = false) ∧
    (takesB heard 0x0A (req 11 []) 0 = true ∧
     ∃ id u, (heard.taken (req 11 []) 0).register 6 [(2, 11, 11)] deviceWide = (.id id, u)) ∧
    (let a : Activity := { slot := 0, code := 6, id := 0x6001, res := [(2, 0, 0)], todo := [0] }
     let s := { inRun with mg := { acts := [a] }, tch := (groupChans 0).map fun c => (c, { oosAt := some 0 }) }
     (s.mg.acts.find? fun a => a.code == 6 && a.todo.contains 0) = some a ∧
     ((groupChans 0).all fun c => (s.chan c).oosAt.isSome) = true) := by
  refine ⟨by decide +kernel, by decide +kernel, ⟨by decide +kernel, _, _, rfl⟩, by decide +kernel⟩

theorem witness_TimesEntriesAndRecords :
    (let e : TimeEntry := { ts := 100, flags := 1, loss := 0 }
     let s := timing { buf := [e], courses := [course0] }
     (s.chan 0).buf = e :: [] ∧ (s.chan 0).courses = [course0] ∧ (s.chan 0).lastTake = 0 ∧ s.chanRefuses 0 = false ∧
     courseLt (0, 0) (keyEpoch (s.keyAt 100), keyCourse (s.keyAt 100)) = false ∧ course0.entries.length < 4090) ∧
    (let r : TchCourse := { course0 with entries := [5] }
     let s := { timing { courses := [r] } with time := { runs := true, d := 2 ^ 24, courseAt := 2 ^ 24, epoch := { num := 0, startAt := 0, a := 0, n := 14 } } }
     (s.chan 0).courses = r :: [] ∧ r.entries ≠ [] ∧ s.keyOf r.epoch r.course < s.keyNow) ∧
    (let s := { timing { courses := [course0] } with time := { runs := true, d := 2 ^ 24, courseAt := 2 ^ 24, epoch := { num := 0, startAt := 0, a := 0, n := 14 } } }
     (s.chan 0).courses = [course0] ∧ (s.chan 0).buf = [] ∧ s.timesWanted 0 course0 = false ∧
     s.keyOf 0 0 < s.keyNow) := by decide +kernel

theorem witness_SelfTestRunsAndReports :
    (let s := put (timing {}) [(Addr.TCH_CTRL 0, 0)]
     reachesB s .soffit (Addr.ST_CTRL 0) = true ∧ 16 ≤ bits 0x8101 4 7 ∧ 8 ≤ bits 0x8101 12 4 ∧ bitAt 0x8101 0 = true ∧
     bitAt 0x8101 1 = false ∧ s.rd (TCH_CTRL.EN 0) = 0 ∧ s.rd (ST_STAT.BUSY 0) = 0) ∧
    (let s := put (timing {}) [(Addr.ST_STAT 0, 1)]
     reachesB s .soffit (Addr.ST_CTRL 0) = true ∧ bitAt 0x8102 0 = false ∧ bitAt 0x8102 1 = true ∧
     s.rd (ST_STAT.BUSY 0) = 1) := by decide +kernel

/-! ## Eave links -/

/-- Port 37 in a state of R134. -/
def port (st : Nat) (x : PortSt := {}) : State := (put inRun [(Addr.EV_STAT 37, st), (Addr.EV_CTRL 37, 3)]).setPort 37 x

/-- A good TRAIN frame of R133: FE_ID 7 and ECHO 37, valid. -/
def trainHdr : U64 := 5764607523067789312
/-- Its body. -/
def trainBody : List U64 := [1351079888211148807, 10876259779724624745]

theorem witness_EaveBringUpAndTrainFrames :
    (port 1).evState 37 = evClocking ∧
    ((port 2).evState 37 = evAlign ∧ ((port 2).port 37).alignFails ≠ 7) ∧
    ((port 2 { alignFails := 7 }).evState 37 = evAlign ∧ ((port 2 { alignFails := 7 }).port 37).alignFails = 7) ∧
    (port 3).evState 37 = evTrain ∧ (port 4).evState 37 = evSwapWait ∧
    frameGood trainHdr trainBody 0 true = false ∧
    (frameGood trainHdr trainBody 221 true = true ∧ hdrType trainHdr = 5 ∧ trainBody.getD 1 0 = trainPattern ∧
      bitAt (trainBody.headD 0).toNat 53 = false ∧ bitAt (trainBody.headD 0).toNat 54 = true ∧
      bits (trainBody.headD 0).toNat 55 9 = 37 ∧ ((port 3).port 37).goodTrain < 15) ∧
    (let s := port 3 { goodTrain := 15, echo := 37 }
     (s.port 37).goodTrain = 15 ∧ (s.port 37).echo = 37) := by decide +kernel

theorem accepts_of_takes {s : State} {code : Nat} {r : DirReq} {g : Nat} (h : takesB s code r g = true) :
    s.Accepts r.lane r.tag r.target g := (takes_of h).arrives

/-- A good SAMPLE frame of course 0, front-end tag 10, sequence number 1. -/
def sampleHdr : U64 := 1152921547573362688
/-- Its body. -/
def sampleBody : List U64 := [112591279187558500]

/-- Port 37 LINKED since D = 0, with the course 0 it was told, in RUN of epoch 0. -/
def linked (x : PortSt := {}) : State :=
  (port 5 { x with dcs := [(0, 0)], inFrom := some 0, warmed := true })

theorem witness_UplinkFramesAreJudgedAndHandedOver :
    (linked.evUp 37 = true ∧ frameGood sampleHdr sampleBody 211 true = false ∧
      frameGood 4611686018444230656 [7] 43 true = true ∧ hdrType 4611686018444230656 = 4) ∧
    (frameGood sampleHdr sampleBody 210 true = true ∧ hdrType sampleHdr = 1 ∧
      linked.frameTime 37 (hdrClo sampleHdr) (hdrFtag sampleHdr) = some 81920 ∧
      (linked.port 37).serves 81920 = true ∧ linked.fifoOcc (rxFifo 37) + sampleBody.length + 1 ≤ 512 ∧
      linked.isClosed 37 81920 = false ∧ 81920 < linked.courseEnd) ∧
    (let r : Relay := ⟨9, .lanes 0, 1, 4, 0, 0, 0, 0⟩
     let s := linked { relays := [r] }
     s.evUp 37 = true ∧ frameGood 3458764513837383680 [0] 6 true = true ∧ hdrType 3458764513837383680 = 3 ∧
     ((s.port 37).relays.find? fun r => r.feTag == bits 0 56 8) = some r) := by decide +kernel

theorem witness_Ev3CodewordsAndFrontEndRelays :
    (let s := put (port 2) [(Addr.EV_CTRL 37, 9)]
     s.rd (EV_CTRL.GEN 37) = 2 ∧ evAlign ≤ s.evState 37) ∧
    (let s := (put heard [(Addr.EV_STAT 37, 5)]).setPort 37 { relayWait := List.replicate 15 ⟨0, .lanes 0, 1, 0, 0, 0, 0, 0⟩ }
     takesB s 0 (req 0 []) 0 = true ∧ s.evUp 37 = true ∧ (s.port 37).relayWait.length < 16 ∧ heard.evUp 37 = false) ∧
    (let r : Relay := ⟨9, .lanes 0, 1, 4, 0, 0, 0, 0⟩
     let s := put (linked { relayWait := [r] }) [(Addr.EV_RLY 37, 0x10001)]
     (s.port 37).relayWait = r :: [] ∧ (s.port 37).freeTag = some 0 ∧ s.evUp 37 = true ∧
     (s.port 37).relays.length < s.rd (EV_RLY.MAXOUT 37)) ∧
    (let r : Relay := ⟨9, .lanes 0, 1, 4, 0, 0, 0, 0⟩
     ((linked { relays := [r] }).port 37).relays = r :: []) := by decide +kernel

/-- The limit of R132 at its edge: a start 4,095 Tc late is on time, and the next is not. -/
theorem witness_DownlinkCommandsAndLockLoss :
    (let s := put (port 5) [(Addr.EV_STAT 37, 0x85)]
     s.evState 37 ≠ evDark ∧ s.rd (EV_STAT.HOLDING 37) = 1) ∧
    (let s := linked { resumeLeft := 3 }
     s.evState 37 ≠ evDark ∧ s.rd (EV_STAT.HOLDING 37) = 0 ∧ (s.port 37).resumeLeft = 2 + 1) ∧
    (evClocking ≤ (port 1).evState 37 ∧ (port 4).evState 37 ≤ evSwapWait) ∧
    (let r : DlReq := { k := kTrigger, cls := 2, id := 5, at_ := 1024 }
     let s := linked { dlReq := [r], dlFree := 1024 + dlLimit - dlLimit % tcTf }
     let n := linked { dlReq := [r], dlFree := 1024 + dlLimit + tcTf }
     (s.dlFirst 37 fun r => r.k == kTrigger) = some r ∧ ¬dlLimit < (s.advance r.at_).dlStart 37 r.at_ - r.at_ ∧
     (n.dlFirst 37 fun r => decide (dlLimit < n.dlStart 37 r.at_ - r.at_)) = some r) ∧
    linked.evState 37 = evLinked ∧
    (let s := put (port 5) [(Addr.EV_STAT 37, 0x102)]
     s.rd (EV_STAT.ADMIT_PEND 37) = 1 ∧ s.evUp 37 = false) := by decide +kernel

theorem witness_FramesAreReducedAndCoursesClose :
    (let f : RxFrame := { header := sampleHdr, body := sampleBody, t := 81920 }
     let s := linked { rx := [f] }
     (s.port 37).rx = f :: [] ∧ s.outputRefused 37 (s.courseOf f.t) = false ∧
     (s.offerFrame 37 f).fifoRefuses (octetFifo 37) = false) ∧
    (let c : PortCourse := { course := 0, epoch := 0, dCourse := 0 }
     let d : PortCourse := { course := 1, epoch := 0, dCourse := 2 ^ 24 }
     let s := { linked { courses := [c, d], closed := some (0, 0) } with
       time := { runs := true, d := 2 ^ 25, courseAt := 2 ^ 25, epoch := { num := 0, startAt := 0, a := 0, n := 14 } } }
     (s.port 37).courses = [c] ++ d :: [] ∧ (∀ b ∈ [c], (s.port 37).shut b = true) ∧ (s.port 37).shut d = false ∧
     s.keyOf d.epoch d.course < s.keyNow) := by decide +kernel

theorem witness_PortRegistersAct :
    (reachesB (port 5) .soffit (Addr.EV_CTRL 37) = true ∧ (port 5).evState 37 ≠ evFault ∧ (port 5).evState 37 ≠ evPattern ∧
      (port 5).rd (EV_STAT.ADMIT_PEND 37) = 0 ∧ bits 2 0 1 ≠ (port 5).rd (EV_CTRL.EN 37)) ∧
    (let s := put (port 5) [(Addr.EV_CTRL 37, 2)]
     reachesB s .soffit (Addr.EV_EQ_HI 37) = true ∧ reachesB s .soffit (Addr.EV_EQ_LO 37) = true ∧
     s.rd (EV_CTRL.EN 37) = 0 ∧ s.evState 37 = evLinked ∧
     reachesB s .soffit (Addr.EV_PAT_CTRL 37) = true ∧ s.evState 37 ≠ evDark ∧ bits 1 8 5 = 0) ∧
    (reachesB (port 7) .soffit (Addr.EV_PAT_CTRL 37) = true ∧ (port 7).evState 37 = evPattern ∧ bits 2 8 5 = 0 ∧
      bits 4 8 5 = 0) := by decide +kernel

/-! ## Primitives, decisions, triggers, groups -/

/-- A cluster of group 3: two hits that sum to 7. -/
def cluster : Cluster := ⟨0, 1024, 1024, 2, 7, 0, false, 0⟩

/-- A node with group 3's cluster closed, whose limits are `m` hits and a sum of 7; its parent is behind link 2. -/
def clustered (m parent : Nat) (root : Bool) : State :=
  put { inRun with acq := { clusters := [(3, some cluster)] } }
    [(Addr.PR_GRP 3, 0x7000 + 16 * m), (Addr.TREE_STAT, 2 ^ 24 * parent + 2 ^ 28 * (if root then 1 else 0))]

/-- 64 primitives of half N that wait. -/
def primsN : List PrimItem := List.replicate 64 ⟨0, 0, 0⟩

theorem witness_ClustersAndTreeItemsAct :
    (Tab.get none inRun.acq.clusters 3 = none ∧ (inRun.parentLink = none ∨ inRun.isRoot = true)) ∧
    (let s := clustered 3 2 false
     Tab.get none s.acq.clusters 3 = some cluster ∧ cluster.count < s.eff (PR_GRP.MINCNT 3)) ∧
    (let s := clustered 2 2 false
     let w := { s with acq := { s.acq with primN := primsN } }
     Tab.get none s.acq.clusters 3 = some cluster ∧ s.eff (PR_GRP.MINCNT 3) = cluster.count ∧
     s.eff (PR_GRP.MINSUM 3) = cluster.sum ∧ s.isRoot = false ∧ s.parentLink = some 2 ∧ (s.primQ (3 / 64)).length < 64 ∧
     Tab.get none w.acq.clusters 3 = some cluster ∧ w.eff (PR_GRP.MINCNT 3) = cluster.count ∧
     w.eff (PR_GRP.MINSUM 3) = cluster.sum ∧ 64 ≤ (w.primQ (3 / 64)).length ∧
     w.parentLink = some 2 ∧ w.isRoot = false ∧ w.acq.primN ≠ [] ∧ w.primQ 0 = ⟨0, 0, 0⟩ :: primsN.tail) ∧
    (let s := clustered 2 15 true
     s.eff (PR_GRP.MINCNT 3) ≤ cluster.count ∧ s.eff (PR_GRP.MINSUM 3) ≤ cluster.sum ∧ s.isRoot = true ∧
     (s.primQ (3 / 64)).length < 64 ∧ (s.advance cluster.closeAt).now ≤ cluster.handAt + primDeadlineTf ∧
     s.primQ 0 = []) ∧
    (let s := put inRun [(Addr.HIP_STAT 2, 2), (Addr.TREE_STAT, 0x2000000)]
     s.linkUp 2 = true ∧ s.parentLink = some 2 ∧ s.isRoot = false ∧ inRun.linkUp 2 = false) := by decide +kernel

/-- A trigger of class 2 from a directive, acting at its own time. -/
def trig (t : Nat) : Trig := ⟨2, 5, 8, t, t, false, false, false⟩

/-- Every trigger source enabled, merge tolerance 1 Tc. -/
def armed (x : AcqSt) : State := { put heard [(Addr.TRG_CTRL, 0x10011F), (Addr.TRG_AUTO 2, 1)] with acq := x }

/-- The times of R175 and R177 at their edges: 16 Tc ahead; one Tc apart merges, one Tf more does not. -/
theorem witness_TriggersWaitAndAreAccepted :
    (bitAt (heard.eff TRG_CTRL.SRC_EN) 3 = false ∧
      bitAt ((armed {}).eff TRG_CTRL.SRC_EN) 3 = true ∧ (armed {}).now + 16 * tcTf ≤ 16384 ∧
      (armed { acceptQ := List.replicate 31 (trig 0) }).acq.acceptQ.length < 32) ∧
    (takesB (armed {}) 0x03 (req 0x50002 [0]) 0 = true ∧ bits 0x50002 4 12 = 0 ∧ wfield 0 64 64 = 0 ∧
      bits 0x50012 4 12 ≠ 0) ∧
    ((armed {}).eff (TRG_AUTO.TMO 3) = 0 ∧
     (let s := { armed {} with time := { runs := true } }
      s.eff (TRG_AUTO.TMO 2) ≠ 0 ∧ bitAt (s.eff TRG_CTRL.SRC_EN) 4 = true ∧ s.running = true ∧
      Tab.get 0 s.acq.autoFrom 2 + usTf (s.eff (TRG_AUTO.TMO 2)) ≤
        (s.advance (Tab.get 0 s.acq.autoFrom 2 + usTf (s.eff (TRG_AUTO.TMO 2)))).now ∧ s.isRoot = false)) ∧
    (let s := armed { acceptQ := [trig 1024], accepted := [trig 2048] }
     let n := armed { acceptQ := [trig 1024], accepted := [trig 2049] }
     s.acceptWaits = false ∧ s.acq.accepted.find? (mergesInto (s.eff TRG_CTRL.MERGE_TOL * tcTf) (trig 1024)) = some (trig 2048) ∧
     n.acq.accepted.find? (mergesInto (n.eff TRG_CTRL.MERGE_TOL * tcTf) (trig 1024)) = none ∧
     n.takingGroups 2 1 = []) ∧
    (armed { marksN := List.replicate 32 ⟨0, trig 0, false, false, false, 1, 0, 0, 0, 0, 0, 0, 0⟩ }).acceptWaits = true := by
  decide +kernel

/-- A MARK due of half N, and an empty window of it. -/
def mark1 : Mark := ⟨0, trig 0, false, false, false, 1, 0, 0, 0, 0, 0, 0, 0⟩
/-- A window of course 0, whose MARK is `mark1`. -/
def window1 : Window := ⟨0, 0, [mark1], 0, 0, false⟩

/-- Channel 0 of group 0 active, the group of the mode, its queue 0 open. -/
def grouped (mode : Nat) (x : AcqSt) : State :=
  { openQueue 0 (put inRun [(Addr.TCH_STAT 0, 2), (Addr.TCH_CTRL 0, 1), (Addr.ACQ_CTRL 0, 2 ^ 18 + mode)]) with acq := x }

theorem witness_MarksWindowsAndPrimsAreWritten :
    (inRun.nextToAct = none ∧ inRun.marksDue 0 = [] ∧
      inRun.acq.windows.find? (fun w => w.half == 0 && w.group == 0) = none ∧
      inRun.acq.primCourses.find? (fun x => x.1 == 0) = none) ∧
    (let s := grouped 0 { accepted := [trig 1024] }
     s.nextToAct = some (trig 1024) ∧ s.takingGroups 2 0 = [0]) ∧
    (let s := grouped 1 { marksN := [mark1] }
     let n := { inRun with acq := { marksN := [mark1] } }
     s.marksDue 0 = mark1 :: [] ∧ s.markWaits 0 mark1 = false ∧ n.marksDue 0 = mark1 :: [] ∧ n.markWaits 0 mark1 = true) ∧
    (let t := { inRun.time with d := 2 ^ 26, courseAt := 2 ^ 26 }
     let s := { grouped 1 { windows := [window1] } with time := t }
     let n := { grouped 1 { windows := [window1] } with time := { inRun.time with d := 0 } }
     s.acq.windows.find? (fun w => w.half == 0 && w.group == 0) = some window1 ∧ s.windowDone window1 = true ∧
     s.marksDue 0 = [] ∧ (s.writeMarks window1 window1.marks).1 = [] ∧
     (let u := (s.writeMarks window1 window1.marks).2
      (u.pushRecs (u.windowRecs window1)).1 = true) ∧
     window1.pushing = false ∧ n.windowDone window1 = false) ∧
    (let t := { inRun.time with d := 2 ^ 26, courseAt := 2 ^ 26 }
     let s := { openQueue 0 inRun with time := t, acq := { primCourses := [(0, 0)] } }
     let u := s.advance (s.keyEnd 0 + 2560 * tcTf)
     s.acq.primCourses.find? (fun x => x.1 == 0) = some (0, 0) ∧ 0 < s.keyNow ∧ u.acq.clusters = [] ∧
     u.writerRefuses 608 (u.primsQueue 0) = false ∧
     { inRun with acq := { primCourses := [(0, 0)] } }.keyNow ≤ 0) := by decide +kernel

theorem witness_WarmAndUnitResetsAct :
    takesB heard 0x12 (req 0x57525354 []) 0 = true ∧ takesB heard 0x12 (req 0x57525355 []) 0 = true ∧
    heard.inWarm = false ∧ (inWarmReset.inWarm = true ∧ inWarmReset.running = true) ∧
    (let s := put live [(Addr.BOOT_STAT, 11)]
     s.inWarm = true ∧ s.running = false ∧ s.mg.loft = []) ∧
    (takesB heard 0x13 (req 0x10001FF []) 0 = true ∧ resetKind 1 = true ∧ (kindIndices 1).contains 0x1FF = true ∧
      (kindIndices 1).contains 0x200 = false ∧ resetKind 3 = false ∧ takesB heard 0x13 (req 0x1000200 []) 0 = true) := by
  decide +kernel

/-! ## The store and the FIFOs -/

theorem witness_StoreWordsAreKept :
    (inRun.pins.answered = true ∧ inRun.windowGate .soffit 0x7FFFFF 3 2 = none ∧ inLoft 0x7FFFFF = true ∧
      inLoft 5 = false ∧ inRun.windowGate .ridge 5 0 2 = some .denied ∧ State.reset.pins.answered = false) ∧
    (let s : State := { inRun with th := { words := [(5, some ⟨9, false⟩), (6, some ⟨9, true⟩)], weights := [(0, 4)] } }
     s.credit (bankOf 5) 0 ≠ 0 ∧ s.tword 5 = some ⟨9, false⟩ ∧ s.tword 6 = some ⟨9, true⟩ ∧ s.tword 7 = none ∧
     s.credit (bankOf 6) 0 ≠ 0 ∧ s.credit (bankOf 7) 0 ≠ 0 ∧
     Tab.get 0 s.th.migCorr (bankOf 5) + 1 ≠ s.rd TH_MIG_LIMIT.CORR_LIMIT ∧
     Tab.get 0 s.th.migUncorr (bankOf 5) + 1 ≠ s.rd TH_MIG_LIMIT.UNCORR_LIMIT) ∧
    (let s : State := { inRun with th := { credits := [(12 * bankOf 7, 2 ^ 16)] } }
     s.credit (bankOf 7) 0 = 0 ∧ s.tword 7 = none) := by decide +kernel

/-- The FIFO into engine 0, with one item. -/
def oneItem : State := { inRun with th := { fifos := [(FifoId.key (.shingleIn 0), { items := [(7, false)] })] } }

theorem witness_FifosBanksAndBundlesAreShared :
    (FifoId.key (.shingleIn 1) ≠ FifoId.key (.shingleIn 0) ∧ oneItem.fifoOcc (.shingleIn 0) < FifoId.depth (.shingleIn 0) ∧
      oneItem.fifoRefuses (.shingleIn 0) = false ∧ fifoClass (.shingleIn 0) = .data ∧
      (oneItem.fifo (.shingleIn 0)).items[(oneItem.fifo (.shingleIn 0)).p]? = some (7, false) ∧
      inRun.fifoOcc (.bridge true 3) < FifoId.depth (.bridge true 3) ∧ inRun.fifoRefuses (.bridge true 3) = false ∧
      fifoClass (.bridge true 3) = .control ∧ (inRun.fifo (.control 0)).items[(inRun.fifo (.control 0)).p]? = none) ∧
    (let s : State := { inRun with th := { fifos := [(FifoId.key (.control 1), { items := List.replicate 64 (7, false) })] } }
     FifoId.depth (.control 1) ≤ s.fifoOcc (.control 1)) ∧
    (let s : State := { inRun with th := { dirty := [32767] } }
     s.isFree 32767 = false ∧ s.holds 32767 = 0 ∧ s.writerLeft 32767 = true ∧ s.bundleLocked 32767 = false ∧
     s.isFree 0 = true) ∧
    (reachesB inRun .mcN (Addr.TH_WEIGHT_N 11) = true ∧ reachesB inRun .soffit (Addr.TH_WEIGHT_S 0) = true) ∧
    (let s : State := { inRun with th := { starveNoted := [23] } }
     (12 * bankHalf 263 + 11) ∈ s.th.starveNoted ∧ (12 * bankHalf 0 + 11) ∉ s.th.starveNoted) ∧
    (let l : LockSeq := { left := 3, bank := 0, d := 0, lockPc := 8 }
     let s : State := { inRun with cores := [(2, { lock := some l })] }
     let b : State := { inRun with cores := [(2, { lock := some { l with broken := true } })] }
     (s.core 2).lock = some l ∧ l.broken = false ∧ (s.core 3).lock = none ∧
     (b.core 2).lock = some { l with broken := true }) := by decide +kernel

/-- A scrub pass over the whole store. -/
def wholePass : Scrub := { first := 0, last := storeWords - 1, startAt := 0, id := 0x9001 }
/-- A migration of bank 255 into the south half's last spare. -/
def lastSpare : Migration := ⟨255, 263, 0x2001⟩

/-- The whole store is a range (R229), the word after it is in none. -/
theorem witness_ScrubsAndMigrationsRun :
    (reachesB inRun .mcN Addr.TH_SCRUB_CTRL = true ∧ bitAt 1 0 = true ∧ bitAt 1 1 = false ∧ bitAt 2 0 = false ∧
      bitAt 2 1 = true) ∧
    (let s : State := { inRun with boot := { bounds := [(0, 2 ^ 23, 7)] } }
     reachesB s .ridge Addr.TH_SCRUB_CTRL = true) ∧
    (storeWords - 1 < storeWords ∧ inRun.th.scrub = none ∧ storeWords ≤ storeWords ∧
      ∃ n u, inRun.register 9 ((1, rangeBanks 0 (storeWords - 1)) ::
        (if loftFirst ≤ (storeWords - 1) / 256 then [(8, 0, 0)] else [])) deviceWide = (.id n, u)) ∧
    takesB heard 0x09 (req 0 [0]) 0 = true ∧
    (let s : State := { inRun with th := { scrub := some wholePass } }
     s.th.scrub = some wholePass ∧ (∀ x ∈ s.mg.acts, x.id ≠ wholePass.id)) ∧
    (let a : Activity := { slot := 0, code := 9, id := 0x9001, res := [] }
     let s : State := { inRun with th := { scrub := some wholePass }, mg := { acts := [a] } }
     s.th.scrub = some wholePass ∧ s.act wholePass.id = some a) ∧
    (reachesB inRun .mcN Addr.TH_MIG_CTRL = true ∧ bitAt 0 31 = false ∧ bitAt 0x800000FF 31 = true ∧
      (inRun.startMigration (bits 0x800000FF 0 9)).isSome = true ∧
      (let s := put inRun [(Addr.TH_REMAP 4, 0xFFFFFFFF), (Addr.TH_REMAP 5, 0xFFFFFFFF), (Addr.TH_REMAP 6, 0xFFFFFFFF),
         (Addr.TH_REMAP 7, 0xFFFFFFFF)]
       s.startMigration (bits 0x800000FF 0 9) = none)) ∧
    (takesB heard 0x0E (req 255 []) 0 = true ∧ ((heard.taken (req 255 []) 0).startMigration 255).isSome = true ∧
      (let s := put heard [(Addr.TH_REMAP 4, 0xFFFFFFFF), (Addr.TH_REMAP 5, 0xFFFFFFFF), (Addr.TH_REMAP 6, 0xFFFFFFFF),
         (Addr.TH_REMAP 7, 0xFFFFFFFF)]
       takesB s 0x0E (req 255 []) 0 = true ∧ (s.taken (req 255 []) 0).startMigration 255 = none)) ∧
    (let s : State := { inRun with th := { mig := some lastSpare } }
     inRun.th.mig = none ∧ s.th.mig = some lastSpare ∧ 256 ≤ lastSpare.spare ∧ lastSpare.spare < 264 ∧
     lastSpare.bank < 256 ∧ (∀ x ∈ s.mg.acts, x.id ≠ lastSpare.id)) ∧
    (let a : Activity := { slot := 0, code := 2, id := 0x2001, res := [] }
     let s : State := { inRun with th := { mig := some lastSpare }, mg := { acts := [a] } }
     s.act lastSpare.id = some a) := by
  refine ⟨by decide +kernel, by decide +kernel, ⟨by decide +kernel, by decide +kernel, by decide +kernel, _, _, rfl⟩,
    by decide +kernel, by decide +kernel, by decide +kernel, by decide +kernel, by decide +kernel, by decide +kernel,
    by decide +kernel⟩

/-! ## The Purlin -/

/-- A descriptor at the head of queue 9,216. -/
def head1 : QEntry := ⟨{ queue := 9216 }, 0⟩
/-- Queue 9,216 with one descriptor that waits for nothing. -/
def oneTask (cfg wait : Nat) : State :=
  ((openQueue 9216 (put inRun [(Addr.PQ_CFG 9216, cfg), (Addr.PD_CLASS_MAP 1 0, 1)]))).setQueue 9216
    { descs := [{ head1 with desc := { head1.desc with wait := wait } }], admitted := true }
/-- Its ready item. -/
def ready1 : ReadyItem := { queue := 9216, prio := 3, cls := 0, readyAt := 0 }

theorem witness_TasksFlagsAndDrainsOfTheQueues :
    (let s := oneTask 64 0
     (s.queue 9216).descs = head1 :: [] ∧ s.isReady 9216 = false ∧ s.isBusy 9216 = false ∧
     s.on (PQ_CFG.FOLLOW 9216) = false ∧ (s.queue 9216).admitted = true ∧
     (s.advance ((s.queue 9216).headAt + s.eff (PQ_LIM.TMO 9216) * 256 * tcTf)).waitMet 9216 head1 = true) ∧
    (let s := oneTask 64 3
     let e : QEntry := { head1 with desc := { head1.desc with wait := 3 } }
     (s.queue 9216).descs = e :: [] ∧ s.isReady 9216 = false ∧ s.isBusy 9216 = false ∧
     s.on (PQ_CFG.FOLLOW 9216) = false ∧ (s.queue 9216).admitted = true ∧
     (s.advance ((s.queue 9216).headAt + s.eff (PQ_LIM.TMO 9216) * 256 * tcTf)).waitMet 9216 e = false) ∧
    (let s := (oneTask 64 0).setPurlin 1 { ready := [ready1], idle := [32] }
     s.mg.frozen = false ∧ s.nextDispatch 1 = some (ready1, 32) ∧ (s.takeItem 1 ready1 false).1.isSome = true ∧
     s.nextDispatch 0 = none ∧ s.mayLend 0 = false) ∧
    (let s := (put (oneTask 16 0) [(Addr.PD_LEND 0, 0x10001)]).setPurlin 0 { ready := [ready1] }
     s.mayLend 0 = true ∧ s.mg.frozen = false ∧
     (s.purlin 0).ready.find? (fun x => !x.offered && s.lendable x && !(s.purlin 0).idle.any (fun k => s.eligible x.cls k)) =
       some ready1) ∧
    (let s := (put (oneTask 16 0) [(Addr.PD_LEND 0, 0x10001)]).setPurlin 0 { ready := [{ ready1 with offered := true }] }
     let n := put (s.setPurlin 1 { idle := [32] }) [(Addr.TH_REGION_LEN 736, 1)]
     n.mayLend (1 - 1) = true ∧ (n.purlin (1 - 1)).ready = [{ ready1 with offered := true }] ∧ ready1.prio < 8 ∧
     n.forCores { ready1 with offered := true } = true ∧ n.lentCore 1 { ready1 with offered := true } = some 32 ∧
     (n.takeItem (1 - 1) { ready1 with offered := true } true).1.isSome = true) ∧
    (reachesB inRun .soffit (Addr.PD_FLAG_SET 1) = true ∧ inRun.queues = [] ∧ inRun.pins.answered = true) ∧
    (let s := (oneTask 0 0).setQueue 9216 { descs := [head1], admitted := true, retired := true }
     (s.queue 9216).retired = true ∧ (s.queue 9216).descs = [head1] ∧ (s.queue 9217).retired = false) := by decide +kernel

theorem witness_EnableWritesAreChecked :
    bits 0 1 2 ≠ 3 ∧
    (∀ a ∈ [TCH_CTRL.EN 95, PD_QGEN.EN 255, RC_CTRL.EN 63, SH_CTRL.EN 31, RG_LANE_CTRL.EN 31, RG_GRP_CTRL.EN 15,
        HIP_CTRL.EN 7, GA_CTRL.EN 1, GA_IN_A.EN 1 27],
      reachesB inRun .soffit a.addr = true ∧ bits (2 ^ a.lo) a.lo a.w ≠ inRun.rd a) := by decide +kernel

/-! ## Rafter cores -/

/-- What `State.Issues` asks, as a truth value, of a core with no error in its local memories. -/
def issuesB (s : State) (k : Core) : Bool :=
  (s.coreState k == rcRunning || s.coreState k == rcDraining) && (s.core k).taking.isNone && (s.core k).stuck.isNone &&
  !(s.core k).haltReq && !(s.core k).stepping && decide (∀ b : Fin 4, s.on (BP_CTRL.EN k b) = false) &&
  (s.core k).lock.isNone && (s.core k).pc.toNat % 4 == 0 && decide ((s.core k).pc.toNat ≤ 0xFFFF) &&
  (s.core k).memErr.isEmpty && ((s.core k).exl || !(s.core k).atLoopEnd (s.core k).pc)

theorem issues_of {s : State} {k : Core} (h : issuesB s k = true) : s.Issues k := by
  simp only [issuesB, Bool.and_eq_true, Bool.or_eq_true, Bool.not_eq_true', decide_eq_true_eq, beq_iff_eq,
    Option.isNone_iff_eq_none, List.isEmpty_iff] at h
  obtain ⟨⟨⟨⟨⟨⟨⟨⟨⟨⟨h1, h2⟩, h3⟩, h4⟩, h5⟩, h6⟩, h7⟩, h8⟩, h9⟩, h10⟩, h11⟩ := h
  exact ⟨h1, ⟨h2, h3⟩, ⟨h4, h5⟩, h6, h7, ⟨h8, h9⟩, fun a => by rw [h10]; rfl, h11⟩

/-- Core 63, of half S, running as `c`. -/
def running (c : CoreSt) (rs : List (Nat × Nat) := []) : State :=
  (put inRun ((Addr.RC_STAT 63, 2) :: rs)).setCore 63 c

/-- Register `a` of core 63 holds `v`. -/
def holds (a v : Nat) (c : CoreSt := {}) : CoreSt := c.setReg a (BitVec.ofNat 32 v)

/-- A task of half `h` whose record is two words at the start of bundle 16,384. -/
def task1 (h : Nat) : Task :=
  { desc := { queue := 9216, bundle := 16384, len := 2 }, half := h, item := ready1 }

/-- The accumulators at the edge of the 40-bit range: the largest value is kept, and one more saturates. -/
theorem witness_AluAndAccumulatorInstructionsCompute :
    issuesB (running (holds 1 0xFFFFFFFF)) 63 = true ∧ ((1 : GReg) ≠ 0) ∧
    (let c := (holds 1 0x10001).setAcc 0 (BitVec.ofInt 40 (2 ^ 39 - 2))
     issuesB (running c) 63 = true ∧ (c.acc 0).toInt + toSigned 16 (c.reg 1).toNat * toSigned 16 (c.reg 1).toNat < 2 ^ 39) ∧
    (let c := (holds 1 0x10001).setAcc 0 (BitVec.ofInt 40 (2 ^ 39 - 1))
     issuesB (running c) 63 = true ∧ 2 ^ 39 ≤ (c.acc 0).toInt + toSigned 16 (c.reg 1).toNat * toSigned 16 (c.reg 1).toNat ∧
     c.csrBits csrMODE 0 1 = 0 ∧ (c.setCsr csrMODE 1).csrBits csrMODE 0 1 = 1 ∧ issuesB (running (c.setCsr csrMODE 1)) 63 = true ∧
     (c.setCsr csrMODE 1).exl = false) := by decide +kernel

theorem witness_LoadsStoresAndTheStoreBuffer :
    (∀ x ∈ [0x10000, 0x1FFF0, 0x20000, 0x1FFF1, 0xFFFC],
      issuesB (running (holds 1 x)) 63 = true ∧ (running (holds 1 x)).effAddr 63 ((holds 1 x).reg 1) 0 = some x ∧
      (holds 1 x).exl = false) ∧
    quadReg 4 = true ∧ quadReg 5 = false ∧ inThatch 0x20000 = false ∧
    (let x := 0x10000000 + 16 * 256 * 16384
     let c := holds 1 x { task := some (task1 1) }
     let s := running c
     issuesB s 63 = true ∧ s.effAddr 63 (c.reg 1) 0 = some x ∧ inThatch x = true ∧ s.mayLoad 63 (thatchWord x) = true ∧
     (s.loadWord (thatchWord x)).2 = false ∧ c.sb = [] ∧ s.mayStore 63 (thatchWord x) = false) ∧
    (let x := 0x10000000 + 16 * 256 * 16384
     let c := holds 1 x { task := some (task1 1), csr := [(csrMODE, 2)] }
     let s : State := { running c with th := { words := [(256 * 16384, some ⟨0, true⟩)] } }
     issuesB s 63 = true ∧ s.effAddr 63 (c.reg 1) 0 = some x ∧ inThatch x = true ∧ s.mayLoad 63 (thatchWord x) = true ∧
     (s.loadWord (thatchWord x)).2 = true ∧ c.csrBits csrMODE 1 1 = 1 ∧ c.exl = false) ∧
    (let x := 0x10000000 + 16 * 256 * 16384
     let c := holds 1 x { task := some (task1 1), allocs := [⟨256 * 16384, 1⟩] }
     let s := running c
     issuesB s 63 = true ∧ s.mayStore 63 (thatchWord x) = true ∧ c.sb = [] ∧ s.mayStore 63 (thatchWord x + 1) = false) ∧
    (let c : CoreSt := { csr := [(csrMODE, 8), (csrCBASE, 0x10000), (csrCLEN, 16)] }
     c.csrBits csrMODE 2 2 = 2 ∧ (c.csrAt csrCBASE).toNat = 0x10000 ∧ (c.csrAt csrCLEN).toNat = 16 ∧
     0x10000 ≤ (0x1000F : U32).toNat ∧ (0x1000F : U32).toNat < 0x10000 + 16) ∧
    (let e : SbEntry := ⟨5, 7, BitVec.allOnes 16⟩
     let s := running { sb := [e] }
     (s.core 63).sb = e :: [] ∧ e.mask = BitVec.allOnes 16 ∧ issuesB s 63 = true ∧ (running {}).core 63 = {}) := by
  decide +kernel

theorem witness_ControlFlowFollowsDelaySlots :
    (issuesB (running (holds 1 0xFFFC)) 63 = true ∧ (holds 1 0xFFFC).slot = none ∧ (holds 1 0xFFFC).exl = false ∧
      ((holds 1 0xFFFC).reg 1).toNat % 4 = 0 ∧ ((holds 1 0xFFFC).reg 1).toNat ≤ 0xFFFF ∧
      ((holds 1 0xFFFE).reg 1).toNat % 4 ≠ 0 ∧ issuesB (running (holds 1 0xFFFE)) 63 = true ∧
      ((holds 1 0x10000).reg 1).toNat % 4 = 0 ∧ 0xFFFF < ((holds 1 0x10000).reg 1).toNat ∧
      issuesB (running (holds 1 0x10000)) 63 = true) ∧
    (let c : CoreSt := { pc := 8, slot := some (4, 32) }
     issuesB (running c) 63 = true ∧ c.slot ≠ none ∧ c.exl = false) ∧
    (let c : CoreSt := { csr := [(csrLS 0, 4), (csrLE 0, 0x40), (csrLC 0, 2)], pc := 16 }
     issuesB (running c) 63 = true ∧ c.slot = none ∧ c.exl = false ∧ c.csrAt (csrLC 1) = 0 ∧ c.csrAt (csrLS 0) ≤ 0x40 ∧
     0x40 ≤ c.csrAt (csrLE 0) ∧ (0x40 : U32) = c.pc + (12 : BitVec 10).setWidth 32 * 4) ∧
    (let c : CoreSt := { csr := [(csrLE 0, 0x40), (csrLC 0, 2)] }
     let d : CoreSt := { csr := [(csrLE 1, 0x40), (csrLC 1, 2)] }
     let e : CoreSt := { csr := [(csrLE 0, 0x40), (csrLC 0, 1)] }
     c.csrAt (csrLC 1) = 0 ∧ c.csrAt (csrLE 0) = 0x40 ∧ 1 < (c.csrAt (csrLC 0)).toNat ∧ d.csrAt (csrLE 1) = 0x40 ∧
     1 < (d.csrAt (csrLC 1)).toNat ∧ e.csrAt (csrLC 1) = 0 ∧ e.csrAt (csrLE 0) = 0x40 ∧ e.csrAt (csrLC 0) = 1) := by
  decide +kernel

theorem witness_ExceptionsAreTakenAndLeft :
    (issuesB (running {}) 63 = true ∧ ({} : CoreSt).exl = false ∧ (decodeCore 63 0xFFFFFFFF).isNone = true ∧
      (decodeCore 63 1).isNone = false ∧ csrRW 0x30 = false ∧ csrRO 0x30 = false ∧ csrRW 0x18 = false ∧ csrRW 0 = true) ∧
    (let c : CoreSt := { exl := true }
     issuesB (running c) 63 = true ∧ c.exl = true ∧ c.slot = none ∧ c.csrBits csrEMODE 2 2 ≠ 3) ∧
    (issuesB (running (holds 1 0xB)) 63 = true ∧ bits ((holds 1 0xB).reg 1).toNat 2 2 ≠ 3 ∧ csrRW csrMODE = true ∧
      ((holds 1 0xB).setCsr csrMODE (csrMask csrMODE ((holds 1 0xB).csrAt csrMODE) ((holds 1 0xB).reg 1))).atLoopEnd 0 = false) := by
  decide +kernel

/-- A record with its header word, allocated and pushed before. -/
def rec1 : RecAt := ⟨256 * 16384, 2⟩
/-- Registers g4 to g7 hold the descriptor of `rec1` for queue 9,216. -/
def pushes (c : CoreSt) (w : Word) : CoreSt := c.setQuad 4 w
/-- The descriptor as firmware writes it. -/
def desc1 (len : Nat) : Word := mkWord [(0, 14, 9216), (64, 15, 16384), (87, 16, len)]

theorem witness_TasksAndRecordsOfCores :
    (issuesB (running {}) 63 = true ∧ ({} : CoreSt).slot = none ∧ quadReg 12 = true ∧ quadReg 0 = false ∧
      ({} : CoreSt).task = none ∧ ({} : CoreSt).leaving = false ∧ ({} : CoreSt).exl = false ∧
      (task1 1).members = [] ∧ (task1 1).desc.lent = false) ∧
    (let c : CoreSt := { task := some (task1 1), kept := List.replicate 64 ⟨0, 1⟩ }
     let d : CoreSt := { task := some (task1 1), kept := List.replicate 63 ⟨0, 1⟩ }
     issuesB (running c) 63 = true ∧ c.task = some (task1 1) ∧ bitAt 1 0 = true ∧ 64 < c.kept.length + (task1 1).records.length ∧
     c.exl = false ∧ issuesB (running d) 63 = true ∧ d.kept.length + (task1 1).records.length ≤ 64) ∧
    (let c := pushes { kept := [rec1] } (desc1 2)
     issuesB (running c) 63 = true ∧ c.kept.find? (fun r => r.addr == (Desc.ofFirmware (c.quad 4)).place.addr) = some rec1 ∧
     (pushes {} (desc1 2)).kept.find? (fun r => r.addr == (Desc.ofFirmware (c.quad 4)).place.addr) = none ∧
     issuesB (running (pushes {} (desc1 2))) 63 = true) ∧
    (let c := holds 1 2048 { task := some (task1 1) }
     let s := running c [(Addr.TH_REGION 703, 16384), (Addr.TH_REGION_LEN 703, 16)]
     let f : State := { s with th := { dirty := [16384] } }
     issuesB s 63 = true ∧ c.slot = none ∧ (c.reg 1).toNat = 2048 ∧ c.task ≠ none ∧ c.allocs.length < 8 ∧
     (s.regionOf (c.region 63)).2 ≠ 0 ∧ s.fits (c.region 63) 2048 = true ∧ issuesB f 63 = true ∧
     f.fits (c.region 63) 2048 = false ∧ ((holds 1 2049).reg 1).toNat = 2049 ∧ issuesB (running (holds 1 2049)) 63 = true) ∧
    (let c := pushes { task := some (task1 1), pushed := [rec1] } (desc1 2)
     let o := openQueue 9216 (running c [(Addr.PQ_CFG 9216, 96)])
     let s : State := { o with th := { words := [(256 * 16384, some ⟨1, false⟩)] } }
     let x := Desc.ofFirmware (c.quad 4)
     let u := (s.issued 63).flushSb 63
     issuesB s 63 = true ∧ quadReg 4 = true ∧ u.pushStatus 63 x = 0 ∧ u.atLimit x.queue = false ∧
     (u.count (RC_PUSH_WAIT.N 63) 0).pushable 63 x = .other ∧
     ((running c).issued 63).pushStatus 63 x = 1) ∧
    (let c := pushes { task := some (task1 1), pushed := [rec1] } (desc1 2)
     let s := (running c [(Addr.PQ_CFG 9216, 96), (Addr.PQ_LIM 9216, 4)]).setQueue 9216 { admitted := true }
     let x := Desc.ofFirmware (c.quad 4)
     let u := (s.issued 63).flushSb 63
     issuesB s 63 = true ∧ u.pushStatus 63 x = 0 ∧ u.atLimit x.queue = true) := by decide +kernel

theorem witness_LockedSequencesCommitOrFail :
    (let c := holds 1 (0x10000000 + 16 * 256 * 16384) { task := some (task1 1) }
     let s := running c [(Addr.RC_SHARE_S 0, 16384 + 65536)]
     issuesB s 63 = true ∧ c.slot = none ∧ (s.lockBank 63 (c.reg 1) 8).isSome = true ∧ c.sb = [] ∧ s.th.locks = [] ∧
     (running c).lockBank 63 (c.reg 1) 8 = none ∧ c.exl = false ∧ issuesB (running c) 63 = true) ∧
    (let c := holds 1 (0x10000000 + 16 * 256 * 16384) { task := some (task1 1) }
     let b := bankOf (256 * 16384)
     let s : State := { running c [(Addr.RC_SHARE_S 0, 16384 + 65536)] with th := { locks := [(b, 63)] } }
     issuesB s 63 = true ∧ s.lockBank 63 (c.reg 1) 8 = some b ∧ Tab.get 0 s.th.locks b ≠ 0) ∧
    (let l : LockSeq := { left := 2, bank := 0, d := 1, lockPc := 4 }
     ((running { lock := some l }).core 63).lock = some l ∧ 1 < l.left ∧ { l with left := 1 }.left ≤ 1 ∧ l.broken = false ∧
     ({ l with broken := true } : LockSeq).broken = true) := by decide +kernel

theorem witness_CoresAreDebuggedAndRefreshed :
    (let s := running {}
     reachesB s .soffit (Addr.DBG_CTRL 63) = true ∧ s.coreState 63 = rcRunning ∧ (s.core 63).slot = none ∧
     (s.core 63).lock = none ∧ (s.core 63).stepping = false ∧ bitAt 1 0 = true ∧ bitAt 1 3 = false ∧ bitAt 8 3 = true ∧
     bitAt 2 0 = false ∧ reachesB s .soffit (Addr.DBG_ACC 63) = true ∧ s.coreState 63 ≠ rcHalted ∧
     reachesB s .soffit (Addr.RC_MEMD 63) = true) ∧
    (let s := running { pc := 8, slot := some (4, 32) }
     s.coreState 63 = rcRunning ∧ (s.core 63).slot = some (4, 32) ∧ (s.core 63).lock = none) ∧
    (let s := put (running { haltedFrom := rcDraining }) [(Addr.RC_STAT 63, rcHalted)]
     s.coreState 63 = rcHalted ∧ (s.core 63).haltedFrom = rcDraining ∧ bitAt 2 1 = true ∧ 2 % 16 = 2 ∧
     reachesB s .soffit (Addr.DBG_CTRL 63) = true ∧ reachesB s .soffit (Addr.DBG_ACC 63) = true ∧
     bitAt 0x1000F 16 = true ∧ bitAt 0x1000F 12 = false ∧ bits 0x1000F 0 12 < 16 ∧ bitAt 0x1100F 12 = true ∧
     bits 0x11418 0 12 = 0x418 ∧ csrRO (0x418 - 0x400) = true ∧ bitAt 0x11418 12 = true ∧
     reachesB s .soffit (Addr.RC_MEMD 63) = true ∧ s.memA 63 < 0x10000 ∧
     0x10000 ≤ (put s [(Addr.RC_MEMA 63, 0x10000)]).memA 63) ∧
    (Tab.get 0 ({} : CoreSt).memErr 5 = 0 ∧ Tab.get 0 ({ memErr := [(5, 1)] } : CoreSt).memErr 5 = 1) ∧
    (takesB heard 0x08 (req 63 []) 0 = true ∧ bits 63 11 21 = 0 ∧
     (let x := (heard.taken (req 63 []) 0).startRefresh 63 0 false
      x.1 = .refused 0x85 63) ∧
     takesB heard 0x08 (req 0x800 []) 0 = true ∧ bits 0x800 11 21 ≠ 0 ∧ heard.on (RC_CTRL.EN 63) = false) ∧
    (let f : Refresh := { prog := 0, copyB := false, fails := 1, id := 0x4001 }
     let s := put (running { refresh := some f }) [(Addr.RC_STAT 63, rcLoading)]
     (s.core 63).refresh = some f ∧ s.coreState 63 = rcLoading ∧ f.fails < 2 ∧ 2 ≤ ({ f with fails := 2 } : Refresh).fails ∧
     (running {}).coreState 63 ≠ rcLoading) ∧
    (let f : Refresh := { prog := 0, copyB := false, id := 0x4001 }
     let a : Activity := { slot := 0, code := 4, id := 0x4001, res := [] }
     let s : State := { put (running { refresh := some f }) [(Addr.RC_STAT 63, rcLoading)] with boot := { progs := [(0, [1, 2, 3, 4])] } }
     (s.progFrom (f.copyB != s.activeCopy) 63 f.prog).toOption = some [1, 2, 3, 4] ∧ (∀ a ∈ s.mg.acts, a.id ≠ f.id) ∧
     (let t : State := { s with mg := { acts := [a] } }
      t.act f.id = some a)) := by decide +kernel

theorem witness_CoreWordsDecodeToTheirInstructions :
    (0x2C000000 < 2 ^ 32 ∧ bits 0x2C000000 26 6 ∈ [0x0B, 0x0F, 0x16, 0x17, 0x1C, 0x1F, 0x2A, 0x2B, 0x2D, 0x2F, 0x35, 0x37, 0x3F]) ∧
    (bits 0x101 26 6 = 0 ∧ bits 0x101 8 6 ≠ 0) ∧ (bits 0x14 26 6 = 0 ∧ 0x14 ≤ bits 0x14 0 8) ∧
    (bits 0x28010000 26 6 = 0x0A ∧ bits 0x28010000 16 6 ≠ 0) := by decide +kernel

/-! ## Shingle engines -/

/-- The block of queue 9,216's stream that engine 31 codes. -/
def block1 (effort : Nat) (ws : List Word) : ShBlock :=
  ⟨9216, [task1 1], ws, [0], false, false, effort, 4096, 9217, 0, 1, 0, 0, []⟩
/-- Engine 31 active, as `y`. -/
def engine1 (y : EngineSt) : State := (put inRun [(Addr.SH_STAT 31, 1), (Addr.SH_QCFG 9216, 0x38)]).setEngine 31 y
/-- Words without a pattern. -/
def noise (n : Nat) : List Word := (List.range n).map fun i => BitVec.ofNat 128 ((i + 3) ^ 47 * 0x9E3779B97F4A7C15F39CC0605CEDC834)
/-- Words that rise in steps: the first coder does without another candidate. -/
def ramp : List Word := List.replicate 3 0x00010002000300040005000600070008

/-- Words whose two 32-bit lanes rise. -/
def steps : List Word := (List.range 4).map fun i => BitVec.ofNat 128 (i * 1000 * (1 + 2 ^ 64))

/-- What the first pass finds of a block: why, and the winning candidate. -/
def verdict (e : Nat) (ws : List Word) : Nat × Nat :=
  let s := engine1 { block := some (block1 e ws) }
  let x := s.extendBlock 31 4096 (block1 e ws)
  let v := (x.2.putEngine 31 { x.2.engine 31 with block := some x.1, flush := false }).settle.holdAll
  let c := v.codeBlock 31 x.1
  (c.why, c.win.num)

theorem witness_ShingleBlocksRunTheirPasses :
    (let s := inRun
     s.on (SH_STAT.ACTIVE 31) = false ∧ (s.engine 31).block = none ∧ reachesB s .soffit Addr.SH_FLUSH = true) ∧
    (let s := (put (oneTask 65 0) [(Addr.SH_STAT 31, 1), (Addr.PQ_CFG 9216, 65 + 31 * 2 ^ 25)]).setPurlin 1 { ready := [ready1] }
     let y := s.engine 31
     s.on (SH_STAT.ACTIVE 31) = true ∧ y.block = none ∧ y.done = none ∧ y.leaving = false ∧
     (List.range 8).reverse.findSome? (fun p =>
       ((s.engineReady 31).filter fun r => !s.openElsewhere 31 r.queue).find? fun r => r.prio == p) = some ready1 ∧
     (s.takeItem (engineHalf 31) ready1 false).1.isSome = true) ∧
    (let s := engine1 { block := some (block1 0 [0]) }
     (s.engine 31).block = some (block1 0 [0]) ∧ (s.engine 31).done = none ∧ (block1 0 [0]).pass = 1 ∧
     s.on (SH_STAT.WAITING 31) = false ∧ (block1 0 [0]).queue = 9216 ∧ (block1 0 [0]).keyed = false ∧
     (verdict 0 [0]).1 = 2 ∧ (verdict 1 [0]).1 = 1 ∧ verdict 1 ramp = (0, 0)) ∧
    (let b := { block1 0 [0] with pass := 2 }
     let s := put (engine1 { block := some b }) [(Addr.SH_STAT 31, 9)]
     (s.engine 31).block = some b ∧ (s.engine 31).done = none ∧ b.pass ≠ 1 ∧ s.on (SH_STAT.WAITING 31) = true ∧
     (s.placeContainer 31 b (s.codeBlock 31 b)).isNone = true) ∧
    (let b := block1 0 [0]
     let s := openQueue 9217 (engine1 { block := some b, done := some ({ queue := 9217 }, 0) })
     let f := put (engine1 { block := some b, done := some ({ queue := 9217 }, 0) }) [(Addr.PQ_LIM 9217, 4)]
     (s.engine 31).block = some b ∧ (s.engine 31).done = some ({ queue := 9217 }, 0) ∧ s.atLimit b.outq = false ∧
     f.atLimit b.outq = true) := by decide +kernel

/-- Two lanes: another candidate wins, and a second pass follows. -/
theorem witness_ShingleSecondPass :
    let w := verdict 3 steps
    w.1 = 0 ∧ w.2 ≠ 0 := by decide +kernel

/-! ## Ridge lanes and control transactions -/

/-- A frame of a group that waits for its acknowledgement. -/
def frame1 (n : Nat) (due : Bool := false) : TxFrame :=
  { gseq := n, first := true, last := true, words := [0], lane := 0, sentAt := 0, due := due }

theorem witness_ControlTransactionsAreAnswered :
    (takesB heard 0 (req 0 []) 0 = true ∧ (0 : U32).toNat % 4 = 0 ∧ (0xFFFFFFFF : U32).toNat % 4 ≠ 0) ∧
    (wfield 0xFFFF0001 0 16 = 1 ∧ wfield 0xFFFF0001 16 16 = 0xFFFF ∧ requestOk 0xFFFF0001 [] = false) ∧
    (let s : State := { heard with trans := [{ tag := 1, group := 0, target := 0, at_ := 0 }] }
     let n := put s [(Addr.RG_CTL_CFG, 1)]
     s.rxDecodes 0 = true ∧ s.laneGroup 0 = some 0 ∧ (s.trans.any fun x => x.tag == 1 && x.group == 0) = true ∧
     n.rxDecodes 0 = true ∧ n.laneGroup 0 = some 0 ∧ (n.trans.any fun x => x.tag == 2 && x.group == 0) = false ∧
     n.rd RG_CTL_CFG.MAXOUT ≤ n.trans.length ∧ n.rescue = false) ∧
    inRun.rxDecodes 0 = false := by decide +kernel

theorem witness_LaneFramesActOnGroups :
    (let s := heard.setGroup 0 { frames := [frame1 5, frame1 6], responses := [(7, true)], admitted := true }
     s.rxDecodes 0 = true ∧ s.laneGroup 0 = some 0 ∧
     (s.group 0).frames.findIdx? (fun f => f.gseq == 6 && (!f.due || f.resent)) = some 1 ∧
     (∀ f ∈ (s.group 0).frames.take (1 + 1), f.from_ = none) ∧
     (s.group 0).frames.findIdx? (fun f => f.gseq == 7 && (!f.due || f.resent)) = none ∧
     (s.group 0).frames = frame1 5 :: [frame1 6] ∧ (frame1 5).due = false ∧ s.laneState 0 ≠ rgDown ∧ s.laneState 0 ≠ rgParked ∧
     s.laneState 0 = rgActive ∧ (s.group 0).responses = (7, true) :: [] ∧
     s.firstFree ((s.allLanes 0).filter fun l => s.laneState l == rgReady || s.laneState l == rgActive || s.laneState l == rgSpare) =
       some 0) ∧
    (let s := heard.setGroup 0 { frames := [frame1 5 true] }
     (s.group 0).frames = frame1 5 true :: [] ∧ (frame1 5 true).due = true) ∧
    (inRun.rxDecodes 0 = false ∧ inRun.laneState 0 = rgDown ∧ (inRun.group 0).responses = [] ∧ (inRun.group 0).admitted = false) ∧
    (let s := ((put heard [(Addr.RG_GRP_WIN 0, 1), (Addr.PQ_CFG 9216, 2)]).setGroup 0 { admitted := true }).setPurlin 0 { ready := [ready1] }
     let f := s.setGroup 0 { admitted := true, frames := [frame1 5] }
     (s.group 0).responses = [] ∧ s.forwards 0 = false ∧ (s.group 0).admitted = true ∧
     (s.group 0).frames.length < s.eff (RG_GRP_WIN.WINDOW 0) ∧ s.firstFree (s.recordLanes 0) = some 0 ∧ (s.group 0).fwd = [] ∧
     s.groupReady 0 = [ready1] ∧ ready1.prio < 8 ∧ f.eff (RG_GRP_WIN.WINDOW 0) ≤ (f.group 0).frames.length) := by
  decide +kernel

/-- Lane 31 in a state of R364. -/
def lane31 (st : Nat) (x : LaneSt := {}) : State := (put heard [(Addr.RG_LANE_STAT 31, st)]).setLane 31 x

theorem witness_LaneStatesFollowTheTable :
    ((lane31 0x201).laneState 31 = rgTrain ∧ (lane31 0x201).on (RG_LANE_STAT.BE_LOCK 31) = true ∧ (lane31 0x201).mg.acts = []) ∧
    ((lane31 1).laneState 31 = rgTrain ∧ (lane31 1).on (RG_LANE_STAT.BE_LOCK 31) = false ∧
      ((lane31 1 { trainFails := 6 }).lane 31).trainFails < 7 ∧ 7 ≤ ((lane31 1 { trainFails := 7 }).lane 31).trainFails) ∧
    ((lane31 3).laneState 31 = rgActive ∧ (lane31 2).laneState 31 ≠ rgActive ∧ (lane31 2).laneState 31 ≠ rgTrain) ∧
    (takesB (lane31 3) 0x06 (req 31 []) 0 = true ∧ takesB (lane31 2) 0x06 (req 31 []) 0 = true ∧
      takesB (lane31 6) 0x07 (req 31 []) 0 = true ∧ (lane31 6).laneState 31 = rgFailed ∧
      takesB (lane31 2) 0x07 (req 31 []) 0 = true ∧ (lane31 2).laneState 31 ≠ rgFailed ∧
      takesB (lane31 2) 0x06 (req 32 []) 0 = true ∧ 32 ≤ (req 32 []).data.toNat) := by decide +kernel

/-! ## The Hip tree -/

/-- Link 7 in a state of R383. -/
def link7 (st : Nat) (x : LinkSt := {}) : State :=
  (put inRun [(Addr.HIP_STAT 7, st), (Addr.HIP_CTRL 7, 1), (Addr.NODE_ID, 3), (Addr.HIP_CFG, 100)]).setLink 7 x

theorem witness_HipLinksAndFrames :
    ((link7 0).hipState 7 = 0 ∧ (link7 0).on (HIP_CTRL.EN 7) = true ∧ inRun.on (HIP_CTRL.EN 7) = false) ∧
    ((link7 1).hipState 7 = 1 ∧ (link7 1).mg.acts = [] ∧ bits 5 0 16 ≠ (link7 1).nodeId ∧
      ((link7 1).link 7).parent ≠ (link7 1).nodeId) ∧
    ((link7 2).hipState 7 = 2 ∧ (link7 2).on (HIP_CTRL.EXPECT 7) = false ∧ (link7 2).parentLink ≠ some 7 ∧
      ((link7 2).link 7).frames = [] ∧ ((link7 2).link 7).items = []) ∧
    (let i : HipItem := { kind := kindPrim, data := [], arrAt := 0 }
     let s := link7 2 { items := [i] }
     let n := link7 2 { items := [i], freeAt := 0 + nsTf 48 + nsTf 200 }
     let d := link7 1 { items := [i] }
     (s.link 7).items = i :: [] ∧ s.linkUp 7 = true ∧
     tfNs (max (i.arrAt + nsTf 48) (s.link 7).freeAt - (i.arrAt + nsTf 48)) ≤ s.rd HIP_CFG.FWD_LIMIT ∧
     (n.link 7).items = i :: [] ∧ n.linkUp 7 = true ∧
     n.rd HIP_CFG.FWD_LIMIT < tfNs (max (i.arrAt + nsTf 48) (n.link 7).freeAt - (i.arrAt + nsTf 48)) ∧
     (d.link 7).items = i :: [] ∧ d.linkUp 7 = false) ∧
    (let hdr : HipHdr := ⟨true, true, 3, 9⟩
     let s := link7 2
     s.linkUp 7 = true ∧ hdr.dest.toNat = s.nodeId ∧ s.on RG_FWDIN.VALID = false ∧
     (put s [(Addr.RG_FWDIN, 0xFFFFFFFF)]).on RG_FWDIN.VALID = true ∧
     (let t : State := { s with trans := [{ tag := 1, group := 2, target := 9, at_ := 0, remote := true }] }
      t.linkUp 7 = true ∧ (t.trans.any fun x => x.tag == wfield 1 0 16 && x.group == wfield 2 0 4 && x.remote && !x.answered) = true ∧
      t.trans.find? (fun x => x.tag == 1 && x.group == 2 && x.remote && !x.answered) =
        some { tag := 1, group := 2, target := 9, at_ := 0, remote := true }) ∧
     (s.trans.any fun x => x.tag == 1 && x.group == 2 && x.remote && !x.answered) = false ∧ (link7 1).linkUp 7 = false) ∧
    (let hdr : HipHdr := ⟨true, true, 4, 9⟩
     let s := { link7 2 with tree := { routes := [(4, 6)] } }
     let n := put (link7 2) [(Addr.TREE_STAT, 15 * 2 ^ 24)]
     hdr.dest.toNat ≠ s.nodeId ∧ s.routeTo hdr.dest.toNat = some 5 ∧ n.routeTo hdr.dest.toNat = none ∧ n.linkUp 7 = true ∧
     s.linkUp 7 = true) ∧
    ((4 : BitVec 16).toNat ≠ (link7 2).nodeId ∧ Tab.get 0 (link7 2).tree.routes (4 : BitVec 16).toNat = 0) := by
  decide +kernel

/-! ## Gauge units -/

/-- Unit S active, its slice 4 the calibrating one, input 27 admitted, as `u`. -/
def gauge (u : UnitSt) (rs : List (Nat × Nat) := []) : State :=
  { (put inRun ((Addr.GA_STAT 1, 0x280) :: rs)).setUnit 1 { u with inputs := [(27, { admitted := true })] } with
    pins := { answered := true, applied := true, vexcOk := true } }

/-- A job of an input in a phase. -/
def gjob1 (input phase : Nat) (diag : Bool := false) (raws : List Int := []) : GJob :=
  { input := input, phase := phase, started := 0, diag := diag, raws := raws }

theorem witness_GaugeJobsRunTheirPhases :
    (inRun.on (GA_STAT.ACTIVE 1) = false ∧ inRun.freeSlices 1 ≠ [] ∧ inRun.gaNext 1 = none ∧ inRun.gjob 1 0 = none) ∧
    (let s := gauge {}
     let v := gauge {} [(Addr.GA_IN_A 1 27, 2 ^ 21)]
     let f := gauge {} [(Addr.GA_STAT 1, 0x380)]
     s.on (GA_STAT.ACTIVE 1) = true ∧ (s.ginput 1 27).admitted = true ∧ s.effOn (GA_IN_A.URGENT 1 27) = false ∧
     (∀ d ∈ (s.unit 1).due, d.input ≠ 27) ∧ s.fullCal 1 = false ∧ s.mg.frozen = false ∧
     v.on (GA_STAT.ACTIVE 1) = true ∧ (v.ginput 1 27).admitted = true ∧ v.effOn (GA_IN_A.URGENT 1 27) = true ∧
     (∀ d ∈ (v.unit 1).due, d.input ≠ 27) ∧ f.on (GA_STAT.ACTIVE 1) = true ∧ (f.ginput 1 27).admitted = true ∧
     f.fullCal 1 = true ∧ f.effOn (GA_IN_A.URGENT 1 27) = false ∧ (∀ d ∈ (f.unit 1).due, d.input ≠ 27)) ∧
    (let s := gauge { due := [⟨27, 0, 2, 0, false, false⟩] }
     s.freeSlices 1 = [0, 1, 2, 3] ∧ s.gaNext 1 = some ⟨27, 0, 2, 0, false, false⟩) ∧
    (let s := gauge { jobs := [(0, some (gjob1 3 0)), (1, some (gjob1 3 1)), (2, some (gjob1 27 2)), (3, some (gjob1 3 2 true))] }
     let n := { s with pins := { answered := true, applied := true, vexcOk := false } }
     s.gjob 1 0 = some (gjob1 3 0) ∧ (gjob1 3 0).phase = 0 ∧ (gjob1 3 0).excited = true ∧ s.pins.vexcOk = true ∧
     s.gjob 1 1 = some (gjob1 3 1) ∧ (gjob1 3 1).phase = 1 ∧ s.gjob 1 2 = some (gjob1 27 2) ∧ (gjob1 27 2).phase = 2 ∧
     n.gjob 1 0 = some (gjob1 3 0) ∧ n.pins.vexcOk = false ∧ (gjob1 27 2).excited = false ∧ (gjob1 27 2).diag = false ∧
     (gjob1 27 2).raws.length < (gjob1 27 2).convs ∧
     (gjob1 27 2 false [5]).convs ≤ (gjob1 27 2 false [5]).raws.length ∧
     s.gjob 1 3 = some (gjob1 3 2 true) ∧ (gjob1 3 2 true).phase = 2 ∧ (gjob1 3 2 true).diag = true ∧
     s.on (GA_IN_STAT.OPEN 1 3) = false ∧
     10 * (0 : U32).toInt ≤ 9 * fullScale (jobField (gjob1 3 2 true).cfgA (GA_IN_A.RANGE 0 0)) ∧
     9 * fullScale (jobField (gjob1 3 2 true).cfgA (GA_IN_A.RANGE 0 0)) < 10 * (0x7FFFFFFF : U32).toInt) := by decide +kernel

theorem witness_GaugeRequestsCalibrationsAndRecords :
    (let x := gjob1 27 1
     let s := gauge { jobs := [(0, some x)] }
     (s.gjobs 1).find? (fun x => x.2.input == 27 && !x.2.diag) = some (0, x)) ∧
    (let s := gauge {}
     (s.gjobs 1).find? (fun x => x.2.input == 27 && !x.2.diag) = none ∧ s.gaHeldBy 1 27 false = none ∧
     s.freeSlices 1 = 0 :: [1, 2, 3] ∧ reachesB s .mcN (Addr.GA_URGENT 1) = true ∧ 0x8000001B % 32 = 27 ∧
     bitAt 0x8000001B 31 = true ∧ s.on (GA_STAT.ACTIVE 1) = true ∧ (s.ginput 1 27).admitted = true ∧ bitAt 27 31 = false ∧
     s.rd (GA_STAT.CAL_SLICE 1) = 4 ∧ s.fullCal 1 = false ∧ s.converting 1 ≠ [] ∧
     reachesB s .mcN (Addr.GA_FULLCAL 1) = true ∧ bitAt 1 0 = true ∧ (s.unit 1).fullCal = none ∧ (s.unit 1).courses = []) ∧
    (let s : State := { gauge {} with boot := { bounds := [(0, 2 ^ 24, 7)] } }
     reachesB s .ridge (Addr.GA_URGENT 1) = true) ∧
    (takesB heard 0x0C (req 0x1B01 []) 0 = true ∧ (req 0x1B01 []).data.toNat = (1 : Half).val + (27 : GaugeInput).val * 256 ∧
      heard.on (GA_STAT.ACTIVE 1) = false ∧
      (let s := put heard [(Addr.GA_STAT 1, 0x280)]
       takesB s 0x0C (req 0x1B01 []) 0 = true ∧ s.on (GA_STAT.ACTIVE 1) = true ∧ (s.ginput 1 27).admitted = false) ∧
      (let s := (put heard [(Addr.GA_STAT 1, 0x280)]).setUnit 1 { inputs := [(27, { admitted := true })] }
       takesB s 0x0C (req 0x1B01 []) 0 = true ∧ (s.ginput 1 27).admitted = true) ∧
      takesB heard 0x0B (req 1 []) 0 = true ∧ takesB heard 0x0B (req 2 []) 0 = true) ∧
    ((gauge { calRetry := true }).unit 1).calRetry = true ∧ 5 ≤ (gauge {} [(Addr.GA_STAT 1, 0x2A0)]).rd (GA_STAT.CAL_SLICE 1) ∧
    (let s := gauge { calDone := true }
     s.converting 1 ≠ [] ∧ (s.unit 1).calDone = true ∧ (∀ i ∈ s.converting 1, s.gjob 1 i = none)) ∧
    (let s := gauge { fullCal := some 0x7002 }
     (s.unit 1).fullCal = some 0x7002 ∧ s.mg.acts = []) ∧
    (let c : GCourse := { course := 0, epoch := 0, dCourse := 0, final := true }
     let d : GCourse := { c with maint := true }
     c.final = true ∧ c.wanted = false ∧ d.wanted = true ∧ ({ c with final := false } : GCourse).final = false ∧
     ((gauge { courses := [d] }).unit 1).courses = [d] ∧ ((gauge { courses := [c, c] }).unit 1).courses = c :: c :: [] ∧
     (openQueue 0 (gauge { courses := [d] })).writerRefuses 613 ((openQueue 0 (gauge { courses := [d] })).eff (GA_Q.N 1)) = false) := by
  decide +kernel

/-! ## Checks, profiles, image, ledger -/
/-- Bytes of a number, least significant first. -/
def bytesOfNum : Nat → Nat → List Nat
  | 0, _ => []
  | n + 1, v => v % 256 :: bytesOfNum n (v / 256)

/-- Cells of an image memory that hold some bytes from byte 0 on; an erased byte is not listed. -/
def cellsFrom (bs : List Nat) : List Host.Cell :=
  bs.zipIdx.filterMap fun x => if x.1 = 255 then none else some (x.2, BitVec.ofNat 8 x.1)

/-- A small image, laid out by R430 to R441: SEQ 5, one profile, stopping in CONFIG. -/
def smallBytes : List Nat :=
  (bytesOfNum 544 0x18b648e94f7386d36d4248174e206710c54be5d940a1e5d94ad794671aff52470000000000000000000000000000000100000000000000000000000001ffffff0000000000000000ffffffff000400010078100400000011000400010078100000000000000000010004000100706000000000000000000000000000000000000000000000000000000000000000000000000000000000000000000000000000000000000000000000000000000000000000000000000000000000000000000000000000000000000001000100040001003000c00000000100040001003000600000000000000000000000000000000a000400010001001c00000140000400010001001800000002000400010001001000000000000000000000000000000000000000000000000000000000000000000000000000000000000000000000000000000000000000000000000000110100b07c971400000010000001f0000000186786fef000000008000001e000000013cbca928a00000018000001c00000000f6b5e15750000000c000001b00000000e2035e21c00000050000001600000000a14c2f4f8000000180000014000000009000000000000000000000140000000089bfde4f000000024000001100000000244def8e400000040000000d0000000011dca4eeb0000000000000000000000000000000000000000000000000000000000000000000000005196e711000000090000022000000005004000014b42554c)

/-- A relay of a 544-byte image with sequence number 5 into copy B. -/
def relay1 : RelaySt := { copyB := true, seq := 5, length := 544, id := 0x3001 }

theorem witness_ChecksAndUnitGroupsDecideEnables :
    (let k : Check := { kind := 3, index := 255, enable := false }
     let s : State := { inRun with boot := { checks := [k] } }
     let u : State := { s with boot := { s.boot with checks := [] } }
     inRun.boot.checks = [] ∧ s.inWarm = false ∧ s.boot.checks = k :: [] ∧ k.answer = none ∧
     (u.decideUnit k.kind k.index k.enable).isNone = true ∧ enableField k.kind k.index = some (PD_QGEN.EN 255) ∧
     k.kind ∈ [2, 3, 4, 5, 9, 10] ∧ s.running = true ∧ s.boot.changes = []) ∧
    (let k : Check := { kind := 4, index := 63, enable := true }
     let s : State := { inRun with boot := { checks := [k] } }
     let u : State := { s with boot := { s.boot with checks := [] } }
     s.boot.checks = k :: [] ∧ (u.decideUnit k.kind k.index k.enable).isSome = true) ∧
    (reachesB inRun .soffit Addr.PROF_CTRL = true ∧ reachesB inRun .soffit Addr.TRG_CTRL = true) ∧
    (takesB heard 0x04 (req 0x30000FE [2]) 0 = true ∧ wfield 2 16 112 = 0 ∧
      (∀ i, i < 2 → (enableField 3 (0xFE + i)).isSome = true) ∧ enableField 3 (0xFE + 2) = none ∧
      takesB heard 0x05 (req 0x30000FE [3]) 0 = true ∧ takesB heard 0x05 (req 0 []) 0 = true) ∧
    (let k : Check := { kind := 3, index := 254, enable := true, answer := some (.lanes 0, 1), count := 2 }
     let s : State := { inRun with boot := { checks := [k] } }
     let on := put s [(Addr.PD_QGEN 254, 1), (Addr.PD_QGEN 255, 1)]
     s.boot.checks = k :: [] ∧ k.answer = some (.lanes 0, 1) ∧ on.boot.checks = k :: [] ∧
     enableField 3 254 = some (PD_QGEN.EN 254) ∧ enableField 3 255 = some (PD_QGEN.EN 255) ∧
     on.rd (PD_QGEN.EN 254) = b2n k.enable ∧ on.rd (PD_QGEN.EN 255) = b2n k.enable) ∧
    (let k : Check := { kind := 4, index := 62, enable := true, answer := some (.lanes 0, 1), count := 2 }
     let s := { put inRun [(Addr.RC_CTRL 62, 1)] with boot := { checks := [k] } }
     let u : State := { s with boot := { s.boot with checks := [] } }
     1 < k.count ∧ enableField 4 (62 + 1) = some (RC_CTRL.EN 63) ∧ s.rd (RC_CTRL.EN 63) ≠ b2n k.enable ∧
     (u.decideUnit 4 (62 + 1) true).isSome = true ∧ enableField 4 (62 + 0) = some (RC_CTRL.EN 62) ∧
     s.rd (RC_CTRL.EN 62) = b2n k.enable) ∧
    (let k : Check := { kind := 3, index := 255, enable := false, answer := some (.lanes 0, 1) }
     let s := { put inRun [(Addr.PD_QGEN 255, 1)] with boot := { checks := [k] } }
     let u : State := { s with boot := { s.boot with checks := [] } }
     k.count = 1 ∧ s.rd (PD_QGEN.EN 255) ≠ b2n k.enable ∧ (u.decideUnit 3 255 false).isNone = true) := by decide +kernel

/-- Profiles 1 and 2 enabled and present, 1 in force, entry 7 of the schedule a time of day for 2. -/
def profiled (e : Nat) : State :=
  { put heard [(Addr.RG_GRP_CTRL 0, 0x10000), (Addr.PROF_CTRL, 6), (Addr.PROF_STAT, 1), (Addr.LG_CAL, 1)] with
    boot := { dirMask := BitVec.ofNat _ 0x1FFFFFF, profs := [(1, { present := true }), (2, { present := true })]
              sched := [0, 0, 0, 0, 0, 0, 0, BitVec.ofNat 32 e] } }

theorem witness_ProfileSwitchesAreRequested :
    (takesB (profiled 0) 0x01 (req 2 []) 0 = true ∧ (profiled 0).running = true ∧
      ((profiled 0).taken (req 2 []) 0).profileBad 2 = none ∧ (profiled 0).boot.pendProf = none ∧
      2 ≠ (profiled 0).rd PROF_STAT.CUR ∧ 1 = (profiled 0).rd PROF_STAT.CUR ∧
      takesB (profiled 0) 0x01 (req 1 []) 0 = true ∧ ((profiled 0).taken (req 1 []) 0).profileBad 1 = none ∧
      takesB (profiled 0) 0x01 (req 3 []) 0 = true ∧ (profiled 0).unitOn 12 3 = false ∧
      takesB (profiled 0) 0x01 (req 2 [0, 0]) 0 = true ∧ takesB (profiled 0) 0x01 (req 0x80000002 []) 0 = true ∧
      bitAt 0x80000002 31 = true) ∧
    (let s := put (profiled 0) [(Addr.BOOT_STAT, 8), (Addr.GLOBAL_CTRL, 0)]
     takesB s 0x01 (req 2 []) 0 = true ∧ s.running = false) ∧
    schedKind ((profiled 0).boot.sched.getD 7 0) = 0 ∧
    (schedKind ((profiled 6).boot.sched.getD 7 0) = 1 ∧ schedKind ((profiled 7).boot.sched.getD 7 0) = 1 ∧
      schedKind ((profiled 10).boot.sched.getD 7 0) = 2 ∧ schedKind ((profiled 11).boot.sched.getD 7 0) = 2 ∧
      schedKind ((profiled 22).boot.sched.getD 7 0) = 1 ∧ schedKind ((profiled 14).boot.sched.getD 7 0) = 3) ∧
    (let s := profiled (2 + 4)
     s.running = true ∧ s.inWarm = false ∧ s.boot.pendProf = none ∧ s.on LG_CAL.VALID = true ∧ s.rd CAL_SEC.SEC % 86400 = 0 ∧
     bits (s.boot.sched.getD 7 0).toNat 4 28 = 0 ∧ Tab.get 0 s.boot.schedDone 7 ≠ s.rd CAL_SEC.SEC + 1 ∧
     { s with boot := { s.boot with schedDone := Tab.set 0 s.boot.schedDone 7 1 } }.profileBad 2 = none ∧
     (profiled (3 + 4)).unitOn 12 3 = false ∧ Tab.get 0 (profiled (3 + 8)).boot.schedDone 7 = 0 ∧
     bits ((profiled (2 + 4 + 16)).boot.sched.getD 7 0).toNat 4 28 ≠ 0) := by decide +kernel

/-- The clause of `TriggerLineIsReadAndDriven` on a profile word that is followed. -/
theorem witness_TriggerLineProfileWord :
    let s := put (profiled 0) [(Addr.TIME_CFG, 0x40)]
    s.rd TIME_CFG.FL_PROFILE = 1 ∧ s.running = true ∧ s.profileBad 2 = none := by decide +kernel

theorem witness_RelaysOpenAndTakePages :
    ([(544 : Word), 545, 0x800010, 0x10000000000].all fun w => takesB heard 0x15 (req 5 [w]) 0) = true ∧
    (takesB heard 0x15 (req 5 []) 0 = true ∧ takesB heard 0x15 (req 0 [544]) 0 = true ∧ heard.seqInForce = 0 ∧
      heard.on LG_STAT.PFAIL_HOLD = false ∧ heard.mg.acts = [] ∧ wfield 0x10000000000 32 96 ≠ 0 ∧ wfield 545 0 32 % 16 ≠ 0) ∧
    (let s := put heard [(Addr.LG_STAT, 0xFFFFFFFF)]
     takesB s 0x15 (req 5 [544]) 0 = true ∧ s.on LG_STAT.PFAIL_HOLD = true) ∧
    (let a : Activity := { slot := 0, code := 3, id := 0x3001, res := [(9, 1, 1)] }
     let s : State := { heard with mg := { acts := [a] } }
     takesB s 0x15 (req 5 [544]) 0 = true ∧ s.holder [(9, b2n s.relayCopy, b2n s.relayCopy)] = some a) ∧
    (let at_ := fun (x : RelaySt) => ({ heard with boot := { heard.boot with relay := some x } } : State)
     let page := { relay1 with page := some (2, [1, 2]), answer := some (.lanes 0, 7) }
     (at_ { relay1 with page := some (0, []) }).boot.relay = some { relay1 with page := some (0, []) } ∧
     ([(0 : U32), 1, 2, 3, 16].all fun n => takesB (at_ relay1) 0x16 (req n [0]) 0) = true ∧
     (at_ relay1).relayBusy = false ∧ relay1.next = 0 ∧ 16 * 1 ≤ relay1.length ∧ 256 * 2 + 16 * 1 ≤ relay1.length ∧
     relay1.length < 256 * 2 + 16 * 3 ∧ relay1.length ≤ 256 * 3 ∧
     (at_ page).relayBusy = true ∧ takesB (at_ page) 0x16 (req 2 [0]) 0 = true ∧
     takesB heard 0x16 (req 0 [0]) 0 = true ∧ heard.boot.relay = none ∧ takesB heard 0x16 (req 0 []) 0 = true ∧
     (at_ page).boot.relay = some page ∧ page.page = some (2, [1, 2]) ∧ page.answer = some (.lanes 0, 7) ∧
     page.closing = false) ∧
    (let x := { relay1 with length := 8192, next := 16 }
     let s : State := { heard with boot := { heard.boot with relay := some x } }
     takesB s 0x16 (req 16 [0]) 0 = true ∧ x.next ≤ 16 ∧ (x.next - 1) / 16 ≠ 16 / 16 ∧ 256 * 16 + 16 ≤ x.length) := by
  decide +kernel

theorem witness_RelaysCloseOrEnd :
    (let at_ := fun (x : RelaySt) => ({ heard with boot := { heard.boot with relay := some x } } : State)
     takesB (at_ relay1) 0x17 (req 0 []) 0 = true ∧ takesB (at_ relay1) 0x17 (req 1 []) 0 = true ∧
     (at_ relay1).relayBusy = false ∧ (((at_ relay1).taken (req 0 []) 0).closeCheck relay1).toOption = none ∧
     takesB (at_ { relay1 with page := some (0, []) }) 0x17 (req 0 []) 0 = true ∧
     (at_ { relay1 with page := some (0, []) }).relayBusy = true ∧ takesB heard 0x17 (req 0 []) 0 = true ∧
     heard.boot.relay = none ∧ heard.relayBusy = false ∧ takesB heard 0x18 (req 0 []) 0 = true ∧
     takesB heard 0x18 (req 1 []) 0 = true ∧ takesB (at_ relay1) 0x18 (req 0 []) 0 = true ∧ (at_ relay1).mg.acts = [] ∧
     relay1.page = none ∧
     (let c := { relay1 with closing := true, answer := some (.lanes 0, 7), page := some (0, [1]) }
      c.closing = true ∧ c.answer = some (.lanes 0, 7) ∧ c.page ≠ none)) := by decide +kernel

/-- The small image whole but for page 0, which the relay holds: a close of it passes its check. -/
theorem witness_RelayClosePasses :
    let bs := smallBytes
    let x := { relay1 with page0 := bs.take 256 }
    let s : State := { heard with boot := { heard.boot with relay := some x, imgB := (cellsFrom bs).filter fun c => 256 ≤ c.1 } }
    takesB s 0x17 (req 0 []) 0 = true ∧ s.relayBusy = false ∧ ((s.taken (req 0 []) 0).closeCheck x).isOk = true := by
  decide +kernel

theorem witness_LedgerRecordsAreCommitted :
    (live.running = false ∧ inRun.running = true ∧ inRun.mg.writing = none ∧ inRun.mg.waiting = []) ∧
    (let s : State := { inRun with mg := { writing := some ⟨0, false, 0, []⟩, sinceBase := 2046 } }
     s.running = true ∧ s.mg.writing.isSome = true ∧ s.mg.waiting = [] ∧ 2046 ≤ s.mg.sinceBase) ∧
    (let r : LRec := ⟨3, false, 0, []⟩
     let s : State := { put inRun [(Addr.LG_HEAD, 20)] with mg := { waiting := [r], tally := [(0x740, 1)] } }
     s.mg.writing = none ∧ s.on LG_STAT.PFAIL_HOLD = false ∧ s.mg.waiting = r :: [] ∧ r.kind = 3 ∧
     s.beginsLap (r.body.length + 1) = true ∧ s.tallyOf 0x0740 ≠ 0 ∧ s.now < s.mg.lapAt + 4800 * usTf 1000000) ∧
    (let r : LRec := ⟨1, false, 0, List.replicate 63 7⟩
     let s : State := { inRun with mg := { writing := some r } }
     s.mg.writing = some r ∧ s.mg.waiting = [] ∧ r.kind ≠ 2 ∧ r.body.length ≤ 63) ∧
    (takesB heard 0x0F (req 0 []) 0 = true ∧ takesB heard 0x0F (req 1 []) 0 = true ∧
      (let a : Activity := { slot := 0, code := 8, id := 0x8001, res := [(10, 0, 0)] }
       let s : State := { heard with mg := { acts := [a] } }
       takesB s 0x0F (req 0 []) 0 = true ∧ s.holder [(10, 0, 0)] = some a) ∧
      (let s : State := { heard with mg := { writing := some ⟨0, false, 0, []⟩ } }
       takesB s 0x0F (req 0 []) 0 = true ∧ s.mg.acts = [] ∧ s.mg.writing.isSome = true ∧ s.mg.waiting = [])) := by
  decide +kernel

/-! ## Upkeep and the management cores -/

/-- An activity of a code. -/
def act1 (code : Nat) (res : List (Nat × Nat × Nat)) (unit : Nat := 0) : Activity :=
  { slot := 0, code := code, id := 0x1001, res := res, unit := unit }
/-- `heard` with one activity registered. -/
def busy (a : Activity) : State := { heard with mg := { acts := [a] } }

theorem witness_DumpsAbortsRetrainsAndSchedule :
    (takesB heard 0x10 (req 0 []) 0 = true ∧ takesB heard 0x10 (req 1 []) 0 = true ∧ heard.mg.acts = [] ∧ heard.mg.dump = none ∧
      takesB (busy (act1 9 [(8, 0, 0)])) 0x10 (req 0 []) 0 = true ∧
      (busy (act1 9 [(8, 0, 0)])).holder [(8, 0, 0)] = some (act1 9 [(8, 0, 0)])) ∧
    (let d : DumpSt := { fatal := true, id := 0x1001, at_ := 0, course := 0, epoch := 0, halted := [] }
     let s : State := { inRun with mg := { dump := some d } }
     s.mg.dump = some d ∧ d.fatal = true) ∧
    (takesB heard 0x11 (req 0x1001 []) 0 = true ∧ takesB heard 0x11 (req 0x1001 [0]) 0 = true ∧ heard.act 0x1001 = none ∧
      takesB (busy (act1 8 [])) 0x11 (req 0x1001 []) 0 = true ∧ (busy (act1 8 [])).act 0x1001 = some (act1 8 []) ∧
      takesB (busy (act1 1 [])) 0x11 (req 0x1001 []) 0 = true ∧ (busy (act1 1 [])).act 0x1001 = some (act1 1 [])) ∧
    (takesB heard 0x0D (req 0x2000000 []) 0 = true ∧ takesB heard 0x0D (req 0x1000200 []) 0 = true ∧ retrainUnit 1 0x200 = none ∧
      (retrainUnit 1 37).isSome = true ∧ heard.canRetrain 1 37 = false ∧ takesB heard 0x0D (req 0x1000025 []) 0 = true ∧
      (let s := put heard [(Addr.EV_STAT 37, 2), (Addr.EV_CTRL 37, 3)]
       takesB s 0x0D (req 0x1000025 []) 0 = true ∧ s.canRetrain 1 37 = true ∧ s.mg.acts = [] ∧ s.evState 37 ≠ evDark ∧
       s.evUp 37 = false)) ∧
    (heard.act 0x1001 = none ∧ (busy (act1 5 [] 0x1000025)).act 0x1001 = some (act1 5 [] 0x1000025)) ∧
    (let s := put inRun [(Addr.MT_SCHED_A 15, 0x119), (Addr.MT_SCHED_A 14, 0x113), (Addr.MT_SCHED_A 13, 0x13)]
     inRun.on (MT_SCHED_A.EN 15) = false ∧ s.running = true ∧ s.inWarm = false ∧ s.on (MT_SCHED_A.EN 15) = true ∧
     s.rd (MT_SCHED_A.CODE 15) = 9 ∧ s.rd (MT_SCHED_B.ARG 15) = 0 ∧ s.mg.acts = [] ∧ s.th.scrub = none ∧
     s.on (MT_SCHED_A.EN 14) = true ∧ s.rd (MT_SCHED_A.CODE 14) = 3 ∧ s.rd (MT_SCHED_A.CODE 13) = 3 ∧
     (let due := s.boot.runAt + max 1 (s.rd (MT_SCHED_A.PERIOD 14)) * usTf 1000000
      due ≤ (s.advance due).now)) := by decide +kernel

/-- Both management cores run; half `h`'s holds tenure. -/
def stewards (h : Nat) (x : MgmtSt := {}) : State :=
  { put inRun [(Addr.MG_STAT, 3 + 4 * (h + 1)), (Addr.TN_LATCH, (h + 1) * 21)] with mg := x }

theorem witness_HeartbeatsAndDeferralsAct :
    (live.mgmtUp = false ∧ inRun.mgmtUp = true ∧ (stewards 0).mgmtUp = true ∧ (stewards 0).on (aliveBit 0) = true ∧
      (stewards 0).on (aliveBit 1) = true ∧ (stewards 0).hasTenure 0 = true ∧ (stewards 0).hasTenure 1 = false) ∧
    (let s := put (stewards 0) [(Addr.MG_STAT, 5)]
     s.mgmtUp = true ∧ s.on (aliveBit 0) = true ∧ s.on (aliveBit 1) = false ∧
     (put s [(Addr.MG_STAT, 6)]).on (aliveBit 0) = false) ∧
    (let s := stewards 0 { wdogAt := [(1, 1)] }
     Tab.get 0 s.mg.wdogAt 1 ≠ 0 ∧
     (s.advance (Tab.get 0 s.mg.beatAt 1 + usTf 3000)).now < Tab.get 0 s.mg.wdogAt 1 - 1 + usTf 1000000) ∧
    (let s := stewards 0 { satAt := [(4, 1)] }
     Tab.get 0 s.mg.satAt 4 ≠ 0 ∧ s.now < Tab.get 0 s.mg.satAt 4 - 1 + usTf 100000 ∧
     Tab.get 0 s.mg.satAt 3 = 0) := by decide +kernel

theorem witness_TenureAndVotersAreKept :
    (let s := stewards 0
     reachesB s .mcN Addr.TN_CTRL = true ∧ reachesB s .mcS Addr.TN_CTRL = true ∧ s.mg.request = 0 ∧ s.hasTenure 0 = true ∧
     s.hasTenure 1 = false ∧ pathHalf .mcS = some 1) ∧
    (let s := stewards 0 { request := 2 }
     s.hasTenure 0 = true ∧ s.mg.request = 2 - 0 ∧ s.mg.request ≠ 0 ∧ reachesB s .mcN Addr.TN_CTRL = true) ∧
    (let s : State := { inRun with boot := { bounds := [(0, 2 ^ 24, 7)] } }
     reachesB s .ridge Addr.TN_CTRL = true) ∧
    (let s := put heard [(Addr.MG_STAT, 7)]
     let d := put heard [(Addr.MG_STAT, 5)]
     takesB s 0x14 (req 0 []) 0 = true ∧ takesB s 0x14 (req 2 []) 0 = true ∧ s.hasTenure 0 = true ∧
     takesB s 0x14 (req 1 []) 0 = true ∧ s.hasTenure 1 = false ∧ s.on (aliveBit 1) = true ∧ s.mg.request = 0 ∧
     takesB d 0x14 (req 1 []) 0 = true ∧ d.hasTenure 1 = false ∧ d.on (aliveBit 1) = false) ∧
    (live.mgmtUp = false ∧ latchMajority 0x15 = some 1 ∧ 0x15 = 1 * 21 ∧ latchMajority 0x16 = some 1 ∧ 0x16 ≠ 1 * 21 ∧
      latchMajority 0x24 = none ∧ latchMajority 0x3F = some 3 ∧ (stewards 0).on MG_STAT.MCN_ALIVE = ((0 : Half) == 0) ∧
      (put inRun []).on MG_STAT.MCN_ALIVE = ((1 : Half) == 0)) ∧
    (voted Addr.IDENT = false ∧ controlState Addr.IDENT = false ∧ controlState (Addr.TH_REGION 1023) = true ∧
      controlState (Addr.EV_CTRL 511) = false ∧ voted (Addr.EV_CTRL 511) = true ∧ ownerOf (Addr.EV_CTRL 511) = some (1, 511) ∧
      voted Addr.TRG_CTRL = true ∧ controlState Addr.TRG_CTRL = false ∧ ownerOf Addr.TRG_CTRL = none) := by decide +kernel

/-- A patch with no hook and no code, in core S's patch RAM. -/
def emptyPatch : List Host.Cell :=
  [(0, 0x54), (1, 0x50), (2, 0x43), (3, 0x4D), (4, 1)]

theorem witness_PatchesAreLoadedAndApplied :
    (let s := put (stewards 0) [(Addr.MG_PATCH_A, 2 ^ 31)]
     reachesB s .soffit Addr.MG_PATCH_D = true ∧ s.rd MG_PATCH_A.CORE = 1 ∧ s.hasTenure 1 = false ∧
     (stewards 0).rd MG_PATCH_A.CORE = 0 ∧ (stewards 0).hasTenure 0 = true ∧
     reachesB (stewards 0) .soffit Addr.MG_PATCH_D = true ∧ reachesB s .soffit Addr.MG_PATCH_CTRL = true ∧
     bitAt 3 0 = true ∧ bits 3 1 1 = 1 ∧ bits 1 1 1 = 0 ∧ bitAt 2 0 = false ∧ patchOk (s.patchBytes 1) = false) ∧
    (let s := stewards 0 { patchS := emptyPatch }
     reachesB s .soffit Addr.MG_PATCH_CTRL = true ∧ s.hasTenure (bits 3 1 1) = false ∧ patchOk (s.patchBytes (bits 3 1 1)) = true) := by
  decide +kernel

/-! ## Register access and the Soffit port -/

theorem witness_RegisterWritesAndReads :
    (State.reset.pins.answered = false ∧ inRun.pins.answered = true ∧ inWindow 0xFFFFFC = false ∧ regAt 0xFFFFFC = none ∧
      inWindow Addr.IDENT = false ∧ (regAt Addr.IDENT).isSome = true) ∧
    (let s : State := { State.reset with pins := { answered := true } }
     s.pins.answered = true ∧ s.pins.applied = false ∧ (regAt Addr.PROF_CTRL).isSome = true ∧ Addr.PROF_CTRL ≠ Addr.IDENT ∧
     Addr.PROF_CTRL ≠ Addr.BOOT_STAT ∧ Addr.PROF_CTRL ≠ Addr.STRAP) ∧
    (inRun.pins.applied = true ∧ inRun.inBounds Addr.TIME_CFG 0 = false ∧ (regAt Addr.TIME_CFG).isSome = true) ∧
    (inWarmReset.inWarm = true ∧ enableReg (Addr.EV_CTRL 511) = true ∧ (regAt (Addr.EV_CTRL 511)).isSome = true ∧
      inWindow (Addr.EV_CTRL 511) = false ∧ Addr.EV_CTRL 511 % 4 = 0) ∧
    (∀ a ∈ [Addr.IDENT, Addr.LG_CNT_SEL, Addr.TIME_EVT, Addr.HIP_PREF, Addr.PQ_LIM 16383], reachesB inRun .soffit a = true) ∧
    inRun.running = true ∧ live.running = false ∧ reachesB live .soffit Addr.HIP_PREF = true := by decide +kernel

theorem witness_SoffitTapAndRegisterPort :
    (0xFF : BitVec 8) ∉ ([0x00, 0x01, 0x02, 0x03, 0x04, 0x05, 0x20] : List (BitVec 8)) ∧
    (let s : State := { inRun with soffit := { ir := 0x20 } }
     s.soffit.ir = 0x20 ∧ s.pins.answered = true ∧ s.pins.applied = true ∧ regAt 0xFFFFFC = none ∧ inWindow 0xFFFFFC = false) ∧
    (bits (Addr.EV_HOLDS 511 + 2 ^ 65) 0 32 = Addr.EV_HOLDS 511 ∧ bitAt (Addr.EV_HOLDS 511 + 2 ^ 65) 64 = false ∧
      bits (Addr.TN_CTRL + 2 ^ 32 + 2 ^ 64) 0 32 = Addr.TN_CTRL ∧ bitAt (Addr.TN_CTRL + 2 ^ 32 + 2 ^ 64) 64 = true ∧
      bits (bits (Addr.TN_CTRL + 2 ^ 32 + 2 ^ 64) 32 32) 0 2 ≠ 0 ∧
      bits (Addr.LG_CNT_SEL + 2 ^ 64) 0 32 = Addr.LG_CNT_SEL ∧ bitAt (Addr.LG_CNT_SEL + 2 ^ 64) 64 = true ∧
      bitAt 0xFFFFFC 64 = false ∧ State.reset.soffit.ir ≠ 0x20) := by decide +kernel

theorem witness_EveryStepKeepsPinScanInsideReset : State.reset.scanOk ∧ ∃ t, step State.reset = .next t :=
  ⟨rfl, _, rfl⟩

/-! ## Well-formed commands: each check refuses an ill-formed one -/

/-- A directive with 17 argument words. -/
def longReq : DirReq := ⟨0, 1, 0xFFFF, 0, List.replicate 17 0⟩

theorem test_wf_directives : ([Instr.warmReset longReq, .unitReset longReq, .setTime longReq, .timingRecal longReq,
    .trigger longReq, .scrub longReq, .bankMigrate longReq, .coreRefresh longReq, .laneSpare longReq, .laneReturn longReq,
    .gaugeUrgent longReq, .gaugeCal longReq, .profile longReq, .admitUnit longReq, .retire longReq, .linkRetrain longReq,
    .ledgerCompact longReq, .dump longReq, .maintAbort longReq, .tenureMove longReq, .relayOpen longReq, .relayWrite longReq,
    .relayClose longReq, .relayCancel longReq, .badRequest 0 0 longReq.args].all fun c => !c.wf) = true := by decide

theorem test_wf_operands : ([Instr.startupCalibrationDone [⟨3, 0, 0, false, false⟩, ⟨3, 0, 0, false, false⟩] [],
    .startupCalibrationDone [] [⟨0, 0, []⟩, ⟨0, 0, []⟩], .startupCalibrationDone [] [⟨0, 0, [(5, 1), (5, 2)]⟩],
    .runWrite .soffit 2, .recalGroupDone 1 [⟨7, 0, 0, false, false⟩],
    .recalGroupDone 0 [⟨7, 0, 0, false, false⟩, ⟨7, 0, 0, false, false⟩], .ev3Codeword 0 17 false 0,
    .hipRecordFrame 0 ⟨true, true, 0, 0⟩ [], .hipRequestFrame 0 ⟨true, true, 0, 0⟩ [0], .hipResponseFrame 0 ⟨true, true, 0, 0⟩ [0],
    .announceFrame 0 [], .withdrawFrame 0 [], .gaugeFullcalDone ⟨0, 0, [(5, 1), (5, 2)]⟩, .voterRepair 2 true, .mcDeferral 0 0,
    .registerWrite .soffit 1 0, .rcCounterRead .soffit 3, .bypass 0x20].all fun c => !c.wf) = true := by decide

theorem test_wf_accepts : ([Instr.warmReset (req 0 (List.replicate 16 0)), .runWrite .soffit 1, .ev3Codeword 0 16 false 0,
    .hipRequestFrame 0 ⟨true, true, 0, 0⟩ [0, 0], .recalGroupDone 0 [⟨7, 0, 0, false, false⟩], .bypass 6,
    .mcDeferral 0 4, .rcCounterRead .soffit 4].all Instr.wf) = true := by decide

/-! ## The spec's own examples -/

/-- The examples of interpolation: F = 1,892 with g = 1,096 and off = 244 is 1,540 Tf before the stop tick. -/
theorem test_fine_part : fineTf 1892 1096 244 = (1540, false) ∧ 1000002 * 1024 - 1540 = 1024000508 := by decide

/-- The edge of R94 to R96: stop tick 1,000,002, corrections +5 and −12 Tf; coarse 1,000,000, fine 501. -/
theorem test_edge_timestamp :
    (let s := put inRun [(Addr.TCH_CTRL 17, 5), (Addr.TCH_ALIGN 17, 5), (Addr.TCH_SKEW 17, 0xFFF4)]
     (((s.setCoefs 17 0 1096 244).setCoefs 17 1 1096 244).measure 17 1000000 1892).1) = 1000000 * 1024 + 501 := by
  decide +kernel

/-- R143's example: EV3 with CABLE_NS 20 has a head of 350 words. -/
theorem test_hold_head : (put inRun [(Addr.EV_CTRL 37, 9), (Addr.EV_EQ_LO 37, 20 * 2 ^ 24)]).holdHead 37 = 350 := by decide +kernel

/-- R197's example: word 307,205 lies in bank 5. -/
theorem test_bank_of : bankOf 307205 = 5 := by decide

/-- R282's examples of the encoding: the no-operation, and MACD a0, g4, g4. -/
theorem test_core_words : (encR 0x00 0 0 0 0x06, encM 0x32 0 4 4) = (0x00000006, 0xC8110000) := by decide

/-- Words written out bit by bit from the encodings of R282, and words that are none (R284). -/
theorem test_core_decodes :
    (decodeCore 0 0x00000006).isSome = true ∧ (decodeCore 0 0xC8110000).isSome = true ∧
    (decodeCore 0 0b000001_0011_0101_111111111111111111).isSome = true ∧ (decodeCore 0 0).isNone = true ∧
    (decodeCore 0 0xFFFFFFFF).isNone = true := by decide +kernel

/-- The Shingle's worked example: two TIMES entries in 48 bits. -/
theorem test_shingle_example :
    (let m : ShModel := ⟨2, 32, 1⟩
     let st : ShLanes := ⟨[1024300, 3], [0, 0], [3200000, 128]⟩
     let c := codeAll m st [BitVec.ofNat 128 (1126452 + 0x7 * 2 ^ 32 + 1229700 * 2 ^ 64 + 0x3 * 2 ^ 96)]
     (c.bits, c.payload, c.lanes.acc)) = (48, 0x764D40863C20, [3210531, 127]) := by decide +kernel

/-- The Gauge's worked example: a PT100 at 119.30161 mV and 0.9992 mA reads 50.000 °C. -/
theorem test_pt100 : (do ptValue 11930161 999200000 (← F32.ofBits 0x42C80000) (← F32.ofBits 0)) = some 50000 := by decide +kernel

/-- R519 and R522's example: RETRAIN of port 37 and LOCK_FAIL of core 12 show as 0x88 and in their words. -/
theorem test_attention :
    (let s := put inRun [(0x102528, 1), (0x50C014, 0x10)]
     (s.attnStat, s.attnBits (Addr.EV_EVT 0) 0x100 32 32, s.attnBits (Addr.RC_EVT 0) 0x1000 0 32, Addr.EV_EVT 37, Addr.RC_EVT 12)) =
      (0x88, 0x20, 0x1000, 0x102528, 0x50C014) := by decide +kernel

/-- R270's and the register map's example: the page of queue 888, its state, and its Shingle settings. -/
theorem test_queue_page : (Addr.PQ_CFG 888, Addr.PQ_STATE 888, Addr.SH_QCFG 888, Addr.SH_QCFG_OUTQ 888) =
    (0x443780, 0x44378C, 0x641BC0, 0x641BC4) := by decide

/-- R229 and R236's example: a scrub of everything finds the migration of bank 40 and is refused with 0xE1 and its id. -/
theorem test_scrub_meets_migration :
    (match inRun.startMigration 40 with
     | some (.id n, u) => (n / 4096 == 2) && (u.startScrub 0 0x7FFFFF).1 == .refused 0xE1 n
     | _ => false) = true := by decide +kernel

/-- The debugger's peek of EV_HOLDS of port 37: STATUS 0 and the count, which stays; a consume read clears it. -/
theorem test_dbg_reg :
    (let s : State := { put inRun [(0x102558, 9)] with soffit := { ir := 0x20 } }
     let look := fun (dr : BitVec 72) => match exec (.dbgRegUpdate dr) s with
       | .next t => some (bits t.soffit.dr.toNat 32 32, bits t.soffit.dr.toNat 66 2, (t.reg 0x102558).toNat)
       | _ => none
     (look 0x102558, look (BitVec.ofNat 72 (0x102558 + 2 ^ 65)))) = (some (9, 0, 9), some (9, 0, 0)) := by decide +kernel

/-! ## Start-up -/

/-- Without a good copy the device stays in RESCUE. -/
theorem test_rescue :
    (match exec .imageReadDone (put State.reset [(Addr.BOOT_STAT, 3)]) with
     | .next t => t.rd BOOT_STAT.STAGE
     | _ => 0) = 10 := by decide +kernel

/-- No word spells a command: the table gives no bits. -/
theorem test_no_words : decodeTableWord 0 0 = none ∧ State.reset.withFetchWord 0 0 = State.reset := ⟨rfl, rfl⟩

end Sys2Proof.Tests
end

/-! SUPPORT. Handshake FIFOs, the recycling of bundles, arbitration and bank locks (R201, R209 to R221): one rule for
what each command comes to, and the statement assembled from them. -/

namespace Sys2Proof.Machine

/-! ## The state of a FIFO and the counts of its checks (R209, R212) -/

@[simp] theorem State.fifo_setFifo_same (s : State) (f : FifoId) (x : FifoSt) : (s.setFifo f x).fifo f = x := by
  simp [State.fifo, State.setFifo]

theorem State.fifo_setFifo_ne (s : State) {f g : FifoId} (x : FifoSt) (h : g.key ≠ f.key) :
    (s.setFifo f x).fifo g = s.fifo g := Tab.get_set_ne _ _ _ _ h

/-- A FIFO that is set is set, and no other FIFO and no register changes. -/
theorem State.setFifo_only (s : State) {f g : FifoId} (x : FifoSt) (h : g.key ≠ f.key) :
    (s.setFifo f x).fifo f = x ∧ (s.setFifo f x).fifo g = s.fifo g ∧ (s.setFifo f x).regs = s.regs :=
  ⟨s.fifo_setFifo_same f x, s.fifo_setFifo_ne x h, rfl⟩

@[simp] theorem State.tally_regs (s : State) (id n : Nat) : (s.tally id n).regs = s.regs := rfl

@[simp] theorem State.fifo_fifoCount (s : State) (e : Ecc) (f : FifoId) : (s.fifoCount e).fifo f = s.fifo f := by
  cases e <;> rfl

@[simp] theorem State.fifoCount_fatal (s : State) (e : Ecc) : (s.fifoCount e).mg.fatal = s.mg.fatal := by
  cases e <;> rfl

/-- A correction counts one (R212). -/
theorem State.rd_fifoCount_corrected (s : State) :
    (s.fifoCount .corrected).rd TH_FIFO_CORR.N =
      min (2 ^ TH_FIFO_CORR.N.w - 1) (s.rd TH_FIFO_CORR.N + 1) :=
  (State.rd_congr (State.tally_regs _ _ _) _).trans (s.rd_count TH_FIFO_CORR.N 1 (by decide))

/-- An uncorrectable item counts one; the event bit it sets is another register's (R212). -/
theorem State.rd_fifoCount_uncorrectable (s : State) :
    (s.fifoCount .uncorrectable).rd TH_FIFO_UNCORR.N =
      min (2 ^ TH_FIFO_UNCORR.N.w - 1) (s.rd TH_FIFO_UNCORR.N + 1) := by
  unfold State.fifoCount
  rw [State.rd_flag_other _ TH_EVT.FIFO_UNCORR TH_FIFO_UNCORR.N (by decide) (.inl (by decide)),
    State.rd_congr (State.tally_regs _ _ _), State.rd_count _ _ _ (by decide)]

/-- The state in which a FIFO's uncorrectable item is counted and marked (R212). -/
def State.fifoFailed (s : State) (f : FifoId) : State :=
  (s.fifoCount .uncorrectable).setFifo f { s.fifo f with uncorrSeen := true }

@[simp] theorem State.fifo_fifoFailed (s : State) (f : FifoId) :
    (s.fifoFailed f).fifo f = { s.fifo f with uncorrSeen := true } := State.fifo_setFifo_same _ f _

theorem State.fifo_fifoFailed_ne (s : State) {f g : FifoId} (h : g.key ≠ f.key) :
    (s.fifoFailed f).fifo g = s.fifo g :=
  (State.fifo_setFifo_ne _ _ h).trans (s.fifo_fifoCount _ g)

theorem State.badItem_of_data (s : State) (f : FifoId) (h : fifoClass f = .data) :
    (s.fifoCount .uncorrectable).badItem f = (true, s.fifoFailed f) := by
  simp only [State.badItem, State.fifoFailed, State.fifo_fifoCount, h]

theorem State.badItem_of_control (s : State) (f : FifoId) (h : fifoClass f = .control) :
    (s.fifoCount .uncorrectable).badItem f =
      (false, (s.fifoFailed f).fatality ⟨1, unitId 0 0, FifoId.index f, true, [], true⟩) := by
  simp only [State.badItem, State.fifoFailed, State.fifo_fifoCount, h]

/-! ## Pushes (R211 to R213) -/

/-- A FIFO with an item pushed behind those it holds (R211). -/
def FifoSt.pushed (q : FifoSt) (item : Word) (poison : Bool) : FifoSt := { q with items := q.items ++ [(item, poison)] }

/-- A full or refusing FIFO takes nothing (R211, R213). -/
theorem exec_fifoPush_of_held (s : State) (f : FifoId) (item : Word) (errs : Nat)
    (h : f.depth ≤ s.fifoOcc f ∨ s.fifoRefuses f = true) : exec (.fifoPush f item errs) s = .next s :=
  if_pos (by simpa using h)

section Room
variable (s : State) (f : FifoId) (item : Word) (hroom : s.fifoOcc f < f.depth) (hopen : s.fifoRefuses f = false)
include hroom hopen

/-- A FIFO with room that does not refuse is not held (R211, R213). -/
theorem State.fifo_not_held : (decide (f.depth ≤ s.fifoOcc f) || s.fifoRefuses f) = false := by
  simp [hopen, hroom]

/-- A good item enters as it is (R211). -/
theorem exec_fifoPush_clean : exec (.fifoPush f item 0) s = .next (s.setFifo f ((s.fifo f).pushed item false)) := by
  show execFifoPush f item 0 s = _
  simp [execFifoPush, s.fifo_not_held f hroom hopen, State.secded, State.fifoCount, State.garble, FifoSt.pushed]

/-- One bit in error is corrected and counted (R212). -/
theorem exec_fifoPush_corrected :
    exec (.fifoPush f item 1) s = .next ((s.fifoCount .corrected).setFifo f ((s.fifo f).pushed item false)) := by
  show execFifoPush f item 1 s = _
  simp [execFifoPush, s.fifo_not_held f hroom hopen, State.secded, State.garble, FifoSt.pushed]

/-- A DATA FIFO delivers an uncorrectable item with poison (R212). -/
theorem exec_fifoPush_of_data (h : fifoClass f = .data) :
    exec (.fifoPush f item 2) s =
      .next ((s.fifoFailed f).setFifo f (((s.fifoFailed f).fifo f).pushed item true)) := by
  show execFifoPush f item 2 s = _
  simp [execFifoPush, s.fifo_not_held f hroom hopen, State.secded, s.badItem_of_data f h, State.garble, FifoSt.pushed]

/-- In a CONTROL FIFO an uncorrectable item is fatal (R212). -/
theorem exec_fifoPush_of_control (h : fifoClass f = .control) :
    exec (.fifoPush f item 2) s =
      .next ((s.fifoFailed f).fatality ⟨1, unitId 0 0, FifoId.index f, true, [], true⟩) := by
  show execFifoPush f item 2 s = _
  simp [execFifoPush, s.fifo_not_held f hroom hopen, State.secded, s.badItem_of_control f h]

end Room

/-! ## Reads and the consumer's positions (R210) -/

/-- A read at the write point gives nothing (R210). -/
theorem exec_fifoRead_of_end (s : State) (f : FifoId) (errs : Nat) (h : (s.fifo f).items[(s.fifo f).p]? = none) :
    exec (.fifoRead f errs) s = .next s := by
  show execFifoRead f errs s = _
  simp only [execFifoRead, h]

/-- A read of a good item moves the read point past it and keeps the item as it stands (R210). -/
theorem exec_fifoRead_clean (s : State) (f : FifoId) {x : Word × Bool}
    (h : (s.fifo f).items[(s.fifo f).p]? = some x) :
    exec (.fifoRead f 0) s =
      .next (s.setFifo f { s.fifo f with items := (s.fifo f).items.set (s.fifo f).p x, p := (s.fifo f).p + 1 }) := by
  show execFifoRead f 0 s = _
  simp [execFifoRead, h, State.secded, State.fifoCount, State.garble]

/-! ## Bundles (R201) -/

theorem State.isFree_recycle (s : State) (b : Nat) : (s.recycle b).isFree b = true := by
  simp [State.isFree, State.recycle]

/-- The words a recycling leaves are other bundles' words, as they stood (R201). -/
theorem State.mem_words_recycle (s : State) (b : Nat) {x : Nat × Option TWord} (h : x ∈ (s.recycle b).th.words) :
    x.1 / 256 ≠ b ∧ x ∈ s.th.words := by
  obtain ⟨hmem, hne⟩ := List.mem_filter.mp h
  exact ⟨by simpa using hne, hmem⟩

/-- A bundle in use that nothing holds, left and not locked, is recycled, and its waiting writers go on (R201, R202). -/
theorem exec_bundleRecycle_of_left (s : State) (b : Bundle) (hused : s.isFree b.val = false) (hheld : s.holds b.val = 0)
    (hleft : s.writerLeft b.val = true) (hlock : s.bundleLocked b.val = false) :
    exec (.bundleRecycle b) s = .next (s.recycle b.val).syncPool.resumeWriters :=
  if_neg (by simp [hused, hheld, hleft, hlock])

/-- A bundle that is free, held, written or locked stays as it is (R201, R219). -/
theorem exec_bundleRecycle_of_kept (s : State) (b : Bundle)
    (h : s.isFree b.val = true ∨ s.holds b.val ≠ 0 ∨ s.writerLeft b.val = false ∨ s.bundleLocked b.val = true) :
    exec (.bundleRecycle b) s = .next s :=
  if_pos (by simpa [or_assoc] using h)

/-! ## Weights and credits (R217, R221) -/

/-- The weight field of a class in a half (R217). -/
def weightField (h cls : Nat) : Field := if h = 0 then TH_WEIGHT_N.W cls else TH_WEIGHT_S.W cls

/-- The place of a class's weight in the table of the weights in force (R221). -/
abbrev weightKey (h cls : Nat) : Nat := 12 * h + cls

/-- The weight in force is the register's, but for a weight that a write of this window left in force (R221). -/
theorem State.weight_eq (s : State) (h cls : Nat) :
    s.weight h cls =
      if Tab.get 0 s.th.weights (weightKey h cls) = 0 then s.rd (weightField h cls)
      else Tab.get 0 s.th.weights (weightKey h cls) - 1 := by
  unfold State.weight
  split
  next hz => rw [if_pos hz]; unfold weightField; split <;> rfl
  next n hn => rw [hn]; rfl

/-- The state in which the weight in force stays until the next window (R221). -/
def State.keepWeight (s : State) (h cls : Nat) : State :=
  if Tab.get 0 s.th.weights (weightKey h cls) = 0 then
    { s with th := { s.th with weights := Tab.set 0 s.th.weights (weightKey h cls) (s.weight h cls + 1) } }
  else s

theorem State.weights_keepWeight_ne_zero (s : State) (h cls : Nat) :
    Tab.get 0 (s.keepWeight h cls).th.weights (weightKey h cls) ≠ 0 := by
  unfold State.keepWeight
  split
  next => simp
  next hne => exact hne

/-- Keeping the weight of a class in force changes the weight of none in its half (R221). -/
theorem State.weight_keepWeight (s : State) (h cls c : Nat) :
    (s.keepWeight h cls).weight h c = s.weight h c := by
  unfold State.keepWeight
  split
  next hz =>
    by_cases hc : c = cls
    · subst hc; simp [State.weight_eq _ h c, hz]
    · have hk : weightKey h c ≠ weightKey h cls := by simpa [weightKey] using hc
      simp [State.weight_eq _ h c, Tab.get_set_ne _ _ _ _ hk]
  next => rfl

/-- The weight registers of two classes lie apart. -/
theorem weightField_addr_ne (h : Half) {cls c : Fin 12} (hc : c ≠ cls) :
    (weightField h c).addr ≠ (weightField h cls).addr := by
  revert h cls c; decide

theorem regAt_weightField (h : Half) (cls : Fin 12) :
    (regAt (weightField h cls).addr).map RegRow.rows = some [⟨0, 10, .rwt⟩] := by
  revert h cls; decide +kernel

/-- A write of a register whose one field is RWT writes that field (R18). -/
theorem State.codeWrite_of_rwt (s : State) (f : Field) (data : Nat)
    (h : (regAt f.addr).map RegRow.rows = some [⟨f.lo, f.w, .rwt⟩]) :
    s.codeWrite f.addr data = (.done, s.wr f (bits data f.lo f.w)) := by
  obtain ⟨r, hr, hrows⟩ := Option.map_eq_some_iff.mp h
  simp [State.codeWrite, hr, hrows, codeValue, State.wr]

@[simp] theorem weightField_lo (h cls : Nat) : (weightField h cls).lo = 0 := by unfold weightField; split <;> rfl
@[simp] theorem weightField_w (h cls : Nat) : (weightField h cls).w = 10 := by unfold weightField; split <;> rfl

/-- A weight write keeps the weight in force and writes the register (R221). -/
theorem writeWeight_eq (h : Half) (cls : Fin 12) (data : Nat) (s : State) :
    writeWeight h cls data s =
      (.done, (s.keepWeight h cls).wr (weightField h cls)
        (bits data (weightField h cls).lo (weightField h cls).w)) := by
  rw [← State.codeWrite_of_rwt _ _ _ (by simpa using regAt_weightField h cls)]
  unfold writeWeight weightField
  split <;> rfl

theorem weightField_addr (h : Half) (cls : Nat) :
    (weightField h cls).addr = if h = 0 then Addr.TH_WEIGHT_N cls else Addr.TH_WEIGHT_S cls := by
  match h with
  | 0 => rfl
  | 1 => rfl

/-- A weight write that reaches its register keeps the weight in force and writes the field (R221). -/
theorem exec_thWeightWrite_of_reaches (s : State) (p : Path) (h : Half) (cls : Fin 12) (data : U32)
    (w : s.Reaches p (weightField h cls).addr) :
    exec (.thWeightWrite p h cls data) s =
      .next ((s.keepWeight h cls).wr (weightField h cls)
        (bits data.toNat (weightField h cls).lo (weightField h cls).w)) := by
  have hwrite := writeWeight_eq h cls data.toNat s
  have hrow := s.writeRow_of_reaches p _ (writeWeight h cls data.toNat) w (by rw [hwrite]; rfl)
  rw [hwrite, weightField_addr] at hrow
  exact hrow

/-- The register of a weight write reads as written (R221). -/
theorem State.rd_weightField_wr (s : State) (h cls data : Nat) :
    (s.wr (weightField h cls) (bits data (weightField h cls).lo (weightField h cls).w)).rd (weightField h cls) =
      bits data (weightField h cls).lo (weightField h cls).w := by
  rw [State.rd_wr_same _ _ _ (by simp), Nat.mod_eq_of_lt (bits_lt _ _ _)]

/-- A weight write changes no weight in force (R221). -/
theorem State.weight_keepWeight_wr (s : State) (h : Half) (cls c : Fin 12) (v : Nat) :
    ((s.keepWeight h cls).wr (weightField h cls) v).weight h c = s.weight h c := by
  rw [← s.weight_keepWeight h cls c, State.weight_eq, State.weight_eq, State.wr_th]
  by_cases hc : c = cls
  · subst hc
    simp only [if_neg (s.weights_keepWeight_ne_zero h c)]
  · rw [State.rd_wr_other _ _ _ _ (by simp) (.inl (weightField_addr_ne h hc))]

/-- The state at the start of a window (R217). -/
def State.windowStart (s : State) : State := { s with th := { s.th with credits := [], weights := [], starveNoted := [] } }

/-- A window gives every class the weight of its register (R217). -/
theorem State.credit_windowStart (s : State) (b cls : Nat) :
    s.windowStart.credit b cls =
      if bankHalf b = 0 then s.rd (TH_WEIGHT_N.W cls) else s.rd (TH_WEIGHT_S.W cls) := rfl

/-! ## Starvation (R221) -/

/-- The register that flags the starved classes of a half (R221). -/
def starveAddr (h : Nat) : Nat := if h = 0 then Addr.TH_STARVE_N else Addr.TH_STARVE_S

/-- The state in which a starved class is flagged, with its bank and class (R221). -/
def State.starved (s : State) (b cls : Nat) : State :=
  (((s.flag ⟨starveAddr (bankHalf b), cls, 1⟩).wr TH_STARVE_LAST.BANK b).wr TH_STARVE_LAST.CLASS cls).flag TH_EVT.STARVE

/-- The state in which a starved class of the window is noted (R221). -/
def State.starveNote (s : State) (key : Nat) : State :=
  { s with th := { s.th with starveNoted := key :: s.th.starveNoted } }

@[simp] theorem State.rd_starveNote (s : State) (key : Nat) (f : Field) : (s.starveNote key).rd f = s.rd f := rfl
theorem State.starved_th (s : State) (b cls : Nat) : (s.starved b cls).th = s.th := rfl

/-- A class already noted in the window is flagged and recorded, without a NOTE (R221). -/
theorem exec_starvation_of_noted (s : State) (b : Bank) (cls : Fin 12)
    (h : (12 * bankHalf b.val + cls.val) ∈ s.th.starveNoted) :
    exec (.starvation b cls) s = .next (s.starved b cls) :=
  if_pos (by simpa using h)

/-- The first starvation of a class in the window also raises its NOTE (R221). -/
theorem exec_starvation_of_new (s : State) (b : Bank) (cls : Fin 12)
    (h : (12 * bankHalf b.val + cls.val) ∉ s.th.starveNoted) :
    exec (.starvation b cls) s =
      .next (((s.starved b cls).starveNote (12 * bankHalf b.val + cls.val)).note (bankHalf b.val)
        (starveAddr (bankHalf b.val)) cls .event b []) :=
  if_neg (by simpa using h)

theorem State.rd_starved_bank (s : State) (b : Bank) (cls : Nat) : (s.starved b cls).rd TH_STARVE_LAST.BANK = b := by
  have hb : b.val < 2 ^ TH_STARVE_LAST.BANK.w := Nat.lt_trans b.isLt (by decide)
  unfold State.starved
  rw [State.rd_flag_other _ _ _ (by decide) (.inl (by decide)), State.rd_wr_other _ _ _ _ (by decide) (.inr (by decide)),
    State.rd_wr_same _ _ _ (by decide), Nat.mod_eq_of_lt hb]

theorem State.rd_starved_class (s : State) (b : Nat) (cls : Fin 12) :
    (s.starved b cls).rd TH_STARVE_LAST.CLASS = cls := by
  have hc : cls.val < 2 ^ TH_STARVE_LAST.CLASS.w := Nat.lt_trans cls.isLt (by decide)
  unfold State.starved
  rw [State.rd_flag_other _ _ _ (by decide) (.inl (by decide)), State.rd_wr_same _ _ _ (by decide), Nat.mod_eq_of_lt hc]

theorem State.rd_starved_event (s : State) (b cls : Nat) : (s.starved b cls).rd TH_EVT.STARVE = 1 :=
  State.rd_flag _ _ (by decide) (by decide)

/-- A one-bit field that reads 1 is a set bit of its register. -/
theorem State.bitAt_of_rd_one (s : State) (a i : Nat) (h : s.rd ⟨a, i, 1⟩ = 1) : bitAt (s.reg a).toNat i = true := by
  rw [bitAt, Nat.testBit_eq_decide_div_mod_eq, decide_eq_true_eq]
  exact h

theorem starveAddr_ne (h : Nat) : starveAddr h ≠ Addr.TH_EVT ∧ starveAddr h ≠ Addr.TH_STARVE_LAST := by
  unfold starveAddr
  split <;> decide

theorem State.bitAt_starved (s : State) (b : Nat) (cls : Fin 12) :
    bitAt ((s.starved b cls).reg (starveAddr (bankHalf b))).toNat cls = true := by
  obtain ⟨hevt, hlast⟩ := starveAddr_ne (bankHalf b)
  have hw : cls.val + 1 ≤ 32 := by omega
  refine State.bitAt_of_rd_one _ _ _ ?_
  unfold State.starved
  rw [State.rd_flag_other _ _ _ hw (.inl hevt), State.rd_wr_other _ _ _ _ hw (.inl hlast),
    State.rd_wr_other _ _ _ _ hw (.inl hlast), State.rd_flag _ _ hw (Nat.le_refl 1)]

/-! ## Locks (R219, R307) -/

/-- The core whose locked sequence is broken: its stores are discarded (R307). -/
def CoreSt.lockBroken (c : CoreSt) (l : LockSeq) : CoreSt := { c with lock := some { l with broken := true, held := [] } }

theorem State.failSeq_cores (s : State) (k : Nat) : (s.failSeq k).cores = s.cores := by
  unfold State.failSeq
  split
  · split <;> rfl
  · rfl

/-- The break of an open lock fails the sequence and marks it broken (R219, R307). -/
theorem exec_lockBreak_of_open (s : State) (k : Core) {l : LockSeq} (h : (s.core k).lock = some l)
    (hb : l.broken = false) :
    exec (.lockBreak k) s = .next ((s.failSeq k).setCore k ((s.core k).lockBroken l)) := by
  have hcore : (s.failSeq k).core k = s.core k := by rw [State.core, State.failSeq_cores, State.core]
  show execLockBreak k s = _
  simp [execLockBreak, h, hb, hcore, CoreSt.lockBroken]

/-- Without a lock, or with one already broken, nothing is left to break (R307). -/
theorem exec_lockBreak_of_not_open (s : State) (k : Core)
    (h : (s.core k).lock = none ∨ ∃ l, (s.core k).lock = some l ∧ l.broken = true) :
    exec (.lockBreak k) s = .next s := by
  show execLockBreak k s = _
  obtain hn | ⟨l, hl, hb⟩ := h
  · simp [execLockBreak, hn]
  · simp [execLockBreak, hl, hb]

/-! ## The statement -/

/-- Settles O29: each clause is the rule of its command and what that rule's state reads as. -/
theorem fifosBanksAndBundlesAreShared : Obligations.FifosBanksAndBundlesAreShared := by
  unfold Obligations.FifosBanksAndBundlesAreShared
  constructor
  · intro s f g item errs hg
    refine ⟨fun hheld => ?held, fun hroom hopen => ?clean, fun hroom hopen => ?corrected,
      fun hroom hopen hdata => ?poisoned, fun hroom hopen hcontrol => ?fatal, fun x hx => ?read, fun hend => ?atEnd,
      ?mark, ?rewind, ?release⟩
    case held => exact ⟨_, exec_fifoPush_of_held s f item errs hheld, rfl⟩
    case clean => exact ⟨_, exec_fifoPush_clean s f item hroom hopen, s.setFifo_only _ hg⟩
    case corrected =>
      exact ⟨_, exec_fifoPush_corrected s f item hroom hopen, State.fifo_setFifo_same _ _ _,
        (State.fifo_setFifo_ne _ _ hg).trans (s.fifo_fifoCount _ g), s.rd_fifoCount_corrected⟩
    case poisoned =>
      refine ⟨_, exec_fifoPush_of_data s f item hroom hopen hdata, ?_,
        (State.fifo_setFifo_ne _ _ hg).trans (s.fifo_fifoFailed_ne hg), s.rd_fifoCount_uncorrectable⟩
      rw [State.fifo_setFifo_same, State.fifo_fifoFailed]; rfl
    case fatal =>
      refine ⟨_, exec_fifoPush_of_control s f item hroom hopen hcontrol, s.fifoFailed f, s.fifoCount_fatal _, ?_, rfl⟩
      rw [State.fifo_fifoFailed]
    case read => exact ⟨_, exec_fifoRead_clean s f hx, s.setFifo_only _ hg⟩
    case atEnd => exact ⟨_, exec_fifoRead_of_end s f errs hend, rfl⟩
    case mark => exact ⟨_, rfl, s.setFifo_only _ hg⟩
    case rewind => exact ⟨_, rfl, s.setFifo_only _ hg⟩
    case release => exact ⟨_, rfl, s.setFifo_only _ hg⟩
  · intro s
    refine ⟨fun b => ⟨fun hused hheld hleft hlock => ?recycled, fun hkept => ?kept⟩, ?window,
      fun p cls data => ⟨fun hn => ?weightNorth, fun hs => ?weightSouth⟩, fun b cls hnoted => ?noted,
      fun b cls hnew => ?starved, fun k => ⟨fun l hl hb => ?broken, fun hnone => ?unlocked⟩⟩
    case recycled =>
      exact ⟨_, exec_bundleRecycle_of_left s b hused hheld hleft hlock, s.recycle b, s.isFree_recycle b, rfl, rfl,
        fun _ hx => s.mem_words_recycle b hx⟩
    case kept => exact ⟨_, exec_bundleRecycle_of_kept s b hkept, rfl⟩
    case window => exact ⟨s.windowStart, rfl, fun b cls => s.credit_windowStart b cls, rfl, rfl, rfl⟩
    case weightNorth =>
      exact ⟨_, exec_thWeightWrite_of_reaches s p 0 cls data hn, State.rd_weightField_wr _ 0 cls _,
        fun c => s.weight_keepWeight_wr 0 cls c _⟩
    case weightSouth =>
      exact ⟨_, exec_thWeightWrite_of_reaches s p 1 cls data hs, State.rd_weightField_wr _ 1 cls _,
        fun c => s.weight_keepWeight_wr 1 cls c _⟩
    case noted =>
      exact ⟨_, exec_starvation_of_noted s b cls hnoted, s.rd_starved_bank b cls, s.rd_starved_class b cls,
        s.rd_starved_event b cls, s.bitAt_starved b cls, rfl⟩
    case starved =>
      refine ⟨_, exec_starvation_of_new s b cls hnew, (s.starved b cls).starveNote _, ?_, ?_, ?_, ?_, rfl⟩
      · rw [State.rd_starveNote, State.rd_starved_bank]
      · rw [State.rd_starveNote, State.rd_starved_class]
      · rw [State.rd_starveNote, State.rd_starved_event]
      · rw [State.starveNote, State.starved_th]
    case broken =>
      refine ⟨_, exec_lockBreak_of_open s k hl hb, s.failSeq k, rfl, ?_, ?_⟩
      · rw [State.core_setCore]; rfl
      · rw [State.core_setCore]
    case unlocked => exact ⟨_, exec_lockBreak_of_not_open s k hnone, rfl⟩

end Sys2Proof.Machine

/-! SUPPORT. How a rafter core issues, completes and traps (R273 to R275, R283 to R285, R295, R298 to R304): what an
instruction with nothing in its way comes to, and the statements about the ALU, the accumulators and the exceptions. -/

namespace Sys2Proof.Machine

/-! ## A change of one core and of some registers -/

/-- `t` is `s` but for core `k` and the registers at `as`. -/
structure State.Touches (s t : State) (k : Core) (as : List Nat) : Prop where
  others : ∀ m : Core, m ≠ k → t.core m = s.core m
  frame : t = { s with cores := t.cores, regs := t.regs }
  regs : ∀ a, a ∉ as → t.reg a = s.reg a

section Touches
variable {s t : State} {k : Core} {as bs : List Nat}

theorem State.Touches.refl (s : State) (k : Core) (as : List Nat) : s.Touches s k as :=
  ⟨fun _ _ => rfl, rfl, fun _ _ => rfl⟩

theorem State.Touches.mono (h : s.Touches t k as) (hsub : as ⊆ bs) : s.Touches t k bs :=
  ⟨h.others, h.frame, fun a ha => h.regs a fun hmem => ha (hsub hmem)⟩

theorem State.Touches.wr (h : s.Touches t k as) {f : Field} (v : Nat) (hf : f.addr ∈ as) : s.Touches (t.wr f v) k as where
  others := h.others
  frame := congrArg (fun u : State => { u with regs := (t.wr f v).regs }) h.frame
  regs a ha := (State.reg_wr_ne t f v (ne_of_mem_of_not_mem hf ha).symm).trans (h.regs a ha)

theorem State.Touches.setCore (h : s.Touches t k as) (x : CoreSt) : s.Touches (t.setCore k x) k as where
  others m hm := (State.core_setCore_ne t x fun hval => hm (Fin.ext hval)).trans (h.others m hm)
  frame := congrArg (fun u : State => { u with cores := (t.setCore k x).cores }) h.frame
  regs := h.regs

/-- Where no register changes, every field reads the same. -/
theorem State.Touches.rd_eq (h : s.Touches t k []) (f : Field) : t.rd f = s.rd f := by
  unfold State.rd
  rw [h.regs _ List.not_mem_nil]

end Touches

/-! ## The page of a core (R324) -/

/-- The registers that show a core as it stands (R324). -/
def corePage (k : Nat) : List Nat := [Addr.RC_STAT k, Addr.RC_PC k, Addr.RC_TASK k, Addr.RC_TCOURSE k]

theorem corePage_subset_shownBy (k : Core) : corePage k ⊆ shownBy k := by
  simp [corePage, shownBy]

theorem instr_not_mem_corePage (k : Nat) : Addr.RC_INSTR k ∉ corePage k := by
  simp [corePage, Addr.RC_INSTR, Addr.RC_STAT, Addr.RC_PC, Addr.RC_TASK, Addr.RC_TCOURSE]

theorem exc_not_mem_corePage (k : Nat) : Addr.RC_EXC k ∉ corePage k := by
  simp [corePage, Addr.RC_EXC, Addr.RC_STAT, Addr.RC_PC, Addr.RC_TASK, Addr.RC_TCOURSE]

theorem evt_not_mem_corePage (k : Nat) : Addr.RC_EVT k ∉ corePage k := by
  simp [corePage, Addr.RC_EVT, Addr.RC_STAT, Addr.RC_PC, Addr.RC_TASK, Addr.RC_TCOURSE]

@[simp] theorem State.syncCore_cores (s : State) (k : Nat) : (s.syncCore k).cores = s.cores := by
  simp only [State.syncCore, State.wr_cores]

theorem State.Touches.syncCore {s t : State} {k : Core} {as : List Nat} (h : s.Touches t k as) (hpage : corePage k ⊆ as) :
    s.Touches (t.syncCore k) k as := by
  have hmem : Addr.RC_STAT k ∈ as ∧ Addr.RC_PC k ∈ as ∧ Addr.RC_TASK k ∈ as ∧ Addr.RC_TCOURSE k ∈ as := by
    simpa [corePage] using hpage
  obtain ⟨hstat, hpc, htask, hcourse⟩ := hmem
  exact ((((((((((((h.wr _ hstat).wr _ hstat).wr _ hstat).wr _ hstat).wr _ hstat).wr _ hstat).wr _ hstat).wr _ hpc).wr _
    htask).wr _ htask).wr _ htask).wr _ hcourse)

/-- A register outside the page keeps its value. -/
theorem State.reg_syncCore (s : State) (k : Core) {a : Nat} (ha : a ∉ corePage k) : (s.syncCore k).reg a = s.reg a :=
  ((State.Touches.refl s k _).syncCore (List.Subset.refl _)).regs a ha

/-- Showing a core leaves its state as it is (R312). -/
theorem State.coreState_syncCore (s : State) (k : Nat) : (s.syncCore k).coreState k = s.coreState k := by
  simp (disch := simp [RC_STAT.STATE, RC_STAT.EXL, RC_STAT.LOCKED, RC_STAT.TASK, RC_STAT.AOV, RC_STAT.PSN, RC_STAT.KEPT,
    RC_STAT.ALLOCS, RC_PC.PC, RC_TASK.QUEUE, RC_TASK.LENT, RC_TASK.RESTARTED, RC_TCOURSE.C, Addr.RC_STAT, Addr.RC_PC,
    Addr.RC_TASK, Addr.RC_TCOURSE]) only [State.syncCore, State.coreState, State.rd_wr_other]

theorem State.rd_pc_syncCore (s : State) (k : Nat) : (s.syncCore k).rd (RC_PC.PC k) = (s.core k).pc.toNat := by
  have hpc : ∀ u : State, (u.wr (RC_PC.PC k) (s.core k).pc.toNat).rd (RC_PC.PC k) = (s.core k).pc.toNat := fun u =>
    (State.rd_wr_same u (RC_PC.PC k) _ (Nat.le_refl 32)).trans (Nat.mod_eq_of_lt (s.core k).pc.isLt)
  simp (disch := simp [RC_PC.PC, RC_TASK.QUEUE, RC_TASK.LENT, RC_TASK.RESTARTED, RC_TCOURSE.C, Addr.RC_PC, Addr.RC_TASK,
    Addr.RC_TCOURSE]) only [State.syncCore, State.rd_wr_other, hpc]

section PutCore
variable (s : State) (k : Core) (x : CoreSt)

@[simp] theorem State.core_putCore : (s.putCore k x).core k = x := by
  rw [State.putCore, State.core, State.syncCore_cores, ← State.core, State.core_setCore]

theorem State.rd_putCore {f : Field} (hf : f.addr ∉ corePage k) : (s.putCore k x).rd f = s.rd f := by
  unfold State.rd
  rw [State.putCore, State.reg_syncCore _ _ hf]; rfl

theorem State.coreState_putCore : (s.putCore k x).coreState k = s.coreState k := State.coreState_syncCore _ _

theorem State.rd_pc_putCore : (s.putCore k x).rd (RC_PC.PC k) = x.pc.toNat := by
  rw [State.putCore, State.rd_pc_syncCore, State.core_setCore]

end PutCore

theorem State.Touches.putCore {s t : State} {k : Core} {as : List Nat} (h : s.Touches t k as) (hpage : corePage k ⊆ as)
    (x : CoreSt) : s.Touches (t.putCore k x) k as := (h.setCore x).syncCore hpage

/-! ## What completing and trapping leave (R283, R301) -/

section Outcomes
variable {s u : State} {k : Core}

/-- The instruction is counted and the page shows the core (R324). -/
theorem State.ran_of_counted (hu : s.Touches u k []) (x : CoreSt) :
    s.Ran ((u.count (RC_INSTR.N k)).putCore k x) k x := by
  have hcount : s.Touches (u.count (RC_INSTR.N k)) k (shownBy k) :=
    (hu.mono (List.nil_subset _)).wr _ (by simp [shownBy, RC_INSTR.N])
  obtain ⟨hothers, hframe, hregs⟩ := hcount.putCore (corePage_subset_shownBy k) x
  refine ⟨State.core_putCore _ _ _, hothers, hframe, hregs, State.rd_pc_putCore _ _ _, ?count, ?state⟩
  case count =>
    rw [State.rd_putCore _ _ _ (instr_not_mem_corePage k), State.rd_count _ (RC_INSTR.N k) _ (Nat.le_refl 32), hu.rd_eq]
  case state =>
    rw [State.coreState_putCore, State.coreState, State.rd_count_other _ _ _ _ (by simp [RC_STAT.STATE])
      (.inl (by simp [RC_STAT.STATE, RC_INSTR.N, Addr.RC_STAT, Addr.RC_INSTR])), hu.rd_eq, State.coreState]

/-- The books of an exception: it is counted, and its event is noted (R303). -/
def State.excepted (s : State) (k : Nat) : State := (s.count (RC_EXC.N k)).flag (RC_EVT.EXC k)

theorem State.rd_exc_excepted (s : State) (k : Nat) :
    (s.excepted k).rd (RC_EXC.N k) = min (2 ^ (RC_EXC.N k).w - 1) (s.rd (RC_EXC.N k) + 1) := by
  rw [State.excepted, State.rd_flag_other _ _ (RC_EXC.N k) (Nat.le_refl 32)
    (.inl (by simp [RC_EXC.N, RC_EVT.EXC, Addr.RC_EXC, Addr.RC_EVT])), State.rd_count _ (RC_EXC.N k) _ (Nat.le_refl 32)]

theorem State.rd_evt_excepted (s : State) (k : Nat) : (s.excepted k).rd (RC_EVT.EXC k) = 1 :=
  State.rd_flag _ _ (by simp [RC_EVT.EXC]) (Nat.le_refl 1)

theorem State.coreState_excepted (s : State) (k : Nat) : (s.excepted k).coreState k = s.coreState k := by
  rw [State.coreState, State.excepted,
    State.rd_flag_other _ _ _ (by simp [RC_STAT.STATE]) (.inl (by simp [RC_STAT.STATE, RC_EVT.EXC, Addr.RC_STAT, Addr.RC_EVT])),
    State.rd_count_other _ _ _ _ (by simp [RC_STAT.STATE])
      (.inl (by simp [RC_STAT.STATE, RC_EXC.N, Addr.RC_STAT, Addr.RC_EXC])),
    State.coreState]

/-- The exception's books are kept and the page shows the core at the vector (R301, R303). -/
theorem State.trapped_of_excepted (hu : s.Touches u k []) (code ebad : Nat) :
    s.Trapped ((u.excepted k).putCore k ((s.core k).trapped code ebad)) k code ebad := by
  have hbooks : s.Touches (u.excepted k) k (Addr.RC_EXC k :: Addr.RC_EVT k :: shownBy k) :=
    ((hu.mono (List.nil_subset _)).wr _ (by simp [RC_EXC.N])).wr _ (by simp [RC_EVT.EXC])
  have hpage : corePage k ⊆ Addr.RC_EXC k :: Addr.RC_EVT k :: shownBy k :=
    List.subset_cons_of_subset _ (List.subset_cons_of_subset _ (corePage_subset_shownBy k))
  obtain ⟨hothers, hframe, hregs⟩ := hbooks.putCore hpage ((s.core k).trapped code ebad)
  refine ⟨State.core_putCore _ _ _, hothers, hframe, hregs, ?count, ?noted, ?state⟩
  case count => rw [State.rd_putCore _ _ _ (exc_not_mem_corePage k), State.rd_exc_excepted, hu.rd_eq]
  case noted => rw [State.rd_putCore _ _ _ (evt_not_mem_corePage k), State.rd_evt_excepted]
  case state => rw [State.coreState_putCore, State.coreState_excepted, State.coreState, hu.rd_eq, State.coreState]

end Outcomes

/-! ## An instruction with nothing in its way -/

/-- The core past the breakpoint at which it halted (R319). -/
def CoreSt.passed (c : CoreSt) : CoreSt := { c with bpSkip := false }

section Passed
variable (c : CoreSt)

@[simp] theorem CoreSt.passed_setReg (d : Nat) (v : U32) : c.passed.setReg d v = (c.setReg d v).passed := by
  unfold CoreSt.setReg
  split <;> rfl

@[simp] theorem CoreSt.passed_setAcc (n : Nat) (v : BitVec 40) : c.passed.setAcc n v = (c.setAcc n v).passed := by
  unfold CoreSt.setAcc
  split <;> rfl

@[simp] theorem CoreSt.passed_setCsr (n : Nat) (v : U32) : c.passed.setCsr n v = (c.setCsr n v).passed := rfl
@[simp] theorem CoreSt.passed_exl : c.passed.exl = c.exl := rfl
@[simp] theorem CoreSt.passed_reg (n : Nat) : c.passed.reg n = c.reg n := rfl
@[simp] theorem CoreSt.passed_csrAt (n : Nat) : c.passed.csrAt n = c.csrAt n := rfl
@[simp] theorem CoreSt.passed_csrBits (n lo w : Nat) : c.passed.csrBits n lo w = c.csrBits n lo w := rfl

end Passed

@[simp] theorem State.core_issued (s : State) (k : Core) : (s.issued k).core k = (s.core k).passed := State.core_setCore _ _ _

theorem State.touches_issued (s : State) (k : Core) (c : CoreSt) : s.Touches ((s.issued k).setCore k c) k [] :=
  ((State.Touches.refl s k []).setCore _).setCore c

section Issue
variable {s : State} {k : Core}

theorem State.Issues.canIssue (h : s.Issues k) (word : Nat) : s.canIssue k word = true := by
  obtain ⟨htaking, hstuck⟩ := h.waits
  simpa [State.canIssue, htaking, hstuck] using h.runs

/-- No enabled breakpoint matches (R319). -/
theorem State.Issues.bpHit_eq_none (h : s.Issues k) (i : Inst) : s.bpHit k i = none := by
  have hoff : ∀ b < 4, ∀ f w a, s.bpMatch k b f w a = false := fun b hb f w a => by
    simp [State.bpMatch, h.breaks ⟨b, hb⟩]
  rw [State.bpHit, List.find?_eq_none]
  intro b hb
  have hoff := hoff b (List.mem_range.mp hb)
  cases haccess : i.access s <;> simp [hoff]

theorem State.Issues.fetchCause_eq_none (h : s.Issues k) : (s.core k).fetchCause = none := by
  obtain ⟨haligned, hinside⟩ := h.fetch
  have hgood : (s.core k).memBad (s.core k).pc.toNat 4 = false := by simp [CoreSt.memBad, h.clean]
  simp [CoreSt.fetchCause, haligned, hgood, Nat.not_lt.mpr hinside]

/-- Good local words need no correction (R280). -/
theorem State.correctMem_of_clean (s : State) (k ea n : Nat) (h : ∀ a, Tab.get 0 (s.core k).memErr a = 0) :
    s.correctMem k ea n = s := by
  unfold State.correctMem State.each
  induction List.range (ceilDiv (ea % 4 + n) 4) with
  | nil => rfl
  | cons i is ih => simpa [h] using ih

theorem State.Issues.atLoopEnd (h : s.Issues k) : (!(s.core k).exl && (s.core k).atLoopEnd (s.core k).pc) = false := by
  obtain hexl | hend := h.loops
  · simp [hexl]
  · simp [hend]

/-- The place of an instruction bars it only in a delay slot (R285, R296). -/
theorem State.Issues.placeCauses_eq (h : s.Issues k) (i : Inst) :
    (s.issued k).placeCauses k i =
      if (s.core k).slot.isSome && (i.kind == .branch || i.kind == .task) then [(.illegal, i.word)] else [] := by
  have hend : (!(s.core k).passed.exl && (s.core k).passed.atLoopEnd (s.core k).passed.pc) = false := h.atLoopEnd
  have hlock : (s.core k).passed.lock = none := h.unlocked
  simp only [State.placeCauses, State.core_issued, hend, hlock]
  simp [CoreSt.passed]

/-- What the effect of an instruction raises of itself. -/
def Exec.causes : Exec → List (Cause × Nat)
  | .raise cs => cs
  | _ => []

/-- The state in which the effect of an instruction is complete. -/
def Exec.finish (k : Nat) (c : CoreSt) (u : State) : Exec → State
  | .next s => s.complete_ k c c.after none c.lock.isSome
  | .slot s t => s.complete_ k c (c.pc + 4) (some (c.pc, t)) false
  | .goto_ s pc => s.complete_ k c pc none false
  | .wait s => s.syncCore k
  | .idle s => (s.syncCore k).boundaryHalt k
  | .raise _ => u

/-- The breakpoints, the fetch and the checks of local memory passed, an instruction raises the worst of its causes or
completes its effect (R300). -/
theorem State.Issues.runInst_eq (h : s.Issues k) (i : Inst) :
    s.runInst k i =
      (worst ((s.issued k).placeCauses k i ++ (i.effect (s.issued k)).causes)).elim
        ((i.effect (s.issued k)).finish k (s.core k) (s.issued k)) ((s.issued k).raiseAt k) := by
  have hclean : (s.issued k).correctMem k (s.core k).pc.toNat 4 = s.issued k :=
    State.correctMem_of_clean _ _ _ _ fun a => by rw [State.core_issued]; exact h.clean a
  unfold State.runInst
  simp only [h.canIssue, h.bpHit_eq_none, h.fetchCause_eq_none, Bool.not_true, Bool.false_eq_true, if_false, ite_self,
    Option.isSome_none, Bool.and_false, Bool.or_false]
  rw [hclean]
  change (match worst ((s.issued k).placeCauses k i ++ (i.effect (s.issued k)).causes) with
    | some x => (s.issued k).raiseAt k x
    | none => (i.effect (s.issued k)).finish k (s.core k) (s.issued k)) = _
  cases worst ((s.issued k).placeCauses k i ++ (i.effect (s.issued k)).causes) <;> rfl

theorem State.Issues.runInst_of_done (h : s.Issues k) (i : Inst)
    (hworst : worst ((s.issued k).placeCauses k i ++ (i.effect (s.issued k)).causes) = none) :
    s.runInst k i = (i.effect (s.issued k)).finish k (s.core k) (s.issued k) := by
  rw [h.runInst_eq, hworst]; rfl

theorem State.Issues.runInst_of_worst (h : s.Issues k) (i : Inst) {x : Cause × Nat}
    (hworst : worst ((s.issued k).placeCauses k i ++ (i.effect (s.issued k)).causes) = some x) :
    s.runInst k i = (s.issued k).raiseAt k x := by
  rw [h.runInst_eq, hworst]; rfl

/-- Without a halt or a step due, an instruction boundary halts nothing (R318). -/
theorem State.boundaryHalt_of_quiet (s : State) (k : Nat) (hhalt : (s.core k).haltReq = false)
    (hstep : (s.core k).stepping = false) : s.boundaryHalt k = s := by
  simp [State.boundaryHalt, hhalt, hstep]

/-- An address that ends no loop leads on (R295). -/
theorem CoreSt.loopBack_of_not_end (c : CoreSt) {pc : U32} (next : U32) (h : c.atLoopEnd pc = false) :
    c.loopBack pc next = (c, next) := by
  obtain ⟨h0, h1⟩ : (c.csrAt (csrLC 0) != 0 && c.csrAt (csrLE 0) == pc) = false ∧
      (c.csrAt (csrLC 1) != 0 && c.csrAt (csrLE 1) == pc) = false := by
    simpa [CoreSt.atLoopEnd, List.any_eq_false, List.range_succ] using h
  unfold CoreSt.loopBack
  simp only [h0, h1, Bool.false_eq_true, if_false]

/-- Completing an instruction that ends no loop, with no halt due: it is counted, and control goes on (R283, R295). -/
theorem State.complete_eq (u : State) (k : Core) (before : CoreSt) (next : U32) (slot : Option (U32 × U32))
    (hloop : before.exl = true ∨ (u.core k).atLoopEnd before.pc = false) (hhalt : (u.core k).haltReq = false)
    (hstep : (u.core k).stepping = false) :
    u.complete_ k before next slot false =
      (u.count (RC_INSTR.N k)).putCore k { u.core k with pc := next, slot := slot, stuck := none } := by
  have hback : (if before.exl = true then (u.core k, next) else (u.core k).loopBack before.pc next) = (u.core k, next) := by
    obtain hexl | hend := hloop
    · rw [if_pos hexl]
    · rw [CoreSt.loopBack_of_not_end _ _ hend, ite_self]
  have hcore : (u.count (RC_INSTR.N k)).core k = u.core k := rfl
  unfold State.complete_
  simp only [hcore, hback, Bool.false_eq_true, if_false]
  refine State.boundaryHalt_of_quiet _ _ ?_ ?_ <;>
    rw [State.core, State.syncCore_cores, ← State.core, State.core_setCore]
  · exact hhalt
  · exact hstep

/-- An effect that leaves the core as `e`, which ends no loop, runs: control goes to `next` (R283, R285). -/
theorem State.ran_of_complete (e : CoreSt) (next : U32)
    (hloop : (s.core k).exl = true ∨ e.atLoopEnd (s.core k).pc = false)
    (hhalt : e.haltReq = false) (hstep : e.stepping = false) :
    s.Ran (((s.issued k).setCore k e).complete_ k (s.core k) next none false) k
      { e with pc := next, slot := none, stuck := none } := by
  have hcore : ((s.issued k).setCore k e).core k = e := State.core_setCore _ _ _
  have hran := State.ran_of_counted (s.touches_issued k e) { e with pc := next, slot := none, stuck := none }
  rw [State.complete_eq _ _ _ _ _ (by rwa [hcore]) (by rwa [hcore]) (by rwa [hcore]), hcore]
  exact hran

/-- Outside a locked sequence an exception has none to fail (R307). -/
theorem State.failSeq_excepted (u : State) (k : Nat) (hlock : (u.core k).lock = none) :
    ((u.count (RC_EXC.N k)).flag (RC_EVT.EXC k)).failSeq k = u.excepted k := by
  have hkept : (((u.count (RC_EXC.N k)).flag (RC_EVT.EXC k)).core k).lock = none := hlock
  rw [State.failSeq, hkept]; rfl

/-- Taking an exception outside a locked sequence, with EXL 0 (R301, R303). -/
theorem State.raise_eq (u : State) (k : Core) (cause : Cause) (ebad : Nat) (hexl : (u.core k).exl = false)
    (hlock : (u.core k).lock = none) (hstuck : (u.core k).stuck = none) (hskip : (u.core k).bpSkip = false) :
    u.raise k cause ebad = (u.excepted k).putCore k ((u.core k).trapped cause.code ebad) := by
  unfold State.raise
  dsimp only
  rw [if_neg (by simp [hexl]), State.failSeq_excepted u k hlock]
  congr 1
  generalize u.core k = c at hexl hlock hstuck hskip
  cases c with
  | mk _ _ _ _ _ _ slot =>
    dsimp only at hexl hlock hstuck hskip
    subst hexl hlock hstuck hskip
    cases slot <;> rfl

@[simp] theorem CoreSt.setCsr_haltReq (c : CoreSt) (n : Nat) (v : U32) : (c.setCsr n v).haltReq = c.haltReq := rfl
@[simp] theorem CoreSt.setCsr_stepping (c : CoreSt) (n : Nat) (v : U32) : (c.setCsr n v).stepping = c.stepping := rfl

@[simp] theorem CoreSt.trapped_haltReq (c : CoreSt) (code ebad : Nat) : (c.trapped code ebad).haltReq = c.haltReq := by
  simp only [CoreSt.trapped, CoreSt.setCsr_haltReq]

@[simp] theorem CoreSt.trapped_stepping (c : CoreSt) (code ebad : Nat) : (c.trapped code ebad).stepping = c.stepping := by
  simp only [CoreSt.trapped, CoreSt.setCsr_stepping]

/-- An exception other than of a local memory, with no halt due, is the exception alone (R280, R318). -/
theorem State.raiseAt_of_quiet (u : State) (k : Core) (cause : Cause) (ebad : Nat) (hcause : cause ≠ .memEcc)
    (hexl : (u.core k).exl = false) (hlock : (u.core k).lock = none) (hstuck : (u.core k).stuck = none)
    (hskip : (u.core k).bpSkip = false) (hhalt : (u.core k).haltReq = false) (hstep : (u.core k).stepping = false) :
    u.raiseAt k (cause, ebad) = (u.excepted k).putCore k ((u.core k).trapped cause.code ebad) := by
  have hquiet : u.raiseAt k (cause, ebad) = (u.raise k cause ebad).boundaryHalt k := by simp [State.raiseAt, hcause]
  rw [hquiet, State.raise_eq u k cause ebad hexl hlock hstuck hskip]
  refine State.boundaryHalt_of_quiet _ _ ?_ ?_ <;> rw [State.core_putCore]
  · rwa [CoreSt.trapped_haltReq]
  · rwa [CoreSt.trapped_stepping]

/-- An instruction of a core with EXL 0 whose worst cause is not of a local memory traps (R300, R301). -/
theorem State.Issues.trapped_of_worst (h : s.Issues k) (i : Inst) {cause : Cause} {ebad : Nat} (hcause : cause ≠ .memEcc)
    (hexl : (s.core k).exl = false)
    (hworst : worst ((s.issued k).placeCauses k i ++ (i.effect (s.issued k)).causes) = some (cause, ebad)) :
    s.Trapped (s.runInst k i) k cause.code ebad := by
  obtain ⟨hhalt, hstep⟩ := h.halts
  obtain ⟨-, hstuck⟩ := h.waits
  rw [h.runInst_of_worst i hworst, State.raiseAt_of_quiet _ _ _ _ hcause] <;> rw [State.core_issued]
  · exact State.trapped_of_excepted ((State.Touches.refl s k []).setCore _) cause.code ebad
  · exact hexl
  · exact h.unlocked
  · exact hstuck
  · rfl
  · exact hhalt
  · exact hstep

/-- Neither an instruction of these kinds, nor any outside a delay slot, is barred by its place (R285, R296). -/
theorem State.Issues.placeCauses_eq_nil (h : s.Issues k) (i : Inst)
    (hkind : i.kind = .plain ∨ i.kind = .mem ∨ i.kind = .other ∨ (s.core k).slot = none) :
    (s.issued k).placeCauses k i = [] := by
  rw [h.placeCauses_eq]
  obtain hk | hk | hk | hslot := hkind
  · simp [hk]
  · simp [hk]
  · simp [hk]
  · simp [hslot]

/-- An instruction that raises ILLEGAL with its own word traps so wherever it stands (R284, R285). -/
theorem State.Issues.trapped_of_illegal (h : s.Issues k) (i : Inst) (hexl : (s.core k).exl = false)
    (heff : i.effect (s.issued k) = .raise [(.illegal, i.word)]) : s.Trapped (s.runInst k i) k 1 i.word := by
  refine h.trapped_of_worst i (cause := .illegal) (by decide) hexl ?_
  rw [heff, h.placeCauses_eq]
  split <;> rfl

/-- An instruction whose place does not bar it traps with the one cause it raises (R300). -/
theorem State.Issues.trapped_of_raise (h : s.Issues k) (i : Inst) {cause : Cause} {ebad : Nat} (hcause : cause ≠ .memEcc)
    (hexl : (s.core k).exl = false)
    (hkind : i.kind = .plain ∨ i.kind = .mem ∨ i.kind = .other ∨ (s.core k).slot = none)
    (heff : i.effect (s.issued k) = .raise [(cause, ebad)]) : s.Trapped (s.runInst k i) k cause.code ebad := by
  refine h.trapped_of_worst i hcause hexl ?_
  rw [heff, h.placeCauses_eq_nil i hkind]
  rfl

/-! ## Effects on the operands of a core (R273, R274) -/

/-- `e` is `c` but for its operand registers. -/
def CoreSt.Operated (c e : CoreSt) : Prop := e = { c with g := e.g, a0 := e.a0, a1 := e.a1, csr := e.csr }

/-- An instruction that is not barred and leaves the core as `e`, its operands alone changed and no loop ended, runs
(R283, R285). -/
theorem State.Issues.ran_of_next (h : s.Issues k) (i : Inst) {e : CoreSt} (hop : (s.core k).Operated e)
    (hkind : i.kind = .plain ∨ i.kind = .mem ∨ i.kind = .other ∨ (s.core k).slot = none)
    (heff : i.effect (s.issued k) = .next ((s.issued k).setCore k e.passed))
    (hloop : (s.core k).exl = true ∨ e.atLoopEnd (s.core k).pc = false) :
    s.Ran (s.runInst k i) k (e.stepped (s.core k)) := by
  obtain ⟨hhalt, hstep⟩ := h.halts
  obtain ⟨-, hstuck⟩ := h.waits
  have hframe : e = { s.core k with g := e.g, a0 := e.a0, a1 := e.a1, csr := e.csr } := hop
  have hran := State.ran_of_complete (s := s) (k := k) e.passed (s.core k).after hloop
    (by rw [hframe]; exact hhalt) (by rw [hframe]; exact hstep)
  have hcore : { e.passed with pc := (s.core k).after, slot := none, stuck := none } = e.stepped (s.core k) := by
    rw [hframe]; simp [CoreSt.passed, CoreSt.stepped, hstuck]
  rw [hcore] at hran
  rw [h.runInst_of_done i (by rw [heff, h.placeCauses_eq_nil i hkind]; rfl), heff, Exec.finish, h.unlocked]
  exact hran

end Issue

theorem CoreSt.Operated.update {c e : CoreSt} (h : c.Operated e) (g : Tab U32) (a0 a1 : BitVec 40) (csr : Tab U32) :
    c.Operated { e with g := g, a0 := a0, a1 := a1, csr := csr } := by
  unfold CoreSt.Operated at h ⊢
  rw [h]

theorem CoreSt.atLoopEnd_congr {c e : CoreSt} (h : e.csr = c.csr) (pc : U32) : e.atLoopEnd pc = c.atLoopEnd pc := by
  unfold CoreSt.atLoopEnd CoreSt.csrAt
  rw [h]

/-- `e` is `c` but for its operand registers, and the same loops end where they did (R295). -/
structure CoreSt.Computes (c e : CoreSt) : Prop where
  operated : c.Operated e
  loops : ∀ pc, e.atLoopEnd pc = c.atLoopEnd pc

section Computes
variable {c e : CoreSt}

theorem CoreSt.Computes.refl (c : CoreSt) : c.Computes c := ⟨rfl, fun _ => rfl⟩

theorem CoreSt.Computes.setReg (h : c.Computes e) (d : Nat) (v : U32) : c.Computes (e.setReg d v) := by
  unfold CoreSt.setReg
  split
  · exact h
  · exact ⟨h.operated.update _ _ _ _,
      fun pc => (CoreSt.atLoopEnd_congr rfl pc).trans (h.loops pc)⟩

theorem CoreSt.Computes.setAcc (h : c.Computes e) (n : Nat) (v : BitVec 40) : c.Computes (e.setAcc n v) := by
  unfold CoreSt.setAcc
  split
  · exact ⟨h.operated.update _ _ _ _,
      fun pc => (CoreSt.atLoopEnd_congr rfl pc).trans (h.loops pc)⟩
  · exact ⟨h.operated.update _ _ _ _,
      fun pc => (CoreSt.atLoopEnd_congr rfl pc).trans (h.loops pc)⟩

theorem CoreSt.Computes.setCsr (h : c.Computes e) (n : Nat) (v : U32) (hn : ∀ l < 2, csrLC l ≠ n ∧ csrLE l ≠ n) :
    c.Computes (e.setCsr n v) where
  operated := h.operated.update _ _ _ _
  loops pc := by
    obtain ⟨hcount0, hend0⟩ := hn 0 (by decide)
    obtain ⟨hcount1, hend1⟩ := hn 1 (by decide)
    rw [← h.loops pc]
    simp [CoreSt.atLoopEnd, CoreSt.csrAt_setCsr, List.range_succ, hcount0, hend0, hcount1, hend1]

/-- A result in d with its carry in STAT (R283). -/
theorem CoreSt.computes_flagged (c : CoreSt) (d : Nat) (v stat : U32) : c.Computes ((c.setReg d v).setCsr csrSTAT stat) :=
  ((CoreSt.Computes.refl c).setReg d v).setCsr _ _ (by decide)

end Computes

/-- An instruction that computes on the core's own registers (R283). -/
def computation (k word : Nat) (f : CoreSt → CoreSt) : Inst := { word := word, kind := .plain, effect := onCore k f }

section Plain
variable {s : State} {k : Core}

theorem State.Issues.ran_of_computes (h : s.Issues k) (i : Inst) {e : CoreSt} (he : (s.core k).Computes e)
    (hkind : i.kind = .plain) (heff : i.effect (s.issued k) = .next ((s.issued k).setCore k e.passed)) :
    s.Ran (s.runInst k i) k (e.stepped (s.core k)) :=
  h.ran_of_next i he.operated (.inl hkind) heff (h.loops.imp_right fun hend => (he.loops _).trans hend)

/-- A command that issues a computation on the core's operands completes with its outcome (R283). -/
theorem State.Issues.completes_computation (h : s.Issues k) {c : Instr} {w : Nat} {f : CoreSt → CoreSt} {e : CoreSt}
    (hexec : exec c s = .next (s.runInst k (computation k w f))) (hf : f (s.core k).passed = e.passed)
    (he : (s.core k).Computes e) : s.Completes c fun t => s.Ran t k (e.stepped (s.core k)) :=
  ⟨_, hexec, h.ran_of_computes _ he rfl (by simp only [computation, onCore, State.core_issued, hf])⟩

/-- One that sets a register completes with its value (R283). -/
theorem State.Issues.completes_setReg (h : s.Issues k) {c : Instr} {w : Nat} {f : CoreSt → CoreSt} {d : Nat} {v : U32}
    (hexec : exec c s = .next (s.runInst k (computation k w f))) (hf : f (s.core k).passed = (s.core k).passed.setReg d v) :
    s.Completes c fun t => s.Ran t k (((s.core k).setReg d v).stepped (s.core k)) :=
  h.completes_computation hexec (hf.trans (CoreSt.passed_setReg _ _ _)) ((CoreSt.Computes.refl _).setReg d v)

theorem State.Issues.completes_aluR (h : s.Issues k) {c : Instr} {op fn d a b : Nat} {f : U32 → U32 → U32} {v : U32}
    (hexec : exec c s = .next (s.runInst k (aluR k op fn d a b f))) (hf : f ((s.core k).reg a) ((s.core k).reg b) = v) :
    s.Completes c fun t => s.Ran t k (((s.core k).setReg d v).stepped (s.core k)) :=
  h.completes_setReg (f := fun c => c.setReg d (f (c.reg a) (c.reg b))) hexec (by rw [← hf]; rfl)

theorem State.Issues.completes_aluI (h : s.Issues k) {c : Instr} {op d a imm : Nat} {f : U32 → U32} {v : U32}
    (hexec : exec c s = .next (s.runInst k (aluI k op d a imm f))) (hf : f ((s.core k).reg a) = v) :
    s.Completes c fun t => s.Ran t k (((s.core k).setReg d v).stepped (s.core k)) :=
  h.completes_setReg (f := fun c => c.setReg d (f (c.reg a))) hexec (by rw [← hf]; rfl)

/-- A sum or difference completes with its result in d and its carry in STAT (R283). -/
theorem State.Issues.completes_flagged (h : s.Issues k) {c : Instr} {w : Nat} {f : CoreSt → CoreSt} {d : Nat} {v stat : U32}
    (hexec : exec c s = .next (s.runInst k (computation k w f)))
    (hf : f (s.core k).passed = ((s.core k).passed.setReg d v).setCsr csrSTAT stat) :
    s.Completes c fun t => s.Ran t k ((((s.core k).setReg d v).setCsr csrSTAT stat).stepped (s.core k)) :=
  h.completes_computation hexec (by rw [hf, CoreSt.passed_setReg, CoreSt.passed_setCsr])
    (CoreSt.computes_flagged _ d v stat)

end Plain

/-! ## Results of the ALU (R283) -/

section Results
variable (x y : U32)

theorem ite_slt {α : Type} (v w : α) : (if x.slt y then v else w) = if x.toInt < y.toInt then v else w := by
  simp only [BitVec.slt_iff_toInt_lt]

theorem ite_ult {α : Type} (v w : α) : (if x.ult y then v else w) = if x.toNat < y.toNat then v else w := by
  simp only [BitVec.ult_iff_lt, BitVec.lt_def]

theorem mul_eq_ofNat : x * y = BitVec.ofNat 32 (x.toNat * y.toNat) := BitVec.eq_of_toNat_eq (by simp)

theorem absDiff_eq : absDiff x y = BitVec.ofNat 32 (max x.toNat y.toNat - min x.toNat y.toNat) := by
  unfold absDiff
  split
  next hlt =>
    have hle : x.toNat ≤ y.toNat := Nat.le_of_lt (BitVec.ult_iff_lt.mp hlt)
    rw [Nat.max_eq_right hle, Nat.min_eq_left hle]
    bv_omega
  next hge =>
    have hle : y.toNat ≤ x.toNat := Nat.le_of_not_lt fun hlt => hge (BitVec.ult_iff_lt.mpr hlt)
    rw [Nat.max_eq_left hle, Nat.min_eq_right hle]
    bv_omega

theorem immS_toInt (imm : BitVec 18) : (immS imm).toInt = imm.toInt := BitVec.toInt_signExtend_of_le (by decide)

theorem ite_slt_immS {α : Type} (imm : BitVec 18) (v w : α) :
    (if x.slt (immS imm) then v else w) = if x.toInt < imm.toInt then v else w := by
  rw [ite_slt, immS_toInt]

theorem addTo_zero (c : CoreSt) (d : Nat) :
    c.addTo d x y 0 =
      (c.setReg d (x + y)).setCsr csrSTAT (statC (c.csrAt csrSTAT) (decide (2 ^ 32 ≤ x.toNat + y.toNat))) := by
  simp [CoreSt.addTo, carryOut]

theorem subTo_zero (c : CoreSt) (d : Nat) :
    c.subTo d x y 0 = (c.setReg d (x - y)).setCsr csrSTAT (statC (c.csrAt csrSTAT) (decide (y.toNat ≤ x.toNat))) := by
  simp [CoreSt.subTo, noBorrow]

/-- The leading zeros end at the first set bit (R283). -/
theorem clz32_eq_findIdx : clz32 x = (List.range 32).findIdx fun i => x.toNat.testBit (31 - i) := by
  have hle : ((List.range 32).findIdx fun i => x.toNat.testBit (31 - i)) ≤ 32 := by
    simpa using List.findIdx_le_length (xs := List.range 32) (p := fun i => x.toNat.testBit (31 - i))
  simp [clz32, List.takeWhile_eq_take_findIdx_not, hle]

theorem clz32_le : clz32 x ≤ 32 := by
  rw [clz32_eq_findIdx]
  simpa using List.findIdx_le_length (xs := List.range 32) (p := fun i => x.toNat.testBit (31 - i))

theorem testBit_of_lt_clz32 {i : Nat} (h : i < clz32 x) : x.toNat.testBit (31 - i) = false := by
  rw [clz32_eq_findIdx] at h
  simpa using List.not_of_lt_findIdx h

theorem testBit_clz32 (h : clz32 x < 32) : x.toNat.testBit (31 - clz32 x) = true := by
  rw [clz32_eq_findIdx] at h ⊢
  have hfound := List.findIdx_getElem (xs := List.range 32) (p := fun i => x.toNat.testBit (31 - i)) (w := by simpa using h)
  simpa using hfound

theorem lt_two_pow_of_clz32 : x.toNat < 2 ^ (32 - clz32 x) := by
  refine Nat.lt_pow_two_of_testBit _ fun i hi => ?_
  by_cases hwide : 32 ≤ i
  · exact Nat.testBit_lt_two_pow (Nat.lt_of_lt_of_le x.isLt (Nat.pow_le_pow_right (by decide) hwide))
  · have hzero := testBit_of_lt_clz32 x (i := 31 - i) (by have := clz32_le x; omega)
    rwa [show 31 - (31 - i) = i by omega] at hzero

theorem two_pow_le_of_clz32 (h : clz32 x < 32) : 2 ^ (31 - clz32 x) ≤ x.toNat :=
  Nat.ge_two_pow_of_testBit (testBit_clz32 x h)

end Results

/-! ## Accumulators (R273, R298, R299) -/

theorem CoreSt.acc_setAcc_same (c : CoreSt) (n : Nat) (v : BitVec 40) : (c.setAcc n v).acc n = v := by
  unfold CoreSt.acc CoreSt.setAcc
  split <;> rfl

theorem CoreSt.acc_setAcc_ne (c : CoreSt) {n m : Nat} (v : BitVec 40) (hn : n < 2) (hm : m < 2) (h : m ≠ n) :
    (c.setAcc n v).acc m = c.acc m := by
  obtain ⟨rfl, rfl⟩ | ⟨rfl, rfl⟩ : n = 0 ∧ m = 1 ∨ n = 1 ∧ m = 0 := by omega
  · rfl
  · rfl

@[simp] theorem CoreSt.setAcc_g (c : CoreSt) (n : Nat) (v : BitVec 40) : (c.setAcc n v).g = c.g := by
  unfold CoreSt.setAcc
  split <;> rfl

/-- The core whose accumulators take the values, each through `q` (R299). -/
def CoreSt.takes (q : Int → BitVec 40) (c : CoreSt) (vs : List (Nat × Int)) : CoreSt :=
  vs.foldl (fun c v => c.setAcc v.1 (q v.2)) c

section Takes
variable (q : Int → BitVec 40) (c : CoreSt) (vs : List (Nat × Int))

theorem CoreSt.passed_takes : c.passed.takes q vs = (c.takes q vs).passed := by
  induction vs generalizing c with
  | nil => rfl
  | cons v vs ih =>
    have hstep := ih (c.setAcc v.1 (q v.2))
    rwa [← CoreSt.passed_setAcc] at hstep

theorem CoreSt.computes_takes : c.Computes (c.takes q vs) := by
  have htakes : ∀ e, c.Computes e → c.Computes (e.takes q vs) := by
    induction vs with
    | nil => exact fun e he => he
    | cons v vs ih => exact fun e he => ih _ (he.setAcc v.1 (q v.2))
  exact htakes c (.refl c)

theorem CoreSt.takes_g : (c.takes q vs).g = c.g := by
  induction vs generalizing c with
  | nil => rfl
  | cons v vs ih => exact (ih _).trans (c.setAcc_g v.1 (q v.2))

/-- Values of other accumulators leave an accumulator as it is. -/
theorem CoreSt.acc_takes_of_not_mem {n : Nat} (hn : n < 2) (hlt : ∀ v ∈ vs, v.1 < 2) (hout : n ∉ vs.map Prod.fst) :
    (c.takes q vs).acc n = c.acc n := by
  induction vs generalizing c with
  | nil => rfl
  | cons v vs ih =>
    obtain ⟨hv, hvs⟩ := List.forall_mem_cons.mp hlt
    rw [List.map_cons, List.mem_cons, not_or] at hout
    exact (ih _ hvs hout.2).trans (c.acc_setAcc_ne _ hv hn hout.1)

/-- Each of several accumulators takes its own value (R299). -/
theorem CoreSt.acc_takes (hlt : ∀ v ∈ vs, v.1 < 2) (hkeys : (vs.map Prod.fst).Nodup) :
    ∀ v ∈ vs, (c.takes q vs).acc v.1 = q v.2 := by
  induction vs generalizing c with
  | nil => simp
  | cons v vs ih =>
    obtain ⟨hv, hvs⟩ := List.forall_mem_cons.mp hlt
    obtain ⟨hout, hrest⟩ := List.nodup_cons.mp hkeys
    refine List.forall_mem_cons.mpr ⟨?head, ih _ hvs hrest⟩
    case head =>
      exact (CoreSt.acc_takes_of_not_mem q (c.setAcc v.1 (q v.2)) vs hv hvs hout).trans (c.acc_setAcc_same v.1 (q v.2))

end Takes

theorem accFits_iff (x : Int) : accFits x = true ↔ -(2 ^ 39 : Int) ≤ x ∧ x < 2 ^ 39 := by
  simp [accFits]

theorem accSat_of_fits {x : Int} (h : -(2 ^ 39 : Int) ≤ x ∧ x < 2 ^ 39) : accSat x = BitVec.ofInt 40 x := by
  obtain ⟨hlow, hhigh⟩ := h
  rw [accSat, if_neg (Int.not_le.mpr hhigh), if_neg (Int.not_lt.mpr hlow)]

theorem accSat_toInt_of_high {x : Int} (h : (2 ^ 39 : Int) ≤ x) : (accSat x).toInt = 2 ^ 39 - 1 := by
  rw [accSat, if_pos h]; rfl

theorem accSat_toInt_of_low {x : Int} (h : x < -(2 ^ 39 : Int)) : (accSat x).toInt = -(2 ^ 39 : Int) := by
  rw [accSat, if_neg (by omega), if_pos h]; rfl

/-- AOV is bit 1 of STAT, and sticky (R274, R299). -/
theorem bits_statAov (v : U32) : bits (statAov v).toNat 1 1 = 1 := by
  have hset : (statAov v).toNat.testBit 1 = true := by
    rw [statAov, BitVec.toNat_or, Nat.testBit_or]
    exact Bool.or_true _
  rw [Nat.testBit_eq_decide_div_mod_eq, decide_eq_true_eq] at hset
  exact hset

/-- The core whose accumulators take saturated values, AOV set (R299). -/
def CoreSt.saturated (c : CoreSt) (vs : List (Nat × Int)) : CoreSt :=
  (c.takes accSat vs).setCsr csrSTAT (statAov ((c.takes accSat vs).csrAt csrSTAT))

theorem CoreSt.passed_saturated (c : CoreSt) (vs : List (Nat × Int)) : c.passed.saturated vs = (c.saturated vs).passed := by
  rw [CoreSt.saturated, CoreSt.passed_takes]; rfl

theorem CoreSt.computes_saturated (c : CoreSt) (vs : List (Nat × Int)) : c.Computes (c.saturated vs) :=
  (c.computes_takes accSat vs).setCsr _ _ (by decide)

theorem CoreSt.csrBits_saturated_aov (c : CoreSt) (vs : List (Nat × Int)) : (c.saturated vs).csrBits csrSTAT 1 1 = 1 := by
  rw [CoreSt.csrBits, CoreSt.saturated, CoreSt.csrAt_setCsr, if_pos rfl, bits_statAov]

theorem all_accFits_of_fits {vs : List (Nat × Int)} (h : ∀ v ∈ vs, -(2 ^ 39 : Int) ≤ v.2 ∧ v.2 < 2 ^ 39) :
    (vs.all fun x => accFits x.2) = true :=
  List.all_eq_true.mpr fun v hv => (accFits_iff _).mpr (h v hv)

theorem all_accFits_of_overflow {vs : List (Nat × Int)} (h : ∃ v ∈ vs, v.2 < -(2 ^ 39 : Int) ∨ 2 ^ 39 ≤ v.2) :
    (vs.all fun x => accFits x.2) = false := by
  obtain ⟨v, hv, hout⟩ := h
  refine List.all_eq_false.mpr ⟨v, hv, ?_⟩
  rw [accFits_iff]
  omega

theorem CoreSt.takes_accSat_of_fits (c : CoreSt) {vs : List (Nat × Int)}
    (h : ∀ v ∈ vs, -(2 ^ 39 : Int) ≤ v.2 ∧ v.2 < 2 ^ 39) : c.takes accSat vs = c.takes (BitVec.ofInt 40) vs := by
  induction vs generalizing c with
  | nil => rfl
  | cons v vs ih =>
    obtain ⟨hv, hvs⟩ := List.forall_mem_cons.mp h
    have hstep := ih (c.setAcc v.1 (accSat v.2)) hvs
    rw [accSat_of_fits hv] at hstep
    simpa only [CoreSt.takes, List.foldl_cons, accSat_of_fits hv] using hstep

section AccTake
variable {k : Nat} {vals : CoreSt → List (Nat × Int)} {u : State} {c : CoreSt} {vs : List (Nat × Int)}
  (hcore : u.core k = c) (hvals : vals c = vs)
include hcore hvals

/-- Results in range are kept exactly (R299). -/
theorem accTake_of_fits (h : ∀ v ∈ vs, -(2 ^ 39 : Int) ≤ v.2 ∧ v.2 < 2 ^ 39) :
    accTake k vals u = .next (u.setCore k (c.takes (BitVec.ofInt 40) vs)) := by
  simp only [accTake, hcore, hvals, all_accFits_of_fits h, Bool.not_true, Bool.false_and, Bool.false_eq_true, if_false, if_true]
  rw [← c.takes_accSat_of_fits h]; rfl

/-- A result out of range saturates, and AOV is set (R299). -/
theorem accTake_of_saturated (h : ∃ v ∈ vs, v.2 < -(2 ^ 39 : Int) ∨ 2 ^ 39 ≤ v.2) (hovt : c.csrBits csrMODE 0 1 = 0) :
    accTake k vals u = .next (u.setCore k (c.saturated vs)) := by
  simp only [accTake, hcore, hvals, all_accFits_of_overflow h, hovt, Bool.not_false, Bool.true_and, Bool.false_eq_true,
    if_false]
  rfl

/-- Under OVT a result out of range raises OVERFLOW (R299). -/
theorem accTake_of_trapping (h : ∃ v ∈ vs, v.2 < -(2 ^ 39 : Int) ∨ 2 ^ 39 ≤ v.2) (hovt : c.csrBits csrMODE 0 1 = 1) :
    accTake k vals u = .raise [(.overflow, 0)] := by
  simp [accTake, hcore, hvals, all_accFits_of_overflow h, hovt]

end AccTake

/-- What a MAC-group instruction with the exact results `vs` comes to (R298, R299). -/
def State.Accumulates (s : State) (k : Core) (c : Instr) (vs : List (Nat × Int)) : Prop :=
  ((∀ v ∈ vs, -(2 ^ 39 : Int) ≤ v.2 ∧ v.2 < 2 ^ 39) →
    s.Completes c fun t => s.Ran t k (((s.core k).takes (BitVec.ofInt 40) vs).stepped (s.core k))) ∧
  ((∃ v ∈ vs, v.2 < -(2 ^ 39 : Int) ∨ 2 ^ 39 ≤ v.2) → (s.core k).csrBits csrMODE 0 1 = 0 →
    s.Completes c fun t => ∃ e : CoreSt, s.Ran t k e ∧ e.csrBits csrSTAT 1 1 = 1 ∧ e.g = (s.core k).g ∧
      ∀ v ∈ vs, (2 ^ 39 ≤ v.2 → (e.acc v.1).toInt = 2 ^ 39 - 1) ∧
        (v.2 < -(2 ^ 39 : Int) → (e.acc v.1).toInt = -(2 ^ 39 : Int))) ∧
  ((∃ v ∈ vs, v.2 < -(2 ^ 39 : Int) ∨ 2 ^ 39 ≤ v.2) → (s.core k).csrBits csrMODE 0 1 = 1 → (s.core k).exl = false →
    s.Completes c fun t => s.Trapped t k 5 0)

/-- An instruction whose accumulators take exact results (R283). -/
def accumulation (k word : Nat) (vals : CoreSt → List (Nat × Int)) : Inst :=
  { word := word, kind := .plain, effect := accTake k vals }

section Accumulate
variable {s : State} {k : Core}

/-- A MAC-group instruction accumulates its exact results, each in an accumulator of its own (R299). -/
theorem State.Issues.accumulates (h : s.Issues k) {c : Instr} {w : Nat} {vals : CoreSt → List (Nat × Int)}
    {vs : List (Nat × Int)} (hexec : exec c s = .next (s.runInst k (accumulation k w vals)))
    (hvals : vals (s.core k).passed = vs) (hlt : ∀ v ∈ vs, v.1 < 2) (hkeys : (vs.map Prod.fst).Nodup) :
    s.Accumulates k c vs := by
  have hcore := s.core_issued k
  refine ⟨fun hfits => ?fits, fun hout hovt => ?saturated, fun hout hovt hexl => ?trapping⟩
  case fits =>
    exact ⟨_, hexec, h.ran_of_computes _ ((s.core k).computes_takes _ vs) rfl
      ((accTake_of_fits hcore hvals hfits).trans (by rw [CoreSt.passed_takes]))⟩
  case saturated =>
    refine ⟨_, hexec, _, h.ran_of_computes _ ((s.core k).computes_saturated vs) rfl
      ((accTake_of_saturated hcore hvals hout hovt).trans (by rw [CoreSt.passed_saturated])),
      (s.core k).csrBits_saturated_aov vs, (s.core k).takes_g accSat vs, fun v hv => ?_⟩
    have hacc : (((s.core k).saturated vs).stepped (s.core k)).acc v.1 = accSat v.2 :=
      (s.core k).acc_takes accSat vs hlt hkeys v hv
    rw [hacc]
    exact ⟨accSat_toInt_of_high, accSat_toInt_of_low⟩
  case trapping =>
    exact ⟨_, hexec, h.trapped_of_raise _ (cause := .overflow) (by decide) hexl (.inl rfl)
      (accTake_of_trapping hcore hvals hout hovt)⟩

/-- An instruction on one accumulator (R283). -/
theorem State.Issues.accumulates_one (h : s.Issues k) {c : Instr} {w : Nat} {vals : CoreSt → List (Nat × Int)} {n : Fin 2}
    {v : Int} (hexec : exec c s = .next (s.runInst k (accumulation k w vals)))
    (hvals : vals (s.core k).passed = [(n.val, v)]) : s.Accumulates k c [(n.val, v)] :=
  h.accumulates hexec hvals (List.forall_mem_singleton.mpr n.isLt)
    (List.nodup_cons.mpr ⟨List.not_mem_nil, List.nodup_nil⟩)

end Accumulate

/-- Settles O33: each ALU instruction is a computation on the core's operands, and each MAC-group instruction accumulates
its exact results. -/
theorem aluAndAccumulatorInstructionsCompute : Obligations.AluAndAccumulatorInstructionsCompute := by
  unfold Obligations.AluAndAccumulatorInstructionsCompute
  constructor
  · rintro s k d a b imm sh up c x y h rfl rfl rfl
    refine ⟨rfl, fun _ => rfl, fun hd v => ?written, ?results, ?clz, ?sums⟩
    case written => rw [CoreSt.reg_setReg _ _ _ _ (fun h0 => hd (Fin.ext h0)), if_pos rfl]
    case results =>
      simp only [List.forall_mem_cons, List.not_mem_nil, false_imp_iff, implies_true, and_true]
      exact ⟨
        -- AND, OR, XOR and the shifts
        h.completes_aluR rfl rfl, h.completes_aluR rfl rfl, h.completes_aluR rfl rfl, h.completes_aluR rfl rfl,
        h.completes_aluR rfl rfl, h.completes_aluR rfl rfl,
        -- SLT, SLTU
        h.completes_aluR rfl (ite_slt _ _ _ _), h.completes_aluR rfl (ite_ult _ _ _ _),
        -- MUL, MULHS, MULHU
        h.completes_aluR rfl (mul_eq_ofNat _ _), h.completes_aluR rfl rfl, h.completes_aluR rfl rfl,
        -- MIN, MAX, ABSD
        h.completes_aluR rfl (ite_slt _ _ _ _), h.completes_aluR rfl (ite_slt _ _ _ _), h.completes_aluR rfl (absDiff_eq _ _),
        -- the immediate forms
        h.completes_aluI rfl rfl, h.completes_aluI rfl rfl, h.completes_aluI rfl rfl, h.completes_aluI rfl rfl,
        h.completes_aluI rfl rfl, h.completes_aluI rfl rfl, h.completes_aluI rfl (ite_slt_immS _ _ _ _),
        h.completes_aluI rfl (ite_ult _ _ _ _), h.completes_setReg rfl rfl⟩
    case clz =>
      obtain ⟨t, hexec, hran⟩ : s.Completes (.clz k d a) fun t =>
          s.Ran t k (((s.core k).setReg d (BitVec.ofNat 32 (clz32 ((s.core k).reg a)))).stepped (s.core k)) :=
        h.completes_aluR rfl rfl
      exact ⟨t, hexec, _, hran, clz32_le _, lt_two_pow_of_clz32 _, two_pow_le_of_clz32 _⟩
    case sums =>
      simp only [List.forall_mem_cons, List.not_mem_nil, false_imp_iff, implies_true, and_true]
      exact ⟨h.completes_flagged rfl (addTo_zero _ _ _ _), h.completes_flagged rfl (subTo_zero _ _ _ _),
        h.completes_flagged rfl rfl, h.completes_flagged rfl rfl, h.completes_flagged rfl (addTo_zero _ _ _ _)⟩
  · rintro s k n d a b sh sr c al bl ah bh w h rfl rfl rfl rfl rfl rfl
    refine ⟨?accumulators, h.completes_setReg rfl rfl, h.completes_setReg rfl rfl⟩
    have hpair : s.Accumulates k (.macp k a b) [(0, ((s.core k).acc 0).toInt + (s.core k).loMul a b),
        (1, ((s.core k).acc 1).toInt + (s.core k).hiMul a b)] :=
      h.accumulates rfl rfl (by simp) (by simp)
    intro p hp
    change s.Accumulates k p.1 p.2
    revert p
    simp only [List.forall_mem_cons, List.not_mem_nil, false_imp_iff, implies_true, and_true]
    exact ⟨h.accumulates_one rfl rfl, h.accumulates_one rfl rfl, h.accumulates_one rfl rfl, hpair,
      h.accumulates_one rfl rfl, h.accumulates_one rfl rfl, h.accumulates_one rfl rfl,
      h.accumulates_one rfl rfl, h.accumulates_one rfl rfl, h.accumulates_one rfl rfl⟩

/-! ## CSRs (R274) -/

section Csr
variable {s : State} {k : Core}

/-- Passing a breakpoint changes no CSR as MFC reads it (R274). -/
theorem State.csrRead_issued (s : State) (k : Core) (n : Nat) : (s.issued k).csrRead k n = s.csrRead k n := by
  unfold State.csrRead
  rw [State.core_issued]; rfl

/-- A CSR of access RW reads as the core keeps it (R274). -/
theorem State.csrRead_of_rw (s : State) (k : Core) {n : Nat} (h : csrRW n = true) : s.csrRead k n = (s.core k).csrAt n := by
  have hlow : n < 0x18 := by
    simp only [csrRW, Bool.or_eq_true, Bool.and_eq_true, decide_eq_true_eq, beq_iff_eq] at h
    omega
  have hne : ∀ m, 0x18 ≤ m → n ≠ m := fun m hm => by omega
  simp [State.csrRead, hne]

theorem CoreSt.operated_setCsr (c : CoreSt) (n : Nat) (v : U32) : c.Operated (c.setCsr n v) := rfl

/-- A CSR that latches nothing reads into d (R274). -/
theorem State.Issues.completes_mfc (h : s.Issues k) (d : GReg) {csr : BitVec 10} {v : U32}
    (hthere : csrRW csr.toNat = true ∨ csrRO csr.toNat = true) (hlatch : csr.toNat ≠ 0x1A) (hv : s.csrRead k csr.toNat = v) :
    s.Completes (.mfc k d csr) fun t => s.Ran t k (((s.core k).setReg d v).stepped (s.core k)) := by
  refine ⟨_, rfl, h.ran_of_computes _ ((CoreSt.Computes.refl _).setReg d v) rfl ?_⟩
  have hgate : (!csrRW csr.toNat && !csrRO csr.toNat) = false := by
    obtain hrw | hro := hthere
    · simp [hrw]
    · simp [hro]
  simp only [hgate, Bool.false_eq_true, if_false, hlatch, State.csrRead_issued, hv, State.core_issued, CoreSt.passed_setReg]

/-- Reading TIMEL latches TIMEH (R274). -/
theorem State.Issues.completes_mfc_timel (h : s.Issues k) (d : GReg) :
    s.Completes (.mfc k d 0x1A) fun t =>
      s.Ran t k ((((s.core k).setCsr csrTIMEH (BitVec.ofNat 32 (stamp s.now / 2 ^ 32))).setReg d
        (BitVec.ofNat 32 (stamp s.now))).stepped (s.core k)) := by
  refine ⟨_, rfl, h.ran_of_computes _ (((CoreSt.Computes.refl _).setCsr csrTIMEH _ (by decide)).setReg d _) rfl ?_⟩
  rw [← CoreSt.passed_setReg, ← CoreSt.passed_setCsr, ← State.core_issued]
  rfl

end Csr

/-! ## Exceptions (R300 to R304) -/

section Exceptions
variable {s : State} {k : Core}

/-- The core that a second exception leaves: the place stands, and no step or halt is due any more (R304). -/
def CoreSt.doubleFaulted (c : CoreSt) : CoreSt :=
  { c with lock := none, slot := none, stuck := none, stepping := false, haltReq := false }

/-- The state in which a second exception has put core `k` in FAULT (R304). -/
def State.doubleFaulted (s : State) (k : Nat) : State :=
  ((s.excepted k).setCoreState k rcFault).putCore k (s.core k).doubleFaulted

/-- A second exception, with EXL 1, is a double fault (R304). -/
theorem State.raise_of_exl (u : State) (k : Core) (cause : Cause) (ebad : Nat) (hlock : (u.core k).lock = none)
    (hexl : (u.core k).exl = true) :
    u.raise k cause ebad = (u.doubleFaulted k).event (k / 32) (RC_EVT.DFAULT k) (unitId 4 k) := by
  unfold State.raise
  dsimp only
  rw [if_pos hexl, State.failSeq_excepted u k hlock, hlock]
  rfl

theorem State.coreState_doubleFaulted (u : State) (k : Core) : (u.doubleFaulted k).coreState k = rcFault := by
  rw [State.doubleFaulted, State.coreState_putCore, State.coreState, State.setCoreState,
    State.rd_wr_same _ _ _ (by simp [RC_STAT.STATE])]
  rfl

theorem State.rd_evt_doubleFaulted (u : State) (k : Core) : (u.doubleFaulted k).rd (RC_EVT.EXC k) = 1 := by
  rw [State.doubleFaulted, State.rd_putCore _ _ _ (evt_not_mem_corePage k), State.setCoreState,
    State.rd_wr_other _ _ _ _ (by simp [RC_EVT.EXC]) (.inl (by simp [RC_EVT.EXC, RC_STAT.STATE, Addr.RC_EVT, Addr.RC_STAT])),
    State.rd_evt_excepted]

/-- TRAP while EXL is 1 is a double fault (R304). -/
theorem State.Issues.exec_trap_of_exl (h : s.Issues k) (imm : BitVec 10) (hexl : (s.core k).exl = true) :
    exec (.trap k imm) s =
      .next ((((s.issued k).doubleFaulted k).event (k / 32) (RC_EVT.DFAULT k) (unitId 4 k)).boundaryHalt k) := by
  have hraise := State.raise_of_exl (s.issued k) k .trap imm.toNat (by rw [State.core_issued]; exact h.unlocked)
    (by rw [State.core_issued]; exact hexl)
  rw [← hraise]
  refine congrArg Host.Outcome.next (h.runInst_of_worst _ (x := (.trap, imm.toNat)) ?_)
  rw [h.placeCauses_eq_nil _ (.inr (.inr (.inl rfl)))]
  rfl

/-- RETE goes back to the saved place and mode (R302). -/
theorem State.Issues.completes_rete (h : s.Issues k) (hexl : (s.core k).exl = true) (hslot : (s.core k).slot = none)
    (hmode : (s.core k).csrBits csrEMODE 2 2 ≠ 3) :
    s.Completes (.rete k) fun t =>
      s.Ran t k { (s.core k).setCsr csrMODE ((s.core k).csrAt csrEMODE) with
        exl := false, pc := (s.core k).csrAt csrEPC, bpSkip := false } := by
  obtain ⟨hhalt, hstep⟩ := h.halts
  obtain ⟨-, hstuck⟩ := h.waits
  have hran := State.ran_of_complete (s := s) (k := k)
    { (s.core k).passed.setCsr csrMODE ((s.core k).csrAt csrEMODE) with exl := false } ((s.core k).csrAt csrEPC)
    (.inl hexl) hhalt hstep
  have hback : { { (s.core k).passed.setCsr csrMODE ((s.core k).csrAt csrEMODE) with exl := false } with
        pc := (s.core k).csrAt csrEPC, slot := none, stuck := none } =
      { (s.core k).setCsr csrMODE ((s.core k).csrAt csrEMODE) with
        exl := false, pc := (s.core k).csrAt csrEPC, bpSkip := false } := by
    simp [CoreSt.passed, CoreSt.setCsr, CoreSt.csrAt, hslot, hstuck]
  have hallowed : (!(s.core k).passed.exl || (s.core k).passed.csrBits csrEMODE 2 2 == 3) = false := by
    simpa [hexl] using hmode
  rw [hback] at hran
  refine ⟨_, rfl, ?_⟩
  rw [h.runInst_of_done]
  · simp only [State.core_issued, hallowed, Bool.false_eq_true, if_false, Exec.finish]
    exact hran
  · rw [h.placeCauses_eq_nil _ (.inr (.inr (.inr hslot)))]
    simp only [State.core_issued, hallowed, Bool.false_eq_true, if_false]
    rfl

end Exceptions

/-- Settles O36: the causes that an instruction raises trap, a second one faults, and what raises none runs. -/
theorem exceptionsAreTakenAndLeft : Obligations.ExceptionsAreTakenAndLeft := by
  unfold Obligations.ExceptionsAreTakenAndLeft
  rintro s k d a csr imm w c h rfl
  refine ⟨fun hexl => ⟨?trap, fun hnone => ?illegal, ?rete, fun hrw hro => ?mfc, fun hrw => ?mtc⟩, fun hsome => ?listed,
    fun hexl => ?double, h.completes_rete, fun hrw => ?read, ?shown, h.completes_mfc_timel d,
    fun hslot hrw hmode hloop => ?written⟩
  case trap => exact ⟨_, rfl, h.trapped_of_raise _ (cause := .trap) (by decide) hexl (.inr (.inr (.inl rfl))) rfl⟩
  case illegal =>
    have hexec : exec (.illegalInstruction k w) s = .next (illegalWord k w.toNat s) := by
      show execIllegalInstruction k w s = _
      rw [execIllegalInstruction, hnone]
    exact ⟨_, hexec, h.trapped_of_illegal _ hexl rfl⟩
  case rete =>
    refine ⟨_, rfl, h.trapped_of_illegal _ hexl (if_pos ?_)⟩
    rw [State.core_issued, CoreSt.passed_exl, hexl]; rfl
  case mfc => exact ⟨_, rfl, h.trapped_of_illegal _ hexl (if_pos (by rw [hrw, hro]; rfl))⟩
  case mtc => exact ⟨_, rfl, h.trapped_of_illegal _ hexl (if_pos (by rw [hrw]; rfl))⟩
  case listed =>
    obtain ⟨f, hf⟩ := Option.ne_none_iff_exists'.mp hsome
    refine ⟨s, ?_, rfl⟩
    show execIllegalInstruction k w s = _
    rw [execIllegalInstruction, hf]
  case double =>
    have hcore : ((s.issued k).doubleFaulted k).core k = (s.core k).passed.doubleFaulted := by
      rw [State.doubleFaulted, State.core_putCore, State.core_issued]
    exact ⟨_, h.exec_trap_of_exl imm hexl, (s.issued k).doubleFaulted k, State.coreState_doubleFaulted _ _,
      State.rd_evt_doubleFaulted _ _, by rw [hcore]; rfl, by rw [hcore]; rfl, rfl⟩
  case read =>
    have hlatch : csr.toNat ≠ 0x1A := fun heq => absurd (heq ▸ hrw) (by decide)
    exact h.completes_mfc d (.inl hrw) hlatch (State.csrRead_of_rw s k hrw)
  case shown =>
    simp only [List.forall_mem_cons, List.not_mem_nil, false_imp_iff, implies_true, and_true]
    exact ⟨h.completes_mfc d (.inr rfl) (by decide) rfl, h.completes_mfc d (.inr rfl) (by decide) rfl,
      h.completes_mfc d (.inr rfl) (by decide) rfl, h.completes_mfc d (.inr rfl) (by decide) rfl,
      h.completes_mfc d (.inr rfl) (by decide) rfl, h.completes_mfc d (.inr rfl) (by decide) rfl⟩
  case written =>
    have hwrites : (!csrRW csr.toNat || (csr.toNat == csrMODE && bits ((s.core k).reg a).toNat 2 2 == 3)) = false := by
      simpa [hrw] using hmode
    refine ⟨_, rfl, h.ran_of_next _ ((s.core k).operated_setCsr csr.toNat _) (.inr (.inr (.inr hslot))) ?_ hloop⟩
    simp only [State.core_issued, CoreSt.passed_reg, CoreSt.passed_csrAt, CoreSt.passed_setCsr, hwrites, Bool.false_eq_true,
      if_false]

end Sys2Proof.Machine

/-! SUPPORT. Tenure and the voters (R22, R464, R475 to R479, R502, R512): what the latch holds after each way it is set, what a
write of TN_CTRL and TENURE_MOVE come to, and the statement assembled from them. -/

namespace Sys2Proof.Machine

/-! ## Tallies and EVENT records (R485 to R488) -/

theorem State.tallyOf_congr {s t : State} (h : s.mg = t.mg) (id : Nat) : s.tallyOf id = t.tallyOf id := by
  unfold State.tallyOf; rw [h]

/-- A counted event is one more in its tally, of 48 bits outside the units' range (R485, R486). -/
theorem State.tallyOf_tally (s : State) {id : Nat} (h : id < 0x200 ∨ 0x427 < id) :
    (s.tally id).tallyOf id = min (2 ^ 48 - 1) (s.tallyOf id + 1) := by
  have hwide : (decide (0x200 ≤ id) && decide (id ≤ 0x427)) = false := by
    rw [Bool.and_eq_false_iff, decide_eq_false_iff_not, decide_eq_false_iff_not]
    omega
  simp only [State.tally, State.setTally, State.tallyOf, hwide, Bool.false_eq_true, if_false, Tab.get_set_same]

section LedgerEvent
variable (s : State) (code : Nat) (args : List Nat)

theorem State.rd_ledgerEvent {f : Field} (hf : f.lo + f.w ≤ 32) (h : f.addr ≠ Addr.LG_EVT_SUPP) :
    (s.ledgerEvent code args).rd f = s.rd f := by
  unfold State.ledgerEvent
  dsimp only
  split
  · exact State.rd_count_other _ _ _ _ hf (.inl h)
  · rfl

@[simp] theorem State.tallyOf_ledgerEvent (id : Nat) : (s.ledgerEvent code args).tallyOf id = s.tallyOf id := by
  unfold State.ledgerEvent
  dsimp only
  split <;> rfl

@[simp] theorem State.ledgerEvent_request : (s.ledgerEvent code args).mg.request = s.mg.request := by
  unfold State.ledgerEvent
  dsimp only
  split <;> rfl

end LedgerEvent

/-! ## The latch (R475) -/

/-- The latch's majority and its three copies name the owner `v` (R475). -/
def State.latched (s : State) (v : Nat) : State := (s.wr MG_STAT.TENURE v).wr TN_LATCH.COPIES (v * 21)

theorem State.setTenure_eq (s : State) (h : Nat) : s.setTenure h = s.latched (h + 1) := rfl

@[simp] theorem State.latched_mg (s : State) (v : Nat) : (s.latched v).mg = s.mg := rfl

theorem State.rd_tenure_latched (s : State) {v : Nat} (h : v < 4) : (s.latched v).rd MG_STAT.TENURE = v := by
  unfold State.latched
  rw [State.rd_wr_other _ _ _ _ (by decide) (.inl (by decide)), State.rd_wr_same _ _ _ (by decide)]
  exact Nat.mod_eq_of_lt h

theorem State.rd_copies_latched (s : State) {v : Nat} (h : v < 4) : (s.latched v).rd TN_LATCH.COPIES = v * 21 := by
  unfold State.latched
  rw [State.rd_wr_same _ _ _ (by decide)]
  exact Nat.mod_eq_of_lt (by simp only [TN_LATCH.COPIES]; omega)

/-- Two agreeing copies name an owner of two bits (R475). -/
theorem latchMajority_lt {copies v : Nat} (h : latchMajority copies = some v) : v < 4 := by
  have hlow := bits_lt copies 0 2
  have hmid := bits_lt copies 2 2
  unfold latchMajority at h
  dsimp only at h
  split at h
  · cases h; exact hlow
  · split at h
    · cases h; exact hmid
    · cases h

/-! ## A grant (R477, R479) -/

/-- The state in which no request waits. -/
def State.unasked (s : State) : State := { s with mg := { s.mg with request := 0 } }

/-- The latch moves to the owner `v` that asked for it, and the event bit and tally say so (R477). -/
def State.handed (s : State) (v : Nat) : State := ((s.unasked.latched v).flag MG_EVT.HANDOVER).tally 0x0700

/-- A handover hands the latch to the owner that waits, and asks for its EVENT record (R477, R488). -/
theorem State.finishHandover_eq (s : State) {v : Nat} (h : s.mg.request = v) (hv : v ≠ 0) :
    s.finishHandover = (s.handed v).ledgerEvent 0x04 [0, v, v * 21] := by
  obtain ⟨n, rfl⟩ := Nat.exists_eq_succ_of_ne_zero hv
  unfold State.finishHandover
  rw [h]
  rfl

section Handed
variable (s : State) {v : Nat}

theorem State.rd_tenure_handed (h : v < 4) : (s.handed v).rd MG_STAT.TENURE = v := by
  unfold State.handed
  rw [State.rd_congr (State.tally_regs _ _ _), State.rd_flag_other _ _ _ (by decide) (.inl (by decide)),
    State.rd_tenure_latched _ h]

theorem State.rd_copies_handed (h : v < 4) : (s.handed v).rd TN_LATCH.COPIES = v * 21 := by
  unfold State.handed
  rw [State.rd_congr (State.tally_regs _ _ _), State.rd_flag_other _ _ _ (by decide) (.inl (by decide)),
    State.rd_copies_latched _ h]

theorem State.rd_handover_handed : (s.handed v).rd MG_EVT.HANDOVER = 1 := by
  unfold State.handed
  rw [State.rd_congr (State.tally_regs _ _ _), State.rd_flag _ _ (by decide) (by decide)]

theorem State.tallyOf_handed : (s.handed v).tallyOf 0x0700 = min (2 ^ 48 - 1) (s.tallyOf 0x0700 + 1) :=
  State.tallyOf_tally _ (by decide)

end Handed

/-! ## A write of TN_CTRL (R477, R512) -/

/-- A request acts where the core does not hold tenure and none waits (R477, R479). -/
theorem State.askTenure_of_free (s : State) {h : Nat} (hother : s.hasTenure h = false) (hnone : s.mg.request = 0) :
    s.askTenure h = { s with mg := { s.mg with request := h + 1, requestAt := s.now } } := by
  simp [State.askTenure, hother, hnone]

theorem State.askTenure_of_holder (s : State) {h : Nat} (hholds : s.hasTenure h = true) : s.askTenure h = s := by
  simp [State.askTenure, hholds]

/-- A bit below the width of a field at bit 0 is the field's. -/
theorem bitAt_of_bits {v w n i : Nat} (h : bits v 0 w = n) (hi : i < w) : bitAt v i = bitAt n i := by
  subst h
  simp [bitAt, bits, Nat.testBit_mod_two_pow, hi]

theorem writeTnCtrl_of_zero (p : Path) {data : Nat} (s : State) (hd : bits data 0 2 = 0) :
    writeTnCtrl p data s = (.done, s) := by
  have hreq : bitAt data 0 = false := bitAt_of_bits hd (by decide)
  have hgrant : bitAt data 1 = false := bitAt_of_bits hd (by decide)
  cases p <;> simp [writeTnCtrl, State.mgmtOnly, pathHalf, hd, hreq, hgrant]

/-- A control transaction reaches neither field (R512). -/
theorem writeTnCtrl_of_ridge {data : Nat} (s : State) (hd : bits data 0 2 ≠ 0) :
    writeTnCtrl .ridge data s = (.denied, s) := by
  simp [writeTnCtrl, State.mgmtOnly, hd]

section Half
variable {p : Path} {h : Nat} (hp : pathHalf p = some h) {data : Nat} (s : State)
include hp

/-- A management core's own path reaches the fields that are the management cores' alone (R512). -/
theorem State.mgmtOnly_of_half (reaches : Bool) (f : State → Status × State) : s.mgmtOnly p reaches f = f s := by
  cases p with
  | ridge => cases hp
  | soffit => cases hp
  | mcN => cases reaches <;> rfl
  | mcS => cases reaches <;> rfl

/-- REQ alone asks for tenure (R477). -/
theorem writeTnCtrl_of_req (hd : bits data 0 2 = 1) : writeTnCtrl p data s = (.done, s.askTenure h) := by
  have hreq : bitAt data 0 = true := bitAt_of_bits hd (by decide)
  have hgrant : bitAt data 1 = false := bitAt_of_bits hd (by decide)
  simp [writeTnCtrl, s.mgmtOnly_of_half hp, hp, hreq, hgrant]

/-- GRANT alone is the holder's (R477). -/
theorem writeTnCtrl_of_grant (hd : bits data 0 2 = 2) :
    writeTnCtrl p data s = (.done, if s.hasTenure h = true then s.finishHandover else s) := by
  have hreq : bitAt data 0 = false := bitAt_of_bits hd (by decide)
  have hgrant : bitAt data 1 = true := bitAt_of_bits hd (by decide)
  simp [writeTnCtrl, s.mgmtOnly_of_half hp, hp, hreq, hgrant]

end Half

section TnCtrl
variable {c : U32 → Instr} {p : Path} {data : U32} {s : State}
  (hc : c = .tnReq p ∨ c = .tnGrant p) (w : s.Reaches p Addr.TN_CTRL)
include hc

/-- TN_REQ and TN_GRANT are both writes of TN_CTRL (R477). -/
theorem exec_tnCtrl : exec (c data) s = s.writeRow p Addr.TN_CTRL (writeTnCtrl p data.toNat) := by
  obtain rfl | rfl := hc <;> rfl

include w

/-- A write that TN_CTRL takes leaves what its meaning leaves. -/
theorem exec_tnCtrl_of_done {t : State} (h : writeTnCtrl p data.toNat s = (.done, t)) : exec (c data) s = .next t := by
  rw [exec_tnCtrl hc, s.writeRow_of_reaches p _ _ w (by rw [h]; rfl), h]

theorem exec_tnCtrl_of_ridge (hp : p = .ridge) (hd : bits data.toNat 0 2 ≠ 0) :
    exec (c data) s = .next (s.accErr .ridge Addr.TN_CTRL .denied true) := by
  subst hp
  rw [exec_tnCtrl hc, State.writeRow, s.writeAs_of_reaches _ _ _ w, writeTnCtrl_of_ridge s hd]
  rfl

end TnCtrl

/-! ## TENURE_MOVE (R464, R477) -/

/-- The arrival of a transaction leaves the heartbeats and the owner as they are. -/
theorem State.rd_mgStat_accepted (s : State) (l : Lane) (tag target : BitVec 16) (g : Nat) {f : Field}
    (hf : f.lo + f.w ≤ 32) (ha : f.addr = Addr.MG_STAT) : (s.accepted l tag target g).rd f = s.rd f := by
  have hl := l.isLt
  refine s.rd_accepted l tag target g f hf ?_ ?_ ?_ ?_ <;>
    simp only [ha, Addr.MG_STAT, Addr.RG_CTL_STAT, Addr.RG_REQ, Addr.RG_FRAMES_RX, Addr.RG_LANE_STAT] <;> omega

section Directive
variable (s : State) (r : DirReq) (code g : Nat)

theorem State.hasTenure_taken (h : Nat) : (s.taken r g).hasTenure h = s.hasTenure h := by
  unfold State.hasTenure
  rw [s.rd_mgStat_accepted _ _ _ _ (by decide) rfl]

theorem State.on_aliveBit_taken (h : Nat) : (s.taken r g).on (aliveBit h) = s.on (aliveBit h) := by
  unfold State.on
  rw [s.rd_mgStat_accepted _ _ _ _ (by unfold aliveBit; split <;> decide) (by unfold aliveBit; split <;> rfl)]

/-- A response on the Ridge changes neither the management cores' state nor a register (R361). -/
@[simp] theorem State.dirDone_carried_mg (v : Nat) : (s.dirDone (carried r code g) v).mg = s.mg := rfl

@[simp] theorem State.dirDone_carried_regs (v : Nat) : (s.dirDone (carried r code g) v).regs = s.regs := rfl

end Directive

section TenureMove
variable {s : State} {r : DirReq} {g : Nat} (ht : s.TakesDir 0x14 r g)
include ht

/-- TENURE_MOVE takes no argument, and names a core (R464). -/
theorem exec_tenureMove_of_bad (h : r.args ≠ [] ∨ 2 ≤ r.data.toNat) :
    exec (.tenureMove r) s = .next ((s.taken r g).dirBad (carried r 0x14 g)) := by
  refine congrArg Host.Outcome.next ((s.directive_of_takes _ r g noArgs dirTenureMove ht).trans ?_)
  by_cases hargs : r.args = []
  · have hdata : ¬ r.data.toNat ≤ 1 := by have := h.resolve_left (not_not_intro hargs); omega
    simp [hargs, noArgs, dirTenureMove, State.dirCheck, carried, hdata]
  · simp [hargs, noArgs]

/-- TENURE_MOVE for a core: DONE where it holds tenure, WRONG_STATE where it is stopped, else its request (R464). -/
theorem exec_tenureMove_of_half (h : Half) (hargs : r.args = []) (hdata : r.data.toNat = h.val) :
    exec (.tenureMove r) s = .next
      (if s.hasTenure h = true then (s.taken r g).dirDone (carried r 0x14 g) 0
      else if s.on (aliveBit h) = false then (s.taken r g).dirWrong (carried r 0x14 g) Addr.MG_STAT
      else ((s.taken r g).askTenure h).dirDone (carried r 0x14 g) 0) := by
  refine congrArg Host.Outcome.next ((s.directive_of_takes _ r g noArgs dirTenureMove ht).trans ?_)
  have hnamed : (carried r 0x14 g).data = h.val := hdata
  have hcore : h.val ≤ 1 := Nat.le_of_lt_succ h.isLt
  simp [hargs, noArgs, dirTenureMove, State.dirCheck, hnamed, hcore, State.hasTenure_taken, State.on_aliveBit_taken]

/-- TENURE_MOVE to a live core that does not hold tenure places its request (R477). -/
theorem completes_tenureMove_of_request (h : Half) (hargs : r.args = []) (hdata : r.data.toNat = h.val)
    (hother : s.hasTenure h = false) (halive : s.on (aliveBit h) = true) (hnone : s.mg.request = 0) :
    s.Completes (.tenureMove r) fun t =>
      t.mg.request = h + 1 ∧ t.mg.requestAt = s.now ∧ t.rd MG_STAT.TENURE = s.rd MG_STAT.TENURE := by
  have hasked := (s.taken r g).askTenure_of_free (h := h) (by rw [State.hasTenure_taken, hother])
    (by rw [State.mg_accepted, hnone])
  refine ⟨_, exec_tenureMove_of_half ht h hargs hdata, ?_⟩
  simp only [hother, halive, Bool.false_eq_true, Bool.true_eq_false, if_false, hasked, State.dirDone_carried_mg, true_and]
  refine ⟨congrArg TimeSt.d (s.time_accepted _ _ _ _), ?_⟩
  rw [State.rd_congr (State.dirDone_carried_regs _ _ _ _ _), State.rd_with_mg, s.rd_mgStat_accepted _ _ _ _ (by decide) rfl]

end TenureMove

/-! ## A dispute (R475) -/

/-- The latch set by rule for half `h`'s core; its own request has been met (R475). -/
def State.ruled (s : State) (h : Nat) : State :=
  if s.mg.request = h + 1 then (s.latched (h + 1)).unasked else s.latched (h + 1)

/-- The latch goes to MC-N, or to MC-S while MC-N is stopped (R475). -/
theorem State.dispute_eq (s : State) (h : Half) (halive : s.on MG_STAT.MCN_ALIVE = (h == 0)) :
    s.dispute =
      (((s.ruled h).event 0 MG_EVT.DISPUTE deviceWide).tally 0x0702).ledgerEvent 0x04 [2, h + 1, (h + 1) * 21] := by
  match h with
  | 0 => simp only [State.dispute, halive]; rfl
  | 1 => simp only [State.dispute, halive]; rfl

theorem State.ruled_regs (s : State) (h : Nat) : (s.ruled h).regs = (s.latched (h + 1)).regs := by
  unfold State.ruled
  split <;> rfl

theorem State.request_ruled (s : State) (h : Nat) : (s.ruled h).mg.request ≠ h + 1 := by
  unfold State.ruled
  split
  next => exact (Nat.succ_ne_zero h).symm
  next hne => exact hne

section Dispute
variable {s : State} {copies : BitVec 6} (hup : s.mgmtUp = true)
include hup

/-- Copies without a valid majority are a dispute (R475). -/
theorem exec_tenureDispute_of_none
    (hm : latchMajority copies.toNat = none ∨ latchMajority copies.toNat = some 3) :
    exec (.tenureDispute copies) s = .next s.dispute := by
  show execTenureDispute copies s = _
  obtain hm | hm := hm <;> simp [execTenureDispute, hup, hm]

/-- A valid majority repairs the copy that differs (R475, R486). -/
theorem exec_tenureDispute_of_majority {v : Nat} (hm : latchMajority copies.toNat = some v) (hv : v ≠ 3) :
    exec (.tenureDispute copies) s = .next (if copies.toNat = v * 21 then s else (s.latched v).tally 0x0102) := by
  show execTenureDispute copies s = _
  simp only [execTenureDispute, hup, hm, if_neg hv, Bool.not_true, Bool.false_eq_true, if_false]
  exact (apply_ite Host.Outcome.next _ _ _).symm

end Dispute

/-! ## Voted registers (R22, R502) -/

@[simp] theorem State.spoilReg_mg (s : State) (a : Nat) : (s.spoilReg a).mg = s.mg := by
  unfold State.spoilReg
  split <;> rfl

theorem State.reg_spoilReg_ne (s : State) {a b : Nat} (h : b ≠ a) : (s.spoilReg a).reg b = s.reg b := by
  unfold State.spoilReg
  split
  · rfl
  · exact State.reg_setReg_ne _ _ h

/-- The state in which a voted register is lost: counted, its fields open, and kept for its reload (R22, R502). -/
def State.voterLost (s : State) (a : Nat) : State :=
  let u := (s.tally 0x0122).spoilReg a
  { u with mg := { u.mg with voterBad := u.mg.voterBad.filter (· != a) ++ [a] } }

/-- Losing a register counts it and leaves every other register. -/
theorem State.voterLost_only (s : State) (a : Nat) :
    (∀ b, b ≠ a → (s.voterLost a).reg b = s.reg b) ∧ a ∈ (s.voterLost a).mg.voterBad ∧
      (s.voterLost a).tallyOf 0x0122 = min (2 ^ 48 - 1) (s.tallyOf 0x0122 + 1) := by
  refine ⟨fun b hb => State.reg_spoilReg_ne _ hb, by simp [State.voterLost], ?_⟩
  exact (State.tallyOf_congr (State.spoilReg_mg (s.tally 0x0122) a) _).trans (s.tallyOf_tally (by decide))

/-- The fatal error of a register that cannot be repaired, as its owner has it (R502). -/
def voterFatality (a : Nat) : Fatality :=
  if controlState a = true then { cause := 4, unit := unitId 0 0, addr := a, immediate := true, warm := true }
  else match ownerOf a with
    | some (k, i) =>
      { cause := 3, unit := unitId k i, addr := a, immediate := false, units := [(k, i)], warm := false }
    | none => { cause := 3, unit := unitId 0 0, addr := a, immediate := true, warm := true }

theorem exec_voterRepair_of_plain (s : State) (addr : U32) (ok : Bool) (hv : voted addr.toNat = false)
    (hs : controlState addr.toNat = false) : exec (.voterRepair addr ok) s = .next s := by
  show execVoterRepair addr ok s = _
  simp [execVoterRepair, hv, hs]

section VoterRepair
variable (s : State) {addr : U32} (h : voted addr.toNat = true ∨ controlState addr.toNat = true)
include h

/-- The majority rewrites the copy, which is counted (R22, R486). -/
theorem exec_voterRepair_of_repairable : exec (.voterRepair addr true) s = .next (s.tally 0x0102) := by
  show execVoterRepair addr true s = _
  have hheld : (voted addr.toNat || controlState addr.toNat) = true := by rwa [Bool.or_eq_true]
  simp [execVoterRepair, hheld]

/-- A disagreement that cannot be repaired is fatal (R22, R502). -/
theorem exec_voterRepair_of_lost :
    exec (.voterRepair addr false) s = .next ((s.voterLost addr.toNat).fatality (voterFatality addr.toNat)) := by
  have hheld : (voted addr.toNat || controlState addr.toNat) = true := by rwa [Bool.or_eq_true]
  show execVoterRepair addr false s = _
  simp only [execVoterRepair, hheld, Bool.not_true, Bool.false_eq_true, if_false, voterFatality]
  by_cases hc : controlState addr.toNat = true
  · rw [if_pos hc, if_pos hc]; rfl
  · rw [if_neg hc, if_neg hc]
    cases ownerOf addr.toNat <;> rfl

end VoterRepair

/-! ## The statement -/

/-- Settles O55: each clause is the rule of its command and what that rule's state reads as. The order of a write's two
fields and what a dispute is rest on log 116, the owner of a voted register on log 124: the model's choices. -/
theorem tenureAndVotersAreKept : Obligations.TenureAndVotersAreKept := by
  unfold Obligations.TenureAndVotersAreKept
  intro s
  refine ⟨fun c p data hc w => ⟨fun hp hd => ?denied, fun hd => ?nothing, fun h hp =>
      ⟨fun hd hother hnone => ?asked, fun hd hholds => ?ownRequest, fun hd hholds hreq => ?granted,
        fun hd hother => ?notHolder⟩⟩, fun hnone => ?noneWaits, fun hreq => ?withdrawn,
    fun r g ht => ⟨fun hbad => ?malformed, fun h hargs hdata =>
      ⟨fun hholds => ?inPlace, fun hother hstopped => ?stopped,
        completes_tenureMove_of_request ht h hargs hdata⟩⟩,
    fun copies => ⟨fun hdown => ?notUp, fun v hup hm hv => ⟨fun hsame => ?agreed, fun hne => ?repaired⟩,
      fun h hup hm halive => ?byRule⟩,
    fun addr => ⟨fun ok hv hs => ⟨s, exec_voterRepair_of_plain s addr ok hv hs, rfl⟩, fun hv => ⟨?counted, ?fatal⟩⟩⟩
  case denied => exact ⟨_, exec_tnCtrl_of_ridge hc w hp hd, rfl⟩
  case nothing => exact ⟨s, exec_tnCtrl_of_done hc w (writeTnCtrl_of_zero p s hd), rfl⟩
  case asked =>
    refine ⟨_, exec_tnCtrl_of_done hc w (writeTnCtrl_of_req hp s hd), ?_⟩
    rw [s.askTenure_of_free hother hnone]
    exact ⟨rfl, rfl, rfl⟩
  case ownRequest =>
    exact ⟨_, exec_tnCtrl_of_done hc w (writeTnCtrl_of_req hp s hd), s.askTenure_of_holder hholds⟩
  case granted =>
    have hv : 2 - h.val < 4 := by omega
    refine ⟨_, exec_tnCtrl_of_done hc w (writeTnCtrl_of_grant hp s hd), ?_⟩
    rw [if_pos hholds, s.finishHandover_eq hreq (by omega)]
    refine ⟨?_, ?_, ?_, State.ledgerEvent_request _ _ _, (State.tallyOf_ledgerEvent _ _ _ _).trans s.tallyOf_handed⟩
    · rw [State.rd_ledgerEvent _ _ _ (by decide) (by decide), s.rd_tenure_handed hv]
    · rw [State.rd_ledgerEvent _ _ _ (by decide) (by decide), s.rd_copies_handed hv]
    · rw [State.rd_ledgerEvent _ _ _ (by decide) (by decide), s.rd_handover_handed]
  case notHolder =>
    exact ⟨_, exec_tnCtrl_of_done hc w (writeTnCtrl_of_grant hp s hd), if_neg (by simp [hother])⟩
  case noneWaits => exact ⟨s, if_pos hnone, rfl⟩
  case withdrawn =>
    exact ⟨_, if_neg hreq, (s.advance (s.mg.requestAt + usTf 2000)).unasked, rfl, s.advance_regs _, rfl, rfl⟩
  case malformed => exact ⟨_, exec_tenureMove_of_bad ht hbad, rfl⟩
  case inPlace => exact ⟨_, exec_tenureMove_of_half ht h hargs hdata, if_pos hholds⟩
  case stopped =>
    exact ⟨_, exec_tenureMove_of_half ht h hargs hdata, (if_neg (by simp [hother])).trans (if_pos hstopped)⟩
  case notUp => exact ⟨s, if_pos (by simp [hdown]), rfl⟩
  case agreed => exact ⟨_, exec_tenureDispute_of_majority hup hm hv, if_pos hsame⟩
  case repaired =>
    have hlt := latchMajority_lt hm
    refine ⟨_, exec_tenureDispute_of_majority hup hm hv, ?_⟩
    rw [if_neg hne]
    exact ⟨(State.rd_congr (State.tally_regs _ _ _) _).trans (s.rd_tenure_latched hlt),
      (State.rd_congr (State.tally_regs _ _ _) _).trans (s.rd_copies_latched hlt), State.tallyOf_tally _ (by decide)⟩
  case byRule =>
    have hv : h.val + 1 < 4 := by omega
    exact ⟨_, exec_tenureDispute_of_none hup hm, s.ruled h,
      (State.rd_congr (s.ruled_regs h) _).trans (s.rd_tenure_latched hv),
      (State.rd_congr (s.ruled_regs h) _).trans (s.rd_copies_latched hv), s.request_ruled h, s.dispute_eq h halive⟩
  case counted => exact ⟨_, exec_voterRepair_of_repairable s hv, rfl, s.tallyOf_tally (by decide)⟩
  case fatal =>
    obtain ⟨hregs, hbad, htally⟩ := s.voterLost_only addr.toNat
    refine ⟨_, exec_voterRepair_of_lost s hv, s.voterLost addr.toNat, hregs, hbad, htally, fun hc => ?_,
      fun k i hc ho => ?_, fun hc ho => ?_⟩
    · simp only [voterFatality, hc, if_true]
    · simp only [voterFatality, hc, ho, Bool.false_eq_true, if_false]
    · simp only [voterFatality, hc, ho, Bool.false_eq_true, if_false]

end Sys2Proof.Machine
